-- ==== Sys2Proof/Word.lean ====
section
/-! DEFINITION. The two word types of the Uldane 7140 (a seven-bit character code, a five-bit station
code) and the saturating counters of its manual (spec/00_scope.md, Conventions). -/
namespace Sys2Proof

/-- A character code, 00h to 7Fh (spec/00_scope.md, Character codes). -/
abbrev Code := BitVec 7

/-- A station code, 0 to 31 (spec/00_scope.md, Station codes on the line). -/
abbrev Station := BitVec 5

/-- `n` raised by one, staying at `top` (Conventions: a quantity said to saturate). -/
def satSucc (top n : Nat) : Nat := min (n + 1) top

/-- `n` raised by `k`, staying at `top`. -/
def satAdd (top n k : Nat) : Nat := min (n + k) top

end Sys2Proof
end

