-- ==== Sys2Proof/Syntax.lean ====
section
/-! DEFINITION. The commands of the block: one constructor of `Instr` per row of spec/opcode_table.json.
The table gives its rows no operands; an operand here is what the surroundings alone know at that step
(the pins at a reset, the samples of the line, the raw counts of the matrix, a test's finding). -/
namespace Sys2Proof

/-- What the part reads at a reset: the twelve strap pins (R199) and the inputs read afresh at its end
(SUPPLY LOW R166, TAPE OUT R192, TAPE LOW R185, PAPER R160). -/
structure Pins where
  code      : BitVec 5
  speed     : BitVec 3
  monitor   : Bool
  punchsel  : BitVec 2
  setup     : Bool
  supplyLow : Bool
  tapeLow   : Bool
  tapeOut   : Bool
  paper     : Bool
  deriving DecidableEq, Repr

/-- The finding of an off-state test (R195). -/
inductive TestFinding where
  | passed
  | opened
  | shorted
  deriving DecidableEq, Repr

/-- The 17 driver channels (R193): needles N1 to N7, punch magnets P1 to P8, TA and MOT. -/
inductive Channel where
  | needle (i : Fin 7)
  | track  (i : Fin 8)
  | tapeAdvance
  | motion
  deriving DecidableEq, Repr

/-- The commands, in the order of spec/opcode_table.json. -/
inductive Instr where
  | powerOnReset (pins : Pins)
  | resetPin (pins : Pins)
  | settlingEnd
  /-- `samples`: the start element's samples 7, 8, 9; a set bit is mark. -/
  | start (samples : BitVec 3)
  /-- `samples`: samples 7, 8, 9 of elements 1 to 9; bits 3(e-1) to 3(e-1)+2 are those of element e, a set
  bit is mark. -/
  | characterReceived (samples : BitVec 27)
  | generatedRecordTaken
  | heldEventRetry
  | firstMarkSample
  | endOfStopElement
  | breakBegun
  | lineOpen
  | restoration
  | stall
  /-- `lastMark`: the sample the transmitter has just taken read mark (R35). -/
  | deferralComplete (lastMark : Bool)
  | characterSent
  /-- `element`: the element, 1 to 9, of the character in hand that was read back as space (R36). -/
  | mismatch (element : Nat)
  | holdEnded
  | receiptWatchDeadline
  /-- `counts`: the raw counts of the 64 positions, position 0 first (R102). -/
  | keyScan (counts : List Nat)
  | seedingScan (counts : List Nat)
  | seeded (counts : List Nat)
  | pressEvent (position : Nat)
  | repeatEvent
  | stuckKey (position : Nat)
  | excursionReseed (position : Nat)
  | attendTimerExpiry
  | restMeasureExpiry
  | dormancyMeasureExpiry
  | characterKey
  | modifierKey
  | callKey
  | returnKey
  | ruboutKey
  | sendKey
  | queryKey
  | hereKey
  | cancelKey
  | breakKey
  | localKey
  | attendKey
  | statusKey
  | feedKey
  | punchKey
  | ctrlFeed
  | ctrlHere
  | ctrlLocal
  /-- `lastMark`: as for `deferralComplete`, should a waiting IDENT block start at this step (R71). -/
  | writeCycleStep (lastMark : Bool)
  | lockCycleEnd (lastMark : Bool)
  | coolingStep
  | slotBoundary
  /-- `finding`: what the off-state test finds, when the grant that ends is TEST's (R195). -/
  | grantEnd (finding : TestFinding)
  | testRequestTimeout
  | idleSweep
  | overcurrentFinding (channel : Channel)
  | stepEnd
  /-- `home`: the stall-sense shows home (R154). -/
  | carriageReturnStep (home : Bool)
  | carriageReturnEnd
  | jam
  | lineFeedEnd
  | spinUpEnd
  /-- `absent`: the level PAPER has changed to, absent unless said; the return of paper starts the paper measure (R156,
  R157, log 22). -/
  | paperAbsent (absent : Bool := true)
  | paperRestored
  | supplyLowOnset
  | supplyLowEnd
  | takingAClaim
  | advancingEnd
  /-- `active`: the level TAPE OUT has changed to, active unless said; its end starts the tape measure
  (R186, R187, log 22). -/
  | tapeOut (active : Bool := true)
  | tapeRestored
  /-- `active`: the level TAPE LOW has changed to (R185). -/
  | tapeLow (active : Bool)
  | markToSpaceEdge
  | rowSettlingEnd
  | lossOfPower
  deriving DecidableEq, Repr

end Sys2Proof
end

