-- ==== Sys2Proof/Decode.lean ====
section
/-! DEFINITION. The decoder. spec/opcode_table.json gives no row any bits (its "fields" are all empty and
spec/98_reader.md counts no row with fixed bits), so no word spells a command (log 28). -/
namespace Sys2Proof

/-- The command that a word of `nbits` bits spells by the table: none, for the table gives no bits. -/
def decodeTableWord (_nbits _w : Nat) : Option Instr := none

end Sys2Proof
end

