-- ==== Sys2Proof/Config.lean ====
section
/-! DEFINITION. The fixed sizes of the Uldane 7140. The manual leaves no result of a command open, so no
constant here is without a body: there is no free value in this model (log 35). -/
namespace Sys2Proof

/-- Cells of the store's ring (R1). -/
abbrev storeCells : Nat := 4096

/-- Descriptors of the store's table (R2). -/
abbrev maxRecords : Nat := 24

/-- Cells of the compose memory (R125). -/
abbrev composeCells : Nat := 1024

/-- Compositions that may exist together (R124). -/
abbrev maxCompositions : Nat := 4

/-- Entries of the reply queue (R63). -/
abbrev maxReplies : Nat := 2

/-- Press events of the key event queue (R115). -/
abbrev maxPresses : Nat := 16

/-- Characters of an identity text or draft (R83, R85). -/
abbrev maxIdentity : Nat := 20

/-- Positions of the sense matrix (R101). -/
abbrev keyPositions : Nat := 64

end Sys2Proof
end

