-- ==== Sys2Proof/Machine/State.lean ====
section
/-! DEFINITION. The state of the Uldane 7140 as plain data, block by block as spec/00_scope.md lists them
(INVENTORY.md, heading State, has every field with its rule), and the state right after power-on reset. -/
namespace Sys2Proof.Machine

/-! ### Straps and line -/

/-- The strap values sampled at the last reset (R199). -/
structure Straps where
  code     : Station
  speed    : BitVec 3
  monitor  : Bool
  punchsel : BitVec 2
  setup    : Bool
  deriving DecidableEq, Repr

/-- Sampler states (R25). -/
inductive SamplerState where
  | settling | hunting | framing | waitingMark
  deriving DecidableEq, Repr

/-- Line conditions (R30). -/
inductive LineCondition where
  | quiet | busy | inBreak | lineOpen
  deriving DecidableEq, Repr

/-- Transmitter states (R37): SHIFTING holds the character and the instant its start element began,
HOLDING the instant the hold runs out. -/
inductive TxState where
  | idle
  | shifting (char : Code) (since : Nat)
  | holding (until' : Nat)
  deriving DecidableEq, Repr

/-- The Line Interface (R25 to R38). `lastEdge` is where the space measure starts, `markSince` where the mark measure
does (logs 17, 44). -/
structure LineIf where
  sampler        : SamplerState
  frameStart     : Nat
  startConfirmed : Bool
  nullHeld       : Bool
  condition      : LineCondition
  quietSince     : Nat
  lastEdge       : Nat
  markSince      : Nat
  breakEdge      : Nat
  stopEnd        : Option Nat
  tx             : TxState
  deriving DecidableEq, Repr

/-! ### Blocks -/

/-- Parser states (R39). -/
inductive Parser where
  | idle | dests | sender | kind | text | skip
  deriving DecidableEq, Repr

/-- A destination list: station codes in order, or ALL (R39, R124). -/
inductive Dests where
  | codes (l : List Station)
  | all
  deriving DecidableEq, Repr

/-- Kinds of block (R43). -/
inductive BlockKind where
  | body | query | ident | receipt
  deriving DecidableEq, Repr

/-- Record kinds (R3). -/
inductive RecKind where
  | received | overheard | sent | localTyping | ident | confirm | status
  deriving DecidableEq, Repr

/-- Dispositions (R47). -/
inductive Disposition where
  | undecided
  | passedOver
  | recorded (kind : RecKind)
  | identityQuery
  | candidateReceipt
  deriving DecidableEq, Repr

/-- Record status: the store's answer to the block's open request (R39). -/
inductive RecordStatus where
  | none | opened | noRecord
  deriving DecidableEq, Repr

/-- The Block Receiver (R39). MONITOR is held once, in `Straps`. -/
structure Receiver where
  parser       : Parser
  dests        : Dests
  senderCode   : Option Station
  kind         : Option BlockKind
  disposition  : Disposition
  recordStatus : RecordStatus
  contentCount : Nat
  contentError : Bool
  firstContent : Option Code
  held         : Option Code
  breakPending : Bool
  stall        : Option Nat
  lastStart    : Nat
  deriving DecidableEq, Repr

/-! ### Sender -/

/-- Receipt outcomes (R56): good, truncated, errors, not stored. -/
inductive Letter where
  | k | t | e | x
  deriving DecidableEq, Repr

/-- Transmit states of the Sender (R61). -/
inductive SendState where
  | idle | deferring | sending | breaking
  deriving DecidableEq, Repr

/-- An entry of the reply queue (R63). -/
inductive Reply where
  | ident (dest : Station)
  | receipt (dest : Station) (letter : Letter)
  deriving DecidableEq, Repr

/-- The Sender's source (R61); a composition is named by its serial number (log 29). -/
inductive Source where
  | none
  | reply
  | comp (serial : Nat)
  deriving DecidableEq, Repr

/-- The receipt watch (R79). -/
inductive Watch where
  | none
  | waiting (dest : Station) (deadline : Nat) (comp : Nat)
  deriving DecidableEq, Repr

/-- The Sender (R61). `span` is none while no span runs, and `spanReached` marks a span reached that waits for the
identity memory (R71, log 33). -/
structure Sender where
  state        : SendState
  replies      : List Reply
  source       : Source
  span         : Option Nat
  draw         : Nat
  courtesy     : Bool
  block        : List Code
  position     : Nat
  headerLength : Nat
  abandoning   : Bool
  watch        : Watch
  generator    : BitVec 16
  spanReached  : Bool
  deriving DecidableEq, Repr

/-! ### Answer Unit -/

/-- The non-volatile identity memory (R83): 20 character positions, the length, the stored valid marker,
the lock mark and the open-cycle mark. -/
structure IdMemory where
  text      : List Code
  length    : Nat
  valid     : Bool
  lock      : Bool
  openCycle : Bool
  deriving DecidableEq, Repr

/-- The memory's cycle state (R83): IDLE, or WRITING in a write cycle (its text, the step in hand from 1,
that step's start) or in a lock cycle (its start). -/
inductive Cycle where
  | idle
  | write (text : List Code) (step : Nat) (since : Nat)
  | lock (since : Nat)
  deriving DecidableEq, Repr

/-- Attend modes (R93). -/
inductive Attend where
  | attended | unattended
  deriving DecidableEq, Repr

/-- Power states (R95). -/
inductive Power where
  | active | quiet | dormant
  deriving DecidableEq, Repr

/-- The Answer Unit (R83 to R100). -/
structure Answer where
  memory      : IdMemory
  cycle       : Cycle
  writeLatch  : Bool
  draft       : Option (List Code)
  attend      : Attend
  attendSince : Nat
  power       : Power
  rest        : Option Nat
  dormancy    : Option Nat
  deriving DecidableEq, Repr

/-! ### Message Store -/

/-- End reasons (R5). -/
inductive EndReason where
  | complete | broken | stalled | abandoned | lineLost | restarted | split
  deriving DecidableEq, Repr

/-- A record's state; its end reason is present when CLOSED (R3). -/
inductive RecState where
  | opened
  | closed (reason : EndReason)
  deriving DecidableEq, Repr

/-- A print claim (R3). -/
structure PrintClaim where
  pos  : Nat
  done : Bool
  deriving DecidableEq, Repr

/-- A punch claim (R3). -/
structure PunchClaim where
  pos     : Nat
  done    : Bool
  skipped : Bool
  deriving DecidableEq, Repr

/-- A record descriptor (R3). -/
structure Rec where
  kind      : RecKind
  peer      : Option Station
  start     : Nat
  length    : Nat
  state     : RecState
  errors    : Nat
  truncated : Bool
  dropped   : Nat
  print     : PrintClaim
  punch     : Option PunchClaim
  deriving DecidableEq, Repr

/-- A pending generated request (R11); a CONFIRM's letter is absent for NONE (R81). -/
inductive GenRequest where
  | confirm (dest : Station) (letter : Option Letter)
  | status
  deriving DecidableEq, Repr

/-- The Message Store (R1 to R22). `recs` is head first. -/
structure Store where
  cells    : List Host.Cell
  w        : Nat
  recs     : List Rec
  requests : List GenRequest
  deriving DecidableEq, Repr

/-! ### Keyboard -/

/-- Key states (R102). -/
inductive KeyState where
  | idle | entering | pressed | leaving
  deriving DecidableEq, Repr

/-- A sensing record (R102); `stuckSince` is the stuck measure's start. -/
structure KeyRec where
  f          : Nat
  l16        : Nat
  state      : KeyState
  debounce   : Nat
  excursion  : Nat
  stuckSince : Option Nat
  deriving DecidableEq, Repr

/-- The Key Sense Unit (R102, R114, R119); `recs` holds the 64 positions in order. -/
structure KeySense where
  recs          : List KeyRec
  seeding       : Nat
  lastScan      : Nat
  repeatMeasure : Option (Nat × Nat)
  deriving DecidableEq, Repr

/-- A press event (R113). -/
structure Press where
  position : Nat
  shift    : Bool
  ctrl     : Bool
  repeated : Bool
  deriving DecidableEq, Repr

/-- The keyboard mode (R123). -/
inductive Mode where
  | line | localMode
  deriving DecidableEq, Repr

/-- A text unit of a composition (R125): one character, or the line end CR LF. -/
inductive TextUnit where
  | char (c : Code)
  | lineEnd
  deriving DecidableEq, Repr

/-- Composition kinds (R124). -/
inductive CompKind where
  | message | query | here
  deriving DecidableEq, Repr

/-- Composition states (R124). -/
inductive CompState where
  | openAddressing | openText | ready | sending | awaiting | held
  deriving DecidableEq, Repr

/-- A composition (R124). -/
structure Comp where
  serial       : Nat
  kind         : CompKind
  dests        : Dests
  pendingDigit : Option Nat
  text         : List TextUnit
  yields       : Nat
  state        : CompState
  deriving DecidableEq, Repr

/-- The Keyboard Interpreter (R123). `comps` is oldest first. -/
structure Interp where
  queue      : List Press
  held       : Option (Press × List Code)
  mode       : Mode
  localOpen  : Bool
  comps      : List Comp
  nextSerial : Nat
  deriving DecidableEq, Repr

/-! ### Printing -/

/-- Printer states (R142). -/
inductive PrinterState where
  | off | starting | ready | printing | paperOut | fault
  deriving DecidableEq, Repr

/-- Record phases (R142, R145). -/
inductive Phase where
  | none | align | heading | text | closing | endLines
  deriving DecidableEq, Repr

/-- How far the character in hand is (R152): waiting for its grant, firing, its step due, stepping. -/
inductive HandStage where
  | waiting | firing | stepDue | stepping
  deriving DecidableEq, Repr

/-- The character in hand (R142): its code, fired dot count and the needles (0 for N1) it strikes. -/
structure Hand where
  char    : Code
  dots    : Nat
  needles : List Nat
  stage   : HandStage
  deriving DecidableEq, Repr

/-- Why a return or a feed is made (R148, R153, R155, R157). -/
inductive MotionCause where
  | owed | cell | pair | feedKey
  deriving DecidableEq, Repr

/-- What the motion driver is doing (R142, R153, R154). -/
inductive Motion where
  | none
  | step (since : Nat)
  | carriage (steps permitted : Nat) (settling : Bool) (since : Nat) (cause : MotionCause)
  | feed (since : Nat) (cause : MotionCause)
  deriving DecidableEq, Repr

/-- The selector of the motion driver (R153). -/
inductive Selector where
  | carriage | feed
  deriving DecidableEq, Repr

/-- What is still owed of a return-and-feed pair (R153). -/
inductive Pair where
  | none | both | feedOnly
  deriving DecidableEq, Repr

/-- A stop that waits for the firing, step or motion in hand to complete (R156, R159). -/
inductive Stop where
  | none | paperOut | fault
  deriving DecidableEq, Repr

/-- The Print Controller (R142); needles are numbered from 0 for N1. -/
structure Printer where
  state        : PrinterState
  column       : Option Nat
  phase        : Phase
  index        : Nat
  hand         : Option Hand
  motion       : Motion
  selector     : Selector
  pair         : Pair
  pendingFeeds : Nat
  returnOwed   : Bool
  excluded     : List Nat
  paperAbsent  : Bool
  paperMeasure : Option Nat
  spinUp       : Nat
  spunUp       : Bool
  stop         : Stop
  deriving DecidableEq, Repr

/-! ### Pacing and supply -/

/-- Pacing states (R169). -/
inductive Pacing where
  | cool | warm | hot
  deriving DecidableEq, Repr

/-- The Head Pacer (R167 to R170). -/
structure Pacer where
  h         : Nat
  state     : Pacing
  lastFired : Bool
  steps     : Nat
  deriving DecidableEq, Repr

/-- The parties of the magnet supply (R162). -/
inductive Party where
  | print | punch | test
  deriving DecidableEq, Repr

/-- The Magnet Supply Arbiter (R162); `last` is PRINT or PUNCH. -/
structure Arbiter where
  holder    : Option Party
  until'    : Nat
  waitPrint : Bool
  waitPunch : Bool
  waitTest  : Bool
  last      : Party
  supplyLow : Bool
  deriving DecidableEq, Repr

/-! ### Punch -/

/-- Punch states (R175). -/
inductive PunchState where
  | idle | running | suspended | tapeOut | fault
  deriving DecidableEq, Repr

/-- What a punch row carries (R178, R179, R188). -/
inductive RowContent where
  | leader
  | manual
  | cell (c : Code)
  deriving DecidableEq, Repr

/-- The parts of a row's cycle (R180); `advanceDue` is a fired row whose advance may not begin yet (R195). -/
inductive RowStage where
  | waiting | firing | advanceDue | advancing | settling
  deriving DecidableEq, Repr

/-- The row in hand (R175) and the start of its present part. -/
structure Row where
  content : RowContent
  stage   : RowStage
  since   : Nat
  deriving DecidableEq, Repr

/-- The Punch Controller (R175). -/
structure Punch where
  state          : PunchState
  leader         : Nat
  row            : Option Row
  suspendPending : Bool
  tapeOutPending : Bool
  faultPending   : Bool
  manual         : Nat
  tapeOutActive  : Bool
  tapeMeasure    : Option Nat
  deriving DecidableEq, Repr

/-! ### Diagnostics and Status -/

/-- Latched codes of a channel, worst first (R193). -/
inductive ChanCode where
  | overcurrent | shorted | opened | passed | notTested
  deriving DecidableEq, Repr

/-- The 18 events, in the order a report names them (R200). -/
inductive Event where
  | power | restart | lineLost | breakHeard | duplicateCode | storeFull | punchSkipped | replyLost
  | keyOverrun | stuckKey | warm | hot | paperOut | tapeOut | jam | supplyLow | selfCheck | identityLost
  deriving DecidableEq, Repr

/-- The three kinds of sweep (R197). -/
inductive SweepKind where
  | selfCheck | status | idle
  deriving DecidableEq, Repr

/-- The test of the sweep's channel: its request not yet made, waiting at the Arbiter since an instant, or
under its grant (R195). -/
inductive TestStage where
  | due
  | waiting (since : Nat)
  | granted
  deriving DecidableEq, Repr

/-- A sweep in hand (R197): the channel's index from 0 and the findings kept so far (absent: untested). -/
structure Sweep where
  kind     : SweepKind
  index    : Nat
  findings : List (Option TestFinding)
  stage    : TestStage
  deriving DecidableEq, Repr

/-- A channel under a TEST grant, and whether its finding counts for the sweep in hand (R197). -/
structure Testing where
  index  : Nat
  counts : Bool
  deriving DecidableEq, Repr

/-- States of the STATUS request (R202). -/
inductive StatusRequest where
  | none | sweeping | pending
  deriving DecidableEq, Repr

/-- Diagnostics and Status (R193 to R207). -/
structure Diag where
  codes      : List ChanCode
  latched    : List Event
  again      : List Event
  errorTotal : Nat
  request    : StatusRequest
  sweep      : Option Sweep
  testing    : Option Testing
  findings   : List (Option TestFinding)
  idleSince  : Option Nat
  starting   : Bool
  tapeLow    : Bool
  deriving DecidableEq, Repr

/-! ### The machine -/

/-- The whole part. `now` is in ticks of 1/264000 s since the last reset (log 1); `pending` is the queue of
commands, front first; `bells` counts the strokes of the bell output (log 27). -/
structure State where
  now     : Nat
  powered : Bool
  pending : List Instr
  bells   : Nat
  straps  : Straps
  line    : LineIf
  recv    : Receiver
  sender  : Sender
  answer  : Answer
  store   : Store
  keys    : KeySense
  interp  : Interp
  printer : Printer
  pacer   : Pacer
  arb     : Arbiter
  punch   : Punch
  diag    : Diag
  deriving DecidableEq, Repr

/-- No command stops the part: its own faults are states of its blocks (R159, R189), so this type has no
constructor and no step answers a fault (log 35). -/
inductive Fault where
  deriving DecidableEq, Repr

/-- Why the model itself would decline a command. -/
inductive Refusal where
  /-- Raised by an arm of `exec` whose command has no meaning yet (none is left). Safe: the model stops where
  the part goes on. -/
  | notModelled (mnemonic : String)
  deriving DecidableEq, Repr

/-! ### Reset values -/

/-- The Line Interface after either reset (R38). -/
def LineIf.reset : LineIf :=
  { sampler := .settling, frameStart := 0, startConfirmed := false, nullHeld := false, condition := .busy,
    quietSince := 0, lastEdge := 0, markSince := 0, breakEdge := 0, stopEnd := none, tx := .idle }

/-- The Block Receiver after either reset (R60; log 33). -/
def Receiver.reset : Receiver :=
  { parser := .idle, dests := .codes [], senderCode := none, kind := none, disposition := .undecided,
    recordStatus := .none, contentCount := 0, contentError := false, firstContent := none, held := none,
    breakPending := false, stall := none, lastStart := 0 }

/-- The Sender after either reset at a station of code 0 (R68, R82). That no span runs is the model's choice, as are the
bookkeeping values (log 33). -/
def Sender.reset : Sender :=
  { state := .idle, replies := [], source := .none, span := none, draw := 0, courtesy := false, block := [],
    position := 0, headerLength := 0, abandoning := false, watch := .none, generator := 0x8000#16,
    spanReached := false }

/-- The identity memory as delivered (R83; the contents of the 20 positions are log 10). -/
def IdMemory.delivered : IdMemory :=
  { text := List.replicate 20 0#7, length := 0, valid := false, lock := false, openCycle := false }

/-- The Answer Unit after either reset, with a memory as delivered (R100). -/
def Answer.reset : Answer :=
  { memory := .delivered, cycle := .idle, writeLatch := false, draft := none, attend := .attended,
    attendSince := 0, power := .active, rest := none, dormancy := none }

/-- The store after power-on reset (R21). -/
def Store.reset : Store := { cells := [], w := 0, recs := [], requests := [] }

/-- A sensing record after a reset (R120; F and L16 before the first seeding scan are log 9). -/
def KeyRec.reset : KeyRec :=
  { f := 0, l16 := 0, state := .idle, debounce := 0, excursion := 0, stuckSince := none }

/-- The Key Sense Unit after either reset (R119, R120). -/
def KeySense.reset : KeySense :=
  { recs := List.replicate 64 KeyRec.reset, seeding := 0, lastScan := 0, repeatMeasure := none }

/-- The Keyboard Interpreter after power-on reset (R141). -/
def Interp.reset : Interp :=
  { queue := [], held := none, mode := .line, localOpen := false, comps := [], nextSerial := 0 }

/-- The Print Controller after either reset (R160). -/
def Printer.reset : Printer :=
  { state := .starting, column := none, phase := .none, index := 0, hand := none, motion := .none,
    selector := .carriage, pair := .none, pendingFeeds := 0, returnOwed := true, excluded := [],
    paperAbsent := false, paperMeasure := none, spinUp := 0, spunUp := false, stop := .none }

/-- The Head Pacer after power-on reset (R174). -/
def Pacer.reset : Pacer := { h := 0, state := .cool, lastFired := false, steps := 0 }

/-- The Arbiter after either reset, before the self-check's first request (R166). With no holder the grant has no end, and
`until'` is the model's 0 (log 33). -/
def Arbiter.reset : Arbiter :=
  { holder := none, until' := 0, waitPrint := false, waitPunch := false, waitTest := false, last := .punch,
    supplyLow := false }

/-- The Punch Controller after either reset (R192). -/
def Punch.reset : Punch :=
  { state := .idle, leader := 0, row := none, suspendPending := false, tapeOutPending := false,
    faultPending := false, manual := 0, tapeOutActive := false, tapeMeasure := none }

/-- Diagnostics and Status after power-on reset, before the self-check begins (R200, R201, R207). -/
def Diag.reset : Diag :=
  { codes := List.replicate 17 .notTested, latched := [.power], again := [.power], errorTotal := 0,
    request := .none, sweep := none, testing := none, findings := List.replicate 17 none,
    idleSince := none, starting := true, tapeLow := false }

/-- The part at the end of power-on reset, its self-check not yet begun. -/
def State.atReset : State :=
  { now := 0, powered := true, pending := [], bells := 0,
    straps := { code := 0#5, speed := 0#3, monitor := false, punchsel := 0#2, setup := false },
    line := .reset, recv := .reset, sender := .reset, answer := .reset, store := .reset, keys := .reset,
    interp := .reset, printer := .reset, pacer := .reset, arb := .reset, punch := .reset, diag := .reset }

/-- The machine right after power-on reset, with the pins of log 6 (every strap pin 0, paper under the head,
tape in the punch, the supply not low): the self-check has begun and its first test, of N1, is under its
2 ms grant (R162, R198). -/
def State.reset : State :=
  { State.atReset with
    arb := { Arbiter.reset with holder := some .test, until' := 528 },
    diag := { Diag.reset with
      sweep := some { kind := .selfCheck, index := 0, findings := List.replicate 17 none, stage := .granted },
      testing := some { index := 0, counts := true } } }

end Sys2Proof.Machine
end

