-- ==== Sys2Proof/WellFormed.lean ====
section
/-! DEFINITION. Which commands are well formed: the operands whose type is wider than what the manual
allows. An ill-formed command names no event of the part and changes nothing (log 3). -/
namespace Sys2Proof

/-- A key of the sense matrix: any of the 64 positions but the reference pads 0 and 7 (R101). -/
def isKeyPosition (p : Nat) : Bool := p < keyPositions && p != 0 && p != 7

/-- The check of one command. -/
def Instr.wellFormed : Instr → Bool
  | .keyScan counts | .seedingScan counts | .seeded counts => counts.length == keyPositions
  | .pressEvent p | .stuckKey p | .excursionReseed p => isKeyPosition p
  | .mismatch e => 1 ≤ e && e ≤ 9
  | _ => true

end Sys2Proof
end

