-- ==== Sys2Proof/Machine/Operands.lean ====
section
/-! DEFINITION. The operand forms of the commands and the fixed tables they are read by: character codes and
texts (spec/00_scope.md), line samples and elements (R26, R27, R35), the key position map and its
characters (R101, R121, R122), the glyphs (R150) and the channel order (R193). -/
namespace Sys2Proof.Machine

/-! ### Character codes and texts -/

abbrev chNul : Code := 0x00#7
abbrev chCall : Code := 0x01#7
abbrev chFrom : Code := 0x02#7
abbrev chBody : Code := 0x03#7
abbrev chOver : Code := 0x04#7
abbrev chQuery : Code := 0x05#7
abbrev chIdent : Code := 0x06#7
abbrev chBell : Code := 0x07#7
abbrev chLf : Code := 0x0A#7
abbrev chCr : Code := 0x0D#7
abbrev chReceipt : Code := 0x0E#7
abbrev chAbandon : Code := 0x18#7
abbrev chSpace : Code := 0x20#7
abbrev chStar : Code := 0x2A#7
abbrev chErrorGlyph : Code := 0x7F#7

/-- The code of a printing character. -/
def codeOf (c : Char) : Code := BitVec.ofNat 7 c.toNat

/-- A fixed text as codes. -/
def textOf (t : String) : List Code := t.toList.map codeOf

/-- CR LF. -/
def crLf : List Code := [chCr, chLf]

/-- The character of a decimal digit. -/
def digitCode (d : Nat) : Code := BitVec.ofNat 7 (0x30 + d % 10)

/-- `n` in two decimal digits. -/
def twoDigits (n : Nat) : List Code := [digitCode (n / 10), digitCode n]

/-- `n` in three decimal digits. -/
def threeDigits (n : Nat) : List Code := digitCode (n / 100) :: twoDigits n

/-- `n` in four decimal digits. -/
def fourDigits (n : Nat) : List Code := digitCode (n / 1000) :: threeDigits n

/-- `n`, at most 65535, in decimal without leading zeros (R147). -/
def plainDecimal (n : Nat) : List Code :=
  if n < 10 then [digitCode n]
  else if n < 100 then twoDigits n
  else if n < 1000 then threeDigits n
  else if n < 10000 then fourDigits n
  else digitCode (n / 10000) :: fourDigits n

/-- A printing character for the printer: 20h to 7Fh (R148). -/
def isPrinting (c : Code) : Bool := 0x20 ≤ c.toNat

/-- A code character, 40h to 5Fh, stands for a station code (R39). -/
def stationOf (c : Code) : Option Station :=
  if 0x40 ≤ c.toNat && c.toNat ≤ 0x5F then some (BitVec.ofNat 5 (c.toNat - 0x40)) else none

/-- Station code c is sent as the character 40h + c (R24). -/
def stationChar (c : Station) : Code := BitVec.ofNat 7 (0x40 + c.toNat)

/-- The outcome letter's character (R63). -/
def Letter.code : Letter → Code
  | .k => codeOf 'K'
  | .t => codeOf 'T'
  | .e => codeOf 'E'
  | .x => codeOf 'X'

/-- The outcome a character stands for (R51). -/
def letterOf (c : Code) : Option Letter :=
  if c = codeOf 'K' then some .k
  else if c = codeOf 'T' then some .t
  else if c = codeOf 'E' then some .e
  else if c = codeOf 'X' then some .x
  else none

/-- The characters of a destination list (R72). -/
def destChars : Dests → List Code
  | .codes l => l.map stationChar
  | .all => [chStar]

/-- A block's header: CALL, the destinations, FROM, the own code character (Formats, R72). -/
def headerOf (d : Dests) (own : Station) : List Code :=
  chCall :: destChars d ++ [chFrom, stationChar own]

/-- The cells of a text unit (R125). -/
def TextUnit.codes : TextUnit → List Code
  | .char c => [c]
  | .lineEnd => crLf

/-- The cells of a composition's text (R125). -/
def Comp.codes (c : Comp) : List Code := c.text.flatMap TextUnit.codes

/-- The number of those cells. -/
def Comp.cells (c : Comp) : Nat := c.codes.length

/-! ### Line samples and elements -/

/-- The majority of an element's samples 7, 8 and 9 (R26, R27). -/
def majority (v : BitVec 3) : Bool :=
  (v.getLsbD 0 && v.getLsbD 1) || (v.getLsbD 0 && v.getLsbD 2) || (v.getLsbD 1 && v.getLsbD 2)

/-- Element e, 1 to 9, of a character, as decided from its samples (R27). -/
def elementOf (samples : BitVec 27) (e : Nat) : Bool :=
  majority (samples.extractLsb' (3 * (e - 1)) 3)

/-- The code of elements 1 to 7, least significant first (R27). -/
def codeFrom (samples : BitVec 27) : Code :=
  BitVec.ofBoolListLE ((List.range 7).map fun i => elementOf samples (i + 1))

/-- The number of marks among elements 1 to `n`. -/
def marks (samples : BitVec 27) (n : Nat) : Nat :=
  ((List.range n).filter fun i => elementOf samples (i + 1)).length

/-- The parity check fails when elements 1 to 8 hold an odd number of marks (R27). -/
def parityError (samples : BitVec 27) : Bool := marks samples 8 % 2 == 1

/-- A stop element decided space is a framing error (R27). -/
def framingError (samples : BitVec 27) : Bool := !elementOf samples 9

/-- Elements 1 to 9 all space: with the confirmed start, a null frame (R28). -/
def isNullFrame (samples : BitVec 27) : Bool := marks samples 9 == 0

/-- Whether element `e` of character `c` is sent as mark (R35): the start space, the seven data bits least
significant first, the parity that makes elements 1 to 8 even, the stop mark. -/
def sentMark (c : Code) (e : Nat) : Bool :=
  if e = 0 then false
  else if e ≤ 7 then c.getLsbD (e - 1)
  else if e = 8 then ((List.range 7).filter fun i => c.getLsbD i).length % 2 == 1
  else true

/-! ### Keys -/

/-- Key positions of drive lines 6 and 7 (R121). -/
abbrev posBreak : Nat := 48
abbrev posCall : Nat := 49
abbrev posSend : Nat := 50
abbrev posQuery : Nat := 51
abbrev posHere : Nat := 52
abbrev posLocal : Nat := 53
abbrev posAttend : Nat := 54
abbrev posStatus : Nat := 55
abbrev posShift : Nat := 56
abbrev posCtrl : Nat := 57
abbrev posReturn : Nat := 58
abbrev posRubout : Nat := 59
abbrev posFeed : Nat := 60
abbrev posPunch : Nat := 61
abbrev posRepeat : Nat := 62
abbrev posCancel : Nat := 63

/-- The 46 character keys lie on drive lines 0 to 5 (R121). -/
def isCharacterKey (p : Nat) : Bool := p < 48 && isKeyPosition p

/-- A position lies in the left half when its sense line is 0 to 3 (R101). -/
def isLeft (p : Nat) : Bool := p % 8 < 4

/-- The class factor t of a key (R101). -/
def classFactor (p : Nat) : Nat :=
  if p = posBreak || p = posCancel then 40
  else if p < 48 || p = posShift || p = posCtrl || p = posReturn || p = posRubout then 20
  else 28

/-- The characters of positions 0 to 47 without SHIFT; the reference pads stand as NUL (R121, R122). -/
def plainKeys : List Code :=
  [chNul] ++ textOf "123456" ++ [chNul] ++ textOf "7890-'()QWERTYUIOPASDFGHJKLZXCVBNM,./?: "

/-- The characters of positions 0 to 47 with SHIFT (R122). -/
def shiftKeys : List Code :=
  [chNul] ++ textOf "!\"#$%&" ++ [chNul] ++ textOf "=*<>_@[]QWERTYUIOPASDFGHJKLZXCVBNM;+\\^~ "

/-- The character a character key's event gives, if any (R122). -/
def Press.char (p : Press) : Option Code :=
  if p.ctrl then
    if p.position = 30 then some chBell else none
  else if p.shift then shiftKeys[p.position]?
  else plainKeys[p.position]?

/-- The digit a character stands for. -/
def digitOf (c : Code) : Option Nat :=
  if 0x30 ≤ c.toNat && c.toNat ≤ 0x39 then some (c.toNat - 0x30) else none

/-! ### Glyphs -/

/-- The dots on N1 to N7 of the characters 20h to 7Fh, as seven decimal digits each (R150). -/
def glyphTable : List Nat :=
  [0, 1111101, 2200000, 2252522, 1423241, 2311132, 2221323, 1110000] ++
  [1111111, 1111111, 133310, 115110, 211, 5000, 22, 111110] ++
  [3233323, 1211113, 3211115, 5111123, 1222511, 5141123, 2114223, 5111111] ++
  [3223223, 3224112, 220220, 220211, 1111111, 50500, 1111111, 3211101] ++
  [3213333, 3222522, 4224224, 3211123, 3222223, 5114115, 5114111, 3214224] ++
  [2225222, 3111113, 3111122, 2222222, 1111115, 2433222, 2233322, 3222223] ++
  [4224111, 3222323, 4224222, 4113114, 5111111, 2222223, 2222221, 2223332] ++
  [2221222, 2221111, 5111115, 3111113, 111110, 3111113, 1220000, 5] ++
  [1100000, 31424, 1133224, 31123, 1133224, 32513, 2213111, 422413] ++
  [1133222, 1021113, 1021122, 1122222, 2111113, 33322, 33222, 32223] ++
  [42411, 33411, 33111, 31314, 1131122, 22233, 22221, 22332] ++
  [22122, 22413, 51115, 1111111, 1111111, 1111111, 13100, 5555555]

/-- The dots of a character on needle `n`, 0 for N1 to 6 for N7. -/
def glyphDots (c : Code) (n : Nat) : Nat :=
  (glyphTable.getD (c.toNat - 0x20) 0 / 10 ^ (6 - n)) % 10

/-- The needles that strike for a character when those of `excluded` do not fire (R150, R158). -/
def strikingNeedles (c : Code) (excluded : List Nat) : List Nat :=
  (List.range 7).filter fun n => glyphDots c n != 0 && !excluded.contains n

/-- The fired dot count: d less the digits of the excluded needles (R150). -/
def firedDots (c : Code) (excluded : List Nat) : Nat :=
  ((strikingNeedles c excluded).map (glyphDots c)).sum

/-! ### Channels -/

/-- A channel's place in the fixed order, from 0 (R193). -/
def channelIndex : Channel → Nat
  | .needle i => i.val
  | .track i => 7 + i.val
  | .tapeAdvance => 15
  | .motion => 16

/-- The channel at a place of the fixed order. -/
def channelAt (n : Nat) : Channel :=
  if h : n < 7 then .needle ⟨n, h⟩
  else if h : n - 7 < 8 then .track ⟨n - 7, h⟩
  else if n = 15 then .tapeAdvance
  else .motion

/-- The rank of a code, 1 the worst (R193). -/
def ChanCode.rank : ChanCode → Nat
  | .overcurrent => 1
  | .shorted => 2
  | .opened => 3
  | .passed => 4
  | .notTested => 5

/-- The letter of a code (R193). -/
def ChanCode.letter : ChanCode → Code
  | .overcurrent => codeOf 'X'
  | .shorted => codeOf 'S'
  | .opened => codeOf 'O'
  | .passed => codeOf 'G'
  | .notTested => codeOf '-'

/-- The code an off-state finding gives (R195). -/
def findingCode : TestFinding → ChanCode
  | .passed => .passed
  | .opened => .opened
  | .shorted => .shorted

/-- The magnets a punch row drives, as tracks from 0; track 7 is the feed hole (R179). -/
def rowTracks : RowContent → List Nat
  | .leader | .manual => [7]
  | .cell c => ((List.range 7).filter fun i => c.getLsbD i) ++ [7]

/-! ### Events and end reasons -/

/-- The 18 events in report order (R200). -/
def allEvents : List Event :=
  [.power, .restart, .lineLost, .breakHeard, .duplicateCode, .storeFull, .punchSkipped, .replyLost,
   .keyOverrun, .stuckKey, .warm, .hot, .paperOut, .tapeOut, .jam, .supplyLow, .selfCheck, .identityLost]

/-- An event's name in a report (R200). -/
def Event.name : Event → List Code
  | .power => textOf "POWER"
  | .restart => textOf "RESTART"
  | .lineLost => textOf "LINE LOST"
  | .breakHeard => textOf "BREAK HEARD"
  | .duplicateCode => textOf "DUPLICATE CODE"
  | .storeFull => textOf "STORE FULL"
  | .punchSkipped => textOf "PUNCH SKIPPED"
  | .replyLost => textOf "REPLY LOST"
  | .keyOverrun => textOf "KEY OVERRUN"
  | .stuckKey => textOf "STUCK KEY"
  | .warm => textOf "WARM"
  | .hot => textOf "HOT"
  | .paperOut => textOf "PAPER OUT"
  | .tapeOut => textOf "TAPE OUT"
  | .jam => textOf "JAM"
  | .supplyLow => textOf "SUPPLY LOW"
  | .selfCheck => textOf "SELF-CHECK"
  | .identityLost => textOf "IDENTITY LOST"

/-- The first end line's text: the name of an end reason other than COMPLETE (R147). -/
def EndReason.name : EndReason → List Code
  | .complete => []
  | .broken => textOf "BROKEN"
  | .stalled => textOf "STALLED"
  | .abandoned => textOf "ABANDONED"
  | .lineLost => textOf "LINE LOST"
  | .restarted => textOf "RESTARTED"
  | .split => textOf "SPLIT"

end Sys2Proof.Machine
end

