-- ==== Sys2Proof/Machine/Timing.lean ====
section
/-! DEFINITION. The clock and the manual's durations, in ticks of 1/264000 s, the smallest unit in which
every one of them is whole (log 1), and the one operation that moves the clock to a due instant (log 2). -/
namespace Sys2Proof.Machine

/-- Ticks in `n` ms. -/
def ms (n : Nat) : Nat := 264 * n

/-- Ticks of a sample interval, one sixteenth of an element time, at a SPEED strap value (R23). -/
def sampleTicks (speed : BitVec 3) : Nat :=
  match speed.toNat with
  | 0 => 330
  | 1 => 220
  | 3 => 110
  | 4 => 55
  | _ => 150

/-- `n` sample intervals at the speed sampled at the last reset (R23). -/
def State.samples (s : State) (n : Nat) : Nat := n * sampleTicks s.straps.speed

/-- `n` element times (R23). -/
def State.elements (s : State) (n : Nat) : Nat := s.samples (16 * n)

/-- `n` character times: Tc is 10 element times (R23). -/
def State.charTimes (s : State) (n : Nat) : Nat := s.elements (10 * n)

/-- The clock moved to the instant `t` at which the command's measure reaches its limit, unless it is there
or past it already (log 2). -/
def State.reach (s : State) (t : Nat) : State := { s with now := max s.now t }

/-- The key scan period of a power state (R95, R117). -/
def scanPeriod : Power → Nat
  | .active => ms 10
  | .quiet => ms 30
  | .dormant => ms 120

/-- The time a party holds the supply (R162). -/
def grantTime : Party → Nat
  | .print | .punch => ms 8
  | .test => ms 2

end Sys2Proof.Machine
end

