-- ==== Sys2Proof/Machine/Ops.lean ====
section
/-! DEFINITION. The named operations every block shares: the cell memory, the latched event set, the bell, the
Sender's generator, and the frame in which a command is carried out. -/
namespace Sys2Proof.Machine

/-! ### The frame of a command -/

/-- A command's effect on a part with power applied; without power the part stands still (log 11). -/
def whenPowered (s : State) (f : State → State) : Host.Outcome State Fault Refusal :=
  .next (if s.powered then f s else s)

/-- `f` repeated until it has nothing to do, at most `n` times. -/
def repeatWhile (f : State → Option State) : Nat → State → State
  | 0, s => s
  | n + 1, s =>
    match f s with
    | none => s
    | some s' => repeatWhile f n s'

/-! ### Cell memory (R1) -/

/-- What a cell that nothing has written reads as (log 8). -/
def Memory.unlisted : BitVec 8 := 0

/-- Reading one cell. -/
def Memory.read : List Host.Cell → Nat → BitVec 8
  | [], _ => Memory.unlisted
  | (b, v) :: rest, a => if a = b then v else Memory.read rest a

/-- Writing one cell, keeping addresses rising and no entry equal to what an unlisted cell reads as. -/
def Memory.write : List Host.Cell → Nat → BitVec 8 → List Host.Cell
  | [], a, v => if v = Memory.unlisted then [] else [(a, v)]
  | (b, x) :: rest, a, v =>
    if a < b then
      if v = Memory.unlisted then (b, x) :: rest else (a, v) :: (b, x) :: rest
    else if a = b then
      if v = Memory.unlisted then rest else (a, v) :: rest
    else (b, x) :: Memory.write rest a v

/-- The canonical form: addresses strictly rising, no entry equal to what an unlisted cell reads as. -/
def Memory.wf (m : List Host.Cell) : Bool :=
  decide (m.Pairwise fun x y => x.1 < y.1) && m.all fun c => c.2 != Memory.unlisted

/-- The character in cell `a`, counted round the ring (R1). -/
def Store.cell (st : Store) (a : Nat) : Code := (Memory.read st.cells (a % storeCells)).setWidth 7

/-! ### Reports every block makes -/

/-- An event is latched, and marked as latched again since the last snapshot (R200). -/
def State.latch (s : State) (e : Event) : State :=
  { s with diag := { s.diag with
      latched := if s.diag.latched.contains e then s.diag.latched else e :: s.diag.latched,
      again := if s.diag.again.contains e then s.diag.again else e :: s.diag.again } }

/-- One stroke of the bell (Conventions). -/
def State.bell (s : State) : State := { s with bells := s.bells + 1 }

/-- One character delivered in error is counted (R201). -/
def State.countError (s : State) : State :=
  { s with diag := { s.diag with errorTotal := satSucc 255 s.diag.errorTotal } }

/-! ### The generator (R68) -/

/-- One step toward the low end; the new top bit is the exclusive-or of bits 0, 2, 3 and 5. -/
def generatorStep (g : BitVec 16) : BitVec 16 :=
  let top := g.getLsbD 0 ^^ g.getLsbD 2 ^^ g.getLsbD 3 ^^ g.getLsbD 5
  (g >>> 1) ||| (if top then 0x8000#16 else 0#16)

/-- `n` steps. -/
def generatorSteps : Nat → BitVec 16 → BitVec 16
  | 0, g => g
  | n + 1, g => generatorSteps n (generatorStep g)

/-- The seed: the own code in bits 0 to 4, 1 in bit 15. -/
def generatorSeed (own : Station) : BitVec 16 := 0x8000#16 ||| own.setWidth 16

/-- The Sender takes `n` element or scan reports. -/
def State.stepGenerator (s : State) (n : Nat) : State :=
  { s with sender := { s.sender with generator := generatorSteps n s.sender.generator } }

/-- The backoff draw that a yield count allows, as the generator stands (R67). -/
def backoffDraw (yields : Nat) (g : BitVec 16) : Nat := g.toNat % 2 ^ (3 - yields)

end Sys2Proof.Machine
end

