-- ==== Sys2Proof/Machine/Flags.lean ====
section
/-! DEFINITION. The conditions the blocks read from one another, each computed in one place from the state:
store figures (R1, R2, R19), claims (R12), the rest condition (R96), the status character (R91),
ATTENTION (R206), and the outputs (R34, R193). -/
namespace Sys2Proof.Machine

/-! ### Records -/

def Rec.isOpen (r : Rec) : Bool := r.state == .opened

/-- An OPEN record of the Block Receiver (R6). -/
def Rec.isOpenBlock (r : Rec) : Bool := r.isOpen && r.kind != .localTyping

/-- An OPEN LOCAL record. -/
def Rec.isOpenLocal (r : Rec) : Bool := r.isOpen && r.kind == .localTyping

/-- A punch claim neither done nor skipped (R12). -/
def Rec.punchLive (r : Rec) : Bool :=
  match r.punch with
  | none => false
  | some p => !p.done && !p.skipped

/-- Reclaim's test of the head (R13). -/
def Rec.reclaimable (r : Rec) : Bool := !r.isOpen && r.print.done && !r.punchLive

/-- Cells in use by records. -/
def Store.used (st : Store) : Nat := (st.recs.map Rec.length).sum

/-- The free cell count (R1). -/
def Store.free (st : Store) : Nat := storeCells - st.used

/-- The free descriptor count (R2). -/
def Store.freeRecs (st : Store) : Nat := maxRecords - st.recs.length

/-- The store condition FULL (R19). -/
def Store.full (st : Store) : Bool := st.free ≤ 256 || st.freeRecs ≤ 2

/-- PRINT WORK (R19). -/
def Store.printWork (st : Store) : Bool := st.recs.any fun r => !r.print.done

/-- PUNCH WORK (R19). -/
def Store.punchWork (st : Store) : Bool := st.recs.any Rec.punchLive

def Store.blockOpen (st : Store) : Bool := st.recs.any Rec.isOpenBlock

def Store.localOpen (st : Store) : Bool := st.recs.any Rec.isOpenLocal

/-- The record of the Print Controller's current claim (R12). -/
def Store.printCurrent (st : Store) : Option Rec := st.recs.find? fun r => !r.print.done

/-- The record of the Punch Controller's current claim (R12). -/
def Store.punchCurrent (st : Store) : Option Rec := st.recs.find? Rec.punchLive

/-! ### Compositions and the Sender -/

def Comp.isOpen (c : Comp) : Bool := c.state == .openAddressing || c.state == .openText

/-- The OPEN composition (R124). -/
def Interp.openComp (i : Interp) : Option Comp := i.comps.find? Comp.isOpen

/-- The oldest READY composition (R64). -/
def Interp.oldestReady (i : Interp) : Option Comp := i.comps.find? fun c => c.state == .ready

/-- Cells of the compose memory in use (R125). -/
def Interp.usedCells (i : Interp) : Nat := (i.comps.map Comp.cells).sum

def Interp.freeCells (i : Interp) : Nat := composeCells - i.usedCells

/-- A composition may be sent while the watch is NONE and none is SENDING (R64). -/
def State.maySendComp (s : State) : Bool :=
  s.sender.watch == .none && !s.interp.comps.any fun c => c.state == .sending

/-- What the Sender would choose now (R64): the head reply, else the oldest READY composition that may be
sent. -/
def State.chosenSource (s : State) : Source :=
  if !s.sender.replies.isEmpty then .reply
  else if s.maySendComp then
    match s.interp.oldestReady with
    | some c => .comp c.serial
    | none => .none
  else .none

/-! ### Power, printer, punch -/

/-- The rest condition (R96). -/
def State.restCondition (s : State) : Bool :=
  !s.store.printWork && !s.store.punchWork
    && !s.interp.comps.any (fun c => c.isOpen || c.state == .ready)
    && s.sender.state == .idle && !s.diag.starting

/-- The printer is unavailable in PAPER OUT and in FAULT (R144). -/
def Printer.unavailable (p : Printer) : Bool := p.state == .paperOut || p.state == .fault

/-- The drivers are held off while the self-check runs (R198). -/
def State.driversHeld (s : State) : Bool :=
  match s.diag.sweep with
  | some w => w.kind == .selfCheck
  | none => false

/-- The turn of the channel at `n` has come and its test is not under its grant: its request waits (R195, log 20). -/
def State.testTurn (s : State) (n : Nat) : Bool :=
  match s.diag.sweep with
  | some w => w.index == n && w.stage != .granted
  | none => false

/-- No motion begins while the drivers are held off, a TEST grant is held, or a test of MOT waits
(R195, R198). -/
def State.motionBlocked (s : State) : Bool :=
  s.driversHeld || s.arb.holder == some .test || s.testTurn 16

/-- No tape advance begins while a TEST grant is held or a test of TA waits (R195). -/
def State.advanceBlocked (s : State) : Bool := s.arb.holder == some .test || s.testTurn 15

/-- A tape advance is under way. -/
def Punch.advancing (p : Punch) : Bool :=
  match p.row with
  | some r => r.stage == .advancing
  | none => false

/-- A manual leader row is in hand. -/
def Punch.manualRow (p : Punch) : Bool :=
  match p.row with
  | some r => r.content == .manual
  | none => false

/-- Manual leader is under way: rows are left, or its last row is in hand (R188). So it is, by the model's choice, while
the row in its cycle at which PUNCH or the leaving of ACTIVE stopped it still completes (log 48), and while the row that
fires as a fault finding discards it runs out its grant (R189, log 51). -/
def Punch.manualUnderWay (p : Punch) : Bool := p.manual != 0 || p.manualRow

/-- A row is in its cycle: FIRING, ADVANCING or SETTLING (R175), or, by the model's choice, fired with its advance held back
(R195, log 50). -/
def Row.inCycle (r : Row) : Bool := r.stage != .waiting

/-! ### Identity and status -/

/-- The valid marker reads absent while the open-cycle mark is present (R83). -/
def IdMemory.readsValid (m : IdMemory) : Bool := m.valid && !m.openCycle

/-- The default identity text, `STATION nn` (R84). -/
def defaultIdentity (own : Station) : List Code := textOf "STATION " ++ twoDigits own.toNat

/-- The identity text in use (R84). -/
def State.identityText (s : State) : List Code :=
  if s.answer.memory.readsValid && s.answer.memory.length != 0 then
    s.answer.memory.text.take s.answer.memory.length
  else defaultIdentity s.straps.code

/-- The status character (R91). -/
def State.statusChar (s : State) : Code :=
  if s.store.full then codeOf 'F'
  else if s.printer.unavailable then codeOf 'S'
  else if s.answer.attend == .attended then codeOf 'A'
  else codeOf 'U'

/-- The content of an IDENT block begun now (R91). -/
def State.identityContent (s : State) : List Code := s.identityText ++ [s.statusChar]

/-! ### Outputs -/

/-- The ATTENTION output (R206). -/
def State.attention (s : State) : Bool :=
  s.powered &&
    ((s.diag.latched.any fun e => e != .power && e != .restart)
      || s.printer.unavailable
      || s.punch.state == .tapeOut || s.punch.state == .fault || s.diag.tapeLow
      || s.store.full)

/-- The line-drive output: true while the station opens the line to space (R34, R35, R37). -/
def State.drivingLine (s : State) : Bool :=
  s.powered &&
    match s.line.tx with
    | .idle => false
    | .holding _ => true
    | .shifting c since => !sentMark c ((s.now - since) / s.elements 1)

/-- Whether a channel is driven now (R193). -/
def State.drives (s : State) : Channel → Bool
  | .needle i =>
    s.powered && s.arb.holder == some .print &&
      match s.printer.hand with
      | some h => h.stage == .firing && h.needles.contains i.val
      | none => false
  | .track i =>
    s.powered && s.arb.holder == some .punch &&
      match s.punch.row with
      | some r => r.stage == .firing && (rowTracks r.content).contains i.val
      | none => false
  | .tapeAdvance => s.powered && s.punch.advancing
  | .motion => s.powered && s.printer.motion != .none

end Sys2Proof.Machine
end

