-- ==== Sys2Proof/Machine/StoreOps.lean ====
section
/-! DEFINITION. The Message Store's operations (spec/01_the_message_store.md): opening, appending, closing,
splitting, claims, reclaim, the space steps and the writing of generated records. -/
namespace Sys2Proof.Machine

/-- `f` applied to the first element that satisfies `p`. -/
def updateFirst {α : Type} (p : α → Bool) (f : α → α) : List α → List α
  | [] => []
  | a :: l => if p a then f a :: l else a :: updateFirst p f l

/-- `f` applied to the OPEN record (R6: at most one is). -/
def Store.updateOpen (st : Store) (f : Rec → Rec) : Store :=
  { st with recs := st.recs.map fun r => if r.isOpen then f r else r }

/-- The OPEN record. -/
def Store.openRec (st : Store) : Option Rec := st.recs.find? Rec.isOpen

/-! ### Reclaim and the space steps -/

/-- Reclaim (R13). -/
def Store.reclaim (st : Store) : Store := { st with recs := st.recs.dropWhile Rec.reclaimable }

/-- A punch claim marked skipped where it stands (R15). -/
def Rec.skipPunch (r : Rec) : Rec :=
  { r with punch := r.punch.map fun p => { p with skipped := true } }

/-- The head's punch claim may be released (R15). A RUNNING punch is taken to run on it even while a row of manual
leader that PUNCH stopped in its cycle still completes (R183, log 36), and while FAULT waits for a firing's grant
(R189, log 51). -/
def State.headReleasable (s : State) : Bool :=
  match s.store.recs with
  | [] => false
  | r :: _ => !r.isOpen && r.print.done && r.punchLive && s.punch.state != .running

/-- The release of the head's punch claim: skipped, PUNCH SKIPPED latched, reclaim, and the punch, whose
current claim it was, discards its place (R15, R184). -/
def State.releaseHead (s : State) : State :=
  let s := s.latch .punchSkipped
  { s with
    store := Store.reclaim { s.store with recs :=
      match s.store.recs with
      | [] => []
      | r :: l => r.skipPunch :: l }
    punch := { s.punch with leader := 0 } }

/-- Releases at the head while the need is not met and the head qualifies (R14, R15). -/
def State.makeRoom (met : Store → Bool) : Nat → State → State
  | 0, s => s
  | n + 1, s =>
    if met s.store then s
    else if s.headReleasable then State.makeRoom met n s.releaseHead
    else s

/-! ### Opening, appending, closing -/

/-- Whether the PUNCHSEL value gives a kind a punch claim (R4). -/
def punchSelected (punchsel : BitVec 2) : RecKind → Bool
  | .received => 1 ≤ punchsel.toNat
  | .sent => 2 ≤ punchsel.toNat
  | .localTyping => punchsel.toNat == 3
  | .overheard | .ident | .confirm | .status => false

/-- A new descriptor (R3, R7). -/
def newRec (punchsel : BitVec 2) (kind : RecKind) (peer : Option Station) (start : Nat) : Rec :=
  { kind := kind, peer := peer, start := start, length := 0, state := .opened, errors := 0,
    truncated := false, dropped := 0, print := { pos := 0, done := false },
    punch := if punchSelected punchsel kind then some { pos := 0, done := false, skipped := false } else none }

/-- A descriptor added at the tail, starting at W (R2). -/
def State.addRec (s : State) (kind : RecKind) (peer : Option Station) : State :=
  { s with store := { s.store with
      recs := s.store.recs ++ [newRec s.straps.punchsel kind peer s.store.w] } }

/-- A descriptor can be had after the space steps. -/
def State.roomForRec (s : State) : State := s.makeRoom (fun st => 0 < st.freeRecs) maxRecords

/-- An open request of either writer: OPENED with the record at the tail, or refused with STORE FULL
(R7, R10, R17). -/
def State.openRecord (s : State) (kind : RecKind) (peer : Option Station) : State × Bool :=
  let s := s.roomForRec
  if 0 < s.store.freeRecs then (s.addRec kind peer, true) else (s.latch .storeFull, false)

/-- The OPEN record closed with an end reason, and reclaim applied (R9, R13). -/
def State.closeRecord (s : State) (reason : EndReason) : State :=
  { s with store := (s.store.updateOpen fun r => { r with state := .closed reason }).reclaim }

/-- An OPEN LOCAL record closed SPLIT; the Interpreter's local record becomes none (R6, R139). -/
def State.splitLocal (s : State) : State :=
  if s.store.localOpen then
    let s := s.closeRecord .split
    { s with interp := { s.interp with localOpen := false } }
  else s

/-- A character stored at W and W advanced (R1). -/
def Store.put (st : Store) (c : Code) : Store :=
  { st with
    cells := Memory.write st.cells (st.w % storeCells) (c.setWidth 8)
    w := (st.w + 1) % storeCells }

/-- A character stored in the OPEN record (R1, R8). -/
def Store.storeChar (st : Store) (c : Code) : Store :=
  (st.put c).updateOpen fun r => { r with length := r.length + 1 }

/-- A cell can be had after the space steps. -/
def State.roomForCell (s : State) : State := s.makeRoom (fun st => 0 < st.free) maxRecords

/-- Truncation of the OPEN record, the character in hand counted (R16). -/
def State.truncateRecord (s : State) : State :=
  ({ s with store := s.store.updateOpen fun r =>
      { r with truncated := true, dropped := satSucc 65535 r.dropped } }).latch .storeFull

/-- An append to the OPEN record: stored, truncated or counted as dropped; with none OPEN nothing changes
(R8, R16). -/
def State.append (s : State) (c : Code) : State :=
  match s.store.openRec with
  | none => s
  | some r =>
    if r.truncated then
      { s with store := s.store.updateOpen fun r => { r with dropped := satSucc 65535 r.dropped } }
    else
      let s := s.roomForCell
      if 0 < s.store.free then { s with store := s.store.storeChar c } else s.truncateRecord

/-- The characters of one request, appended together (R139). -/
def State.appendAll (s : State) (cs : List Code) : State := cs.foldl State.append s

/-- An error report on the OPEN record (R8). -/
def State.reportError (s : State) : State :=
  { s with store := s.store.updateOpen fun r => { r with errors := satSucc 255 r.errors } }

/-! ### Claims -/

/-- `f` applied to the record of the current print claim (R12). -/
def Store.onPrint (st : Store) (f : Rec → Rec) : Store :=
  { st with recs := updateFirst (fun r => !r.print.done) f st.recs }

/-- `f` applied to the record of the current punch claim (R12). -/
def Store.onPunch (st : Store) (f : Rec → Rec) : Store :=
  { st with recs := updateFirst Rec.punchLive f st.recs }

/-- The print claim raised by one cell. -/
def Rec.stepPrint (r : Rec) : Rec := { r with print := { r.print with pos := r.print.pos + 1 } }

/-- The print claim done, its position at the record's length. -/
def Rec.donePrint (r : Rec) : Rec := { r with print := { pos := r.length, done := true } }

/-- The punch claim raised by one cell. -/
def Rec.stepPunch (r : Rec) : Rec :=
  { r with punch := r.punch.map fun p => { p with pos := p.pos + 1 } }

/-- The punch claim done, its position at the record's length. -/
def Rec.donePunch (r : Rec) : Rec :=
  { r with punch := r.punch.map fun p => { p with pos := r.length, done := true } }

/-- The current print claim raised by one cell (R12). -/
def State.advancePrint (s : State) : State := { s with store := s.store.onPrint Rec.stepPrint }

/-- The current print claim done; reclaim (R12, R13, R145). -/
def State.finishPrint (s : State) : State := { s with store := (s.store.onPrint Rec.donePrint).reclaim }

/-- The current punch claim raised by one cell (R12). -/
def State.advancePunch (s : State) : State := { s with store := s.store.onPunch Rec.stepPunch }

/-- The current punch claim done; reclaim; the next claim is not begun (R12, R13, R181). -/
def State.finishPunch (s : State) : State :=
  { s with store := (s.store.onPunch Rec.donePunch).reclaim, punch := { s.punch with leader := 0 } }

/-! ### Generated records -/

/-- The text of a CONFIRM record (R11, R81). -/
def confirmText (dest : Station) (letter : Option Letter) : List Code :=
  twoDigits dest.toNat ++ textOf " RECEIPT " ++
    match letter with
    | some l => [l.code]
    | none => textOf "NONE"

/-- Room for a generated record of `n` cells after the space steps (R11, R14). -/
def State.roomForText (s : State) (n : Nat) : State :=
  s.makeRoom (fun st => 0 < st.freeRecs && n ≤ st.free) maxRecords

/-- A generated record written whole, CLOSED COMPLETE, or nothing (R11). -/
def State.writeGenerated (s : State) (kind : RecKind) (text : List Code) : State × Bool :=
  let s := s.roomForText text.length
  if 0 < s.store.freeRecs && text.length ≤ s.store.free then
    let r := newRec s.straps.punchsel kind none s.store.w
    let st := text.foldl Store.put s.store
    ({ s with store := Store.reclaim { st with
        recs := st.recs ++ [{ r with length := text.length, state := .closed .complete }] } }, true)
  else (s, false)

/-- A CONFIRM request: pending, or refused with the bell when another is (R11). -/
def State.requestConfirm (s : State) (dest : Station) (letter : Option Letter) : State :=
  if s.store.requests.any (fun r => r != .status) then s.bell
  else { s with store := { s.store with requests := s.store.requests ++ [.confirm dest letter] } }

/-- A STATUS request reaches the store (R202). -/
def State.requestStatus (s : State) : State :=
  { s with store := { s.store with requests := s.store.requests ++ [.status] } }

/-! ### At the reset pin (R20) -/

/-- A record at the reset pin: closed RESTARTED if OPEN, unfinished claims set back. -/
def Rec.restart (r : Rec) : Rec :=
  { r with
    state := if r.isOpen then .closed .restarted else r.state
    print := if r.print.done then r.print else { r.print with pos := 0 }
    punch := r.punch.map fun p => if p.done || p.skipped then p else { p with pos := 0 } }

/-- The store at the reset pin. -/
def Store.restart (st : Store) : Store := { st with recs := st.recs.map Rec.restart, requests := [] }

end Sys2Proof.Machine
end

