-- ==== Sys2Proof/Machine/SupplyOps.lean ====
section
/-! DEFINITION. The Magnet Supply Arbiter's operations (R162 to R165): a request, its withdrawal, the choice
among waiting requests and the grant, with what the granted party is told. -/
namespace Sys2Proof.Machine

/-- The party granted when the supply falls free (R163). -/
def Arbiter.choice (a : Arbiter) : Option Party :=
  if a.waitTest then some .test
  else if a.waitPrint && a.waitPunch then some (if a.last == .print then .punch else .print)
  else if a.waitPrint then some .print
  else if a.waitPunch then some .punch
  else none

/-- The waiting request of a party set or cleared. -/
def Arbiter.setWait (a : Arbiter) (p : Party) (b : Bool) : Arbiter :=
  match p with
  | .print => { a with waitPrint := b }
  | .punch => { a with waitPunch := b }
  | .test => { a with waitTest := b }

/-- A grant given at instant `now` (R162, R163): TEST leaves the last-granted party as it was. -/
def Arbiter.grant (a : Arbiter) (p : Party) (now : Nat) : Arbiter :=
  { a.setWait p false with
    holder := some p
    until' := now + grantTime p
    last := if p == .test then a.last else p }

/-- The granted character fires (R152). -/
def Printer.granted (p : Printer) : Printer :=
  { p with hand := p.hand.map fun h => { h with stage := .firing } }

/-- The granted row fires (R180). -/
def Punch.granted (p : Punch) (now : Nat) : Punch :=
  { p with row := p.row.map fun r => { r with stage := .firing, since := now } }

/-- The sweep's channel comes under test (R195). -/
def Diag.granted (d : Diag) : Diag :=
  match d.sweep with
  | none => d
  | some w =>
    { d with sweep := some { w with stage := .granted }, testing := some { index := w.index, counts := true } }

/-- A grant given, and its party told (R162). -/
def State.giveGrant (s : State) (p : Party) : State :=
  { s with
    arb := s.arb.grant p s.now
    printer := if p == .print then s.printer.granted else s.printer
    punch := if p == .punch then s.punch.granted s.now else s.punch
    diag := if p == .test then s.diag.granted else s.diag }

/-- The supply, if it is free and not low, goes to a waiting request (R162, R163, R164). -/
def State.grantIfFree (s : State) : State :=
  if s.arb.holder == none && !s.arb.supplyLow then
    match s.arb.choice with
    | none => s
    | some p => s.giveGrant p
  else s

/-- A request: granted at once when the supply is free and not low, otherwise waiting (R162). -/
def State.request (s : State) (p : Party) : State :=
  { s with arb := s.arb.setWait p true }.grantIfFree

/-- A waiting request withdrawn (R165). -/
def State.withdraw (s : State) (p : Party) : State := { s with arb := s.arb.setWait p false }

/-- The holder hands the supply back, and a waiting request is granted (R162, R163). -/
def State.handBack (s : State) : State :=
  { s with arb := { s.arb with holder := none } }.grantIfFree

end Sys2Proof.Machine
end

