-- ==== Sys2Proof/Machine/PrinterOps.lean ====
section
/-! DEFINITION. The Print Controller's operations (spec/08_page_printing.md): headings and end lines, the walk
through the current record up to the next thing that takes time, motions, paper and faults. -/
namespace Sys2Proof.Machine

/-! ### Heading and end lines -/

/-- The heading of a record (R146). -/
def Rec.heading (r : Rec) : List Code :=
  let nn := match r.peer with
    | some p => twoDigits p.toNat
    | none => textOf "**"
  match r.kind with
  | .received => nn ++ textOf "> "
  | .overheard => nn ++ textOf ": "
  | .sent => nn ++ textOf "< "
  | .ident => nn ++ textOf " IS "
  | .localTyping | .confirm | .status => []

/-- The first end line's characters: the end reason's name, none for COMPLETE (R147). -/
def Rec.reasonLine (r : Rec) : List Code :=
  match r.state with
  | .opened => []
  | .closed reason => reason.name

/-- The second end line's characters (R147). -/
def Rec.truncatedLine (r : Rec) : List Code :=
  if r.truncated then textOf "TRUNCATED " ++ plainDecimal r.dropped else []

/-- The characters of the end lines, counted across both lines (R142, R147). -/
def Rec.endLines (r : Rec) : List Code := r.reasonLine ++ r.truncatedLine

/-- The phase index stands at the end of an end line. -/
def Rec.atLineEnd (r : Rec) (i : Nat) : Bool :=
  i != 0 && (i == r.reasonLine.length || i == r.endLines.length)

/-! ### Motions -/

/-- The steps a return may take (R154). -/
def permittedSteps : Option Nat → Nat
  | some c => c + 8
  | none => 88

/-- A carriage return begins, unless motion is held back (R153, R195). -/
def State.beginReturn (s : State) (cause : MotionCause) : Option State :=
  if s.motionBlocked then none
  else some { s with printer := { s.printer with
    motion := .carriage 0 (permittedSteps s.printer.column) false s.now cause, pair := .none } }

/-- A line feed begins, unless motion is held back (R153, R155). -/
def State.beginFeed (s : State) (cause : MotionCause) : Option State :=
  if s.motionBlocked then none
  else some { s with printer := { s.printer with
    motion := .feed s.now cause, selector := .feed, pair := .none } }

/-- The step after a firing begins, unless motion is held back (R152). -/
def State.beginStep (s : State) (h : Hand) : Option State :=
  if s.motionBlocked then none
  else some { s with printer := { s.printer with
    motion := .step s.now, hand := some { h with stage := .stepping } } }

/-! ### The walk -/

/-- A return-and-feed pair is due (R149, R153). -/
def State.owePair (s : State) : State := { s with printer := { s.printer with pair := .both } }

/-- The printer enters a phase with its index at 0 (R145). -/
def State.enterPhase (s : State) (p : Phase) : State :=
  { s with printer := { s.printer with phase := p, index := 0 } }

/-- A pair, if the column is not 0, before going on with `next` (R145). -/
def State.alignThen (s : State) (next : State) : State :=
  if s.printer.column == some 0 then next else s.owePair

/-- A printing character is next: it waits for a slot boundary, after a wrap at column 72 (R149, R151). -/
def State.awaitSlot (s : State) : Option State :=
  if s.printer.column == some 72 then some s.owePair else none

/-- The cell at the claim's position taken by its code (R148). -/
def State.takeCell (s : State) (c : Code) : Option State :=
  if isPrinting c then s.awaitSlot
  else if c = chCr then s.beginReturn .cell
  else if c = chLf then s.beginFeed .cell
  else if c = chBell then
    some (if s.answer.attend == .attended then s.bell else s).advancePrint
  else some s.advancePrint

/-- The next piece of work on the current record (R145), none when the printer must wait. -/
def State.phaseWork (s : State) (r : Rec) : Option State :=
  match s.printer.phase with
  | .none => some (s.enterPhase .align)
  | .align => some (s.alignThen (s.enterPhase .heading))
  | .heading =>
    if s.printer.index < r.heading.length then s.awaitSlot else some (s.enterPhase .text)
  | .text =>
    if r.print.pos < r.length then s.takeCell (s.store.cell (r.start + r.print.pos))
    else if r.isOpen then none
    else some (s.enterPhase .closing)
  | .closing => some (s.alignThen (s.enterPhase .endLines))
  | .endLines =>
    if s.printer.index < r.endLines.length then s.awaitSlot
    else some (s.finishPrint.enterPhase .none)

/-- Work is present (R143). -/
def State.printerHasWork (s : State) : Bool :=
  s.store.printWork || s.printer.pendingFeeds != 0 || s.printer.returnOwed || s.printer.motion != .none

/-- What a PRINTING printer does next (R145, R152, R153, R155, R157): an owed return first, then an owed pair,
then a feed asked for by key, then the record. -/
def State.printingWork (s : State) : Option State :=
  if s.printer.motion != .none then none
  else
    match s.printer.hand with
    | some h => if h.stage == .stepDue then s.beginStep h else none
    | none =>
      if s.printer.returnOwed then s.beginReturn .owed
      else
        match s.printer.pair with
        | .both => s.beginReturn .pair
        | .feedOnly => s.beginFeed .pair
        | .none =>
          if s.printer.pendingFeeds != 0 then s.beginFeed .feedKey
          else
            match s.store.printCurrent with
            | none => none
            | some r => s.phaseWork r

/-- One step of the printer's walk, none when it must wait for an event (R143, R144). -/
def State.printerOnce (s : State) : Option State :=
  match s.printer.state with
  | .ready =>
    if s.printerHasWork then
      some { s with
        printer := { s.printer with state := .printing }
        diag := { s.diag with idleSince := none } }
    else none
  | .printing =>
    if s.printerHasWork then s.printingWork
    else
      some { s with
        printer := { s.printer with state := .ready }
        diag := { s.diag with idleSince := some s.now } }
  | .off | .starting | .paperOut | .fault => none

/-- More than the walk can need: every cell of the store once, and ten pieces of work a record. -/
def printerFuel : Nat := storeCells + 10 * maxRecords + 16

/-- The printer's walk up to the next thing that takes time. -/
def State.printerRun (s : State) : State := repeatWhile State.printerOnce printerFuel s

/-! ### Offers -/

/-- The character the printer would offer at a boundary (R151). -/
def State.offer (s : State) : Option Code :=
  if s.printer.state == .printing && s.printer.motion == .none && s.printer.hand == none
      && !s.printer.returnOwed && s.printer.pendingFeeds == 0 && s.printer.pair == .none
      && s.printer.column != some 72 && !s.driversHeld then
    match s.store.printCurrent with
    | none => none
    | some r =>
      match s.printer.phase with
      | .heading => r.heading[s.printer.index]?
      | .text =>
        if r.print.pos < r.length then
          let c := s.store.cell (r.start + r.print.pos)
          if isPrinting c then some c else none
        else none
      | .endLines => r.endLines[s.printer.index]?
      | .none | .align | .closing => none
  else none

/-! ### Paper out and fault -/

/-- The printer leaves READY and stops: what PAPER OUT and FAULT have in common. A stop that waited is gone: a paper
absence that waits for a motion enters no PAPER OUT when the motion fails or is cut and FAULT follows (log 41). -/
def State.stopPrinter (s : State) (p : PrinterState) : State :=
  { s with
    printer := { s.printer with state := p, pendingFeeds := 0, stop := .none }
    diag := { s.diag with idleSince := none } }

/-- Entry into PAPER OUT (R156): return owed when the column is not 0, pending feeds cleared, an interrupted
pair dropped (R157), the paper measure stopped while paper is absent. -/
def State.enterPaperOut (s : State) : State :=
  let s := (s.latch .paperOut).stopPrinter .paperOut
  { s with printer := { s.printer with
      returnOwed := s.printer.returnOwed || s.printer.column != some 0
      pair := .none
      paperMeasure := if s.printer.paperAbsent then none else some s.now } }

/-- A waiting character goes back unprinted and its request is withdrawn; a firing one is left to its grant
(R156, R159). -/
def State.dropHand (s : State) : State :=
  match s.printer.hand with
  | none => s
  | some h =>
    if h.stage == .firing then s
    else if h.stage == .waiting then
      { s.withdraw .print with printer := { s.printer with hand := none } }
    else { s with printer := { s.printer with hand := none } }

/-- Entry into FAULT (R159). -/
def State.enterPrinterFault (s : State) : State :=
  let s := s.dropHand.stopPrinter .fault
  { s with printer := { s.printer with paperMeasure := none } }

/-- A firing, step or motion is in hand that a stop must let complete (R156, R159). So is, by the model's choice, a
character whose strike is over, or that strikes no dot, and whose step is held back (R195): its step completes before
PAPER OUT or a third needle's FAULT (log 49). -/
def Printer.busy (p : Printer) : Bool :=
  p.motion != .none ||
    match p.hand with
    | some h => h.stage != .waiting
    | none => false

/-- A stop that waited takes effect once nothing is in hand (R156, R159). -/
def State.applyStop (s : State) : State :=
  if s.printer.busy then s
  else
    match s.printer.stop with
    | .none => s
    | .paperOut => s.enterPaperOut
    | .fault => s.enterPrinterFault

/-- The third excluded needle (R158, R159): a firing or step in hand completes first, and so does a motion, in
PRINTING and in any other state (log 42), and a step that is held back (log 49). A paper absence that waits for the same thing gives way to it (log 41). -/
def State.needleFault (s : State) : State :=
  if (s.printer.state == .printing && s.printer.busy) || s.printer.motion != .none then
    { s with printer := { s.printer with stop := .fault } }
  else s.enterPrinterFault

/-- A failing finding on needle `n` (R158). -/
def State.excludeNeedle (s : State) (n : Nat) : State :=
  if s.printer.excluded.contains n then s
  else
    let s := { s with printer := { s.printer with excluded := s.printer.excluded ++ [n] } }
    if s.printer.excluded.length == 3 && s.printer.state != .fault then s.needleFault else s

/-- The motion is cut where it stands and the column becomes UNKNOWN (R159). -/
def State.cutMotion (s : State) : State :=
  { s with printer := { s.printer with motion := .none, column := none } }

/-- A failing finding on MOT, at any time (R159): the motion is cut at once and the column becomes UNKNOWN, in a FAULT of
another cause too (log 25). The selector stays where the cut leaves it (log 40). -/
def State.motionFault (s : State) : State :=
  if s.printer.state == .fault then s.cutMotion else s.cutMotion.enterPrinterFault

end Sys2Proof.Machine
end

