-- ==== Sys2Proof/Machine/PunchOps.lean ====
section
/-! DEFINITION. The Punch Controller's operations (spec/10_tape_punching.md): taking rows in hand, the row
cycle's beginnings, suspending, tape and faults. -/
namespace Sys2Proof.Machine

/-- A row taken in hand: its request is made at once (R180). -/
def State.takeRow (s : State) (c : RowContent) : State :=
  { s with punch := { s.punch with row := some { content := c, stage := .waiting, since := s.now } } }.request .punch

/-- The position of a record's punch claim. -/
def Rec.punchPos (r : Rec) : Nat :=
  match r.punch with
  | some p => p.pos
  | none => 0

/-- What a RUNNING punch with no row in hand does on its current claim (R178, R181). -/
def State.runClaim (s : State) : Option State :=
  match s.store.punchCurrent with
  | none => some { s with punch := { s.punch with state := .idle } }
  | some r =>
    if s.punch.leader < 10 then some (s.takeRow .leader)
    else
      if r.punchPos < r.length then some (s.takeRow (.cell (s.store.cell (r.start + r.punchPos))))
      else if r.isOpen then none
      else some s.finishPunch

/-- A RUNNING punch has made the leader and every row of a CLOSED record (R181). -/
def State.claimEnded (s : State) : Bool :=
  s.punch.state == .running && 10 ≤ s.punch.leader &&
    match s.store.punchCurrent with
    | none => false
    | some r => !r.isOpen && r.length ≤ r.punchPos

/-- The claim finished at the end of its last row's SETTLING, before a suspend or a TAPE OUT that waited for the row
takes effect (R181, R182, R186). A punch that is not RUNNING finishes no claim, not even one whose record closes with
every row made: PUNCH resumes it first (log 43). -/
def State.finishEnded (s : State) : State := if s.claimEnded then s.finishPunch else s

/-- One step of the punch, none when it must wait for an event (R178, R180, R188, R190, R195, R198). -/
def State.punchOnce (s : State) : Option State :=
  match s.punch.row with
  | some r =>
    if r.stage == .advanceDue && !s.advanceBlocked then
      some { s with punch := { s.punch with row := some { r with stage := .advancing, since := s.now } } }
    else none
  | none =>
    if s.answer.power != .active || s.driversHeld then none
    else
      match s.punch.state with
      | .idle | .suspended => if s.punch.manual != 0 then some (s.takeRow .manual) else none
      | .running => s.runClaim
      | .tapeOut | .fault => none

/-- More than the punch can need between two rows. -/
def punchFuel : Nat := 8

/-- The punch up to the next thing that takes time. -/
def State.punchRun (s : State) : State := repeatWhile State.punchOnce punchFuel s

/-- A row still waiting for its grant is given up and its request withdrawn (R182, R186, R188, R189). -/
def State.dropWaitingRow (s : State) : State :=
  match s.punch.row with
  | none => s
  | some r =>
    if r.stage == .waiting then
      { s.withdraw .punch with punch := { s.punch with row := none } }
    else s

/-- A row is in its cycle. -/
def Punch.rowInCycle (p : Punch) : Bool :=
  match p.row with
  | some r => r.inCycle
  | none => false

/-- Manual leader stopped: the rest of its count discarded, a waiting row withdrawn, a row in cycle left to
complete, under way till then (R188, log 48). -/
def State.stopManual (s : State) : State :=
  let s := if s.punch.manualRow then s.dropWaitingRow else s
  { s with punch := { s.punch with manual := 0 } }

/-- Entry into TAPE OUT (R186); the tape measure is stopped while the input is active (R187). -/
def State.enterTapeOut (s : State) : State :=
  let s := s.latch .tapeOut
  { s with punch := { s.punch with
      state := .tapeOut, manual := 0, suspendPending := false, tapeOutPending := false,
      tapeMeasure := if s.punch.tapeOutActive then none else some s.now } }

/-- Entry into FAULT with nothing left in hand (R189). A TAPE OUT that waited for the row is gone, and is not latched
(log 47). -/
def State.enterPunchFault (s : State) : State :=
  { s with punch := { s.punch with
      state := .fault, row := none, manual := 0, suspendPending := false, tapeOutPending := false,
      faultPending := false, tapeMeasure := none } }

/-- A failing finding on a punch channel (R189): a firing runs its full grant first; any other row in hand is
given up at once, one whose advance is held back too (log 50). Till that grant ends FAULT is not entered, and manual
leader that fires counts as under way, though it is discarded (log 51). A TAPE OUT that waits for the row gives way to it (log 47). -/
def State.punchFault (s : State) : State :=
  if s.punch.state == .fault then s
  else
    match s.punch.row with
    | none => s.enterPunchFault
    | some r =>
      if r.stage == .firing then
        { s with punch := { s.punch with
            faultPending := true, manual := 0, suspendPending := false, tapeOutPending := false } }
      else if r.stage == .waiting then (s.withdraw .punch).enterPunchFault
      else s.enterPunchFault

end Sys2Proof.Machine
end

