-- ==== Sys2Proof/Machine/SweepOps.lean ====
section
/-! DEFINITION. Diagnostics and Status (spec/11_drivers_self_check_and_status_reports.md): findings and their
owners, sweeps, the end of STARTING (up to what the Sender does with it), the snapshot and its clearing. -/
namespace Sys2Proof.Machine

/-! ### Findings -/

/-- `f` applied to the element at an index. -/
def updateAt {α : Type} (f : α → α) : Nat → List α → List α
  | _, [] => []
  | 0, a :: l => f a :: l
  | n + 1, a :: l => a :: updateAt f n l

/-- A finding replaces a code of lower rank and leaves a code as bad or worse (R193). -/
def mergeCode (new old : ChanCode) : ChanCode := if new.rank < old.rank then new else old

/-- A finding merged into its channel's latched code (R193). -/
def State.mergeFinding (s : State) (ch : Channel) (c : ChanCode) : State :=
  { s with diag := { s.diag with codes := updateAt (mergeCode c) (channelIndex ch) s.diag.codes } }

/-- A failing finding handed to the channel's owner (R196). -/
def State.toOwner (s : State) : Channel → State
  | .needle i => s.excludeNeedle i.val
  | .track _ | .tapeAdvance => s.punchFault
  | .motion => s.motionFault

/-- A finding OPEN, SHORTED or OVERCURRENT merged and handed to its owner (R196). -/
def State.failing (s : State) (ch : Channel) (c : ChanCode) : State := (s.mergeFinding ch c).toOwner ch

/-- An off-state finding: a failing one latches SELF-CHECK and reaches the owner, PASSED is only merged
(R195, R196). -/
def State.offStateFinding (s : State) (ch : Channel) (f : TestFinding) : State :=
  match f with
  | .passed => s.mergeFinding ch .passed
  | .opened => (s.latch .selfCheck).failing ch .opened
  | .shorted => (s.latch .selfCheck).failing ch .shorted

/-! ### Sweeps -/

/-- A sweep begins at N1, its first request due (R197). -/
def State.beginSweep (s : State) (k : SweepKind) : State :=
  { s with diag := { s.diag with
      sweep := some { kind := k, index := 0, findings := List.replicate 17 none, stage := .due } } }

/-- The test of the sweep's channel can be asked for: no other test is under its grant, and TA and MOT are at
rest (R195, R197). -/
def State.testReady (s : State) (w : Sweep) : Bool :=
  s.diag.testing == none
    && !(w.index == 15 && s.punch.advancing)
    && !(w.index == 16 && s.printer.motion != .none)

/-- The due request of the sweep's channel is made when it can be (R195, R197). -/
def State.testGo (s : State) : State :=
  match s.diag.sweep with
  | none => s
  | some w =>
    if w.stage == .due && s.testReady w then
      { s with diag := { s.diag with sweep := some { w with stage := .waiting s.now } } }.request .test
    else s

/-- STARTING's two conditions: the self-check has ended and SEEDED has been reported (R198). -/
def State.startingOver (s : State) : Bool :=
  s.diag.starting && !s.driversHeld && s.keys.seeding == 16

/-- A sweep ends after its 17th channel (R197, R198, R202). An accepted STATUS request that waited behind the
self-check begins its sweep. -/
def State.endSweep (s : State) (w : Sweep) : State :=
  let s := { s with diag := { s.diag with sweep := none } }
  match w.kind with
  | .selfCheck => if s.diag.request == .sweeping then s.beginSweep .status else s
  | .status =>
    { s with diag := { s.diag with findings := w.findings, request := .pending } }.requestStatus
  | .idle => s

/-- The sweep goes on to its next channel with this channel's result, or ends (R197). -/
def State.advanceSweep (s : State) (result : Option TestFinding) : State :=
  match s.diag.sweep with
  | none => s
  | some w =>
    let w := { w with findings := w.findings.set w.index result, index := w.index + 1, stage := .due }
    if w.index < 17 then { s with diag := { s.diag with sweep := some w } } else s.endSweep w

/-! ### The STATUS text (R203) and its clearing (R204) -/

/-- Names separated by single spaces. -/
def joinNames : List (List Code) → List Code
  | [] => []
  | [a] => a
  | a :: b :: l => a ++ [chSpace] ++ joinNames (b :: l)

/-- Line 1. -/
def State.statusLine1 (s : State) : List Code :=
  textOf "STATION " ++ twoDigits s.straps.code.toNat ++ textOf " MODE " ++
    [if s.answer.attend == .attended then codeOf 'A' else codeOf 'U'] ++ textOf " FREE " ++
    fourDigits s.store.free ++ textOf " CELLS " ++ twoDigits s.store.freeRecs ++ textOf " RECS"

/-- Line 2. -/
def State.statusLine2 (s : State) : List Code :=
  match allEvents.filter s.diag.latched.contains with
  | [] => textOf "NONE"
  | l => joinNames (l.map Event.name)

/-- Line 3. -/
def State.statusLine3 (s : State) : List Code := s.diag.codes.map ChanCode.letter

/-- Line 4. -/
def State.statusLine4 (s : State) : List Code := textOf "ERRORS " ++ threeDigits s.diag.errorTotal

/-- The four lines, each ended by CR LF. -/
def State.statusText (s : State) : List Code :=
  s.statusLine1 ++ crLf ++ s.statusLine2 ++ crLf ++ s.statusLine3 ++ crLf ++ s.statusLine4 ++ crLf

/-- The snapshot marks every event as not latched again (R203). -/
def State.markSnapshot (s : State) : State := { s with diag := { s.diag with again := [] } }

/-- A written report's clearing, `captured` and `total` being what its snapshot captured (R204). -/
def Diag.clearReport (d : Diag) (captured : List Event) (total : Nat) : Diag :=
  { d with
    latched := d.latched.filter fun e => !captured.contains e || d.again.contains e
    errorTotal := d.errorTotal - total
    codes := d.findings.map fun f =>
      match f with
      | some f => findingCode f
      | none => .notTested
    request := .none
    findings := List.replicate 17 none }

/-- A refused report: nothing is cleared, the findings are discarded (R204). -/
def Diag.dropReport (d : Diag) : Diag := { d with request := .none, findings := List.replicate 17 none }

end Sys2Proof.Machine
end

