-- ==== Sys2Proof/Machine/PowerOps.lean ====
section
/-! DEFINITION. Power states (R95 to R99) and the settling of a command: the follow-ups the blocks make in the
command's own instant, in one fixed order (log 5). -/
namespace Sys2Proof.Machine

/-- Entry into ACTIVE (R98, R99): the printer, if OFF, starts its spin-up (R143), and no spin-up has ended since
this entry (R157); the measures start afresh. -/
def State.enterActive (s : State) : State :=
  { s with
    answer := { s.answer with power := .active, rest := none, dormancy := none }
    printer := { s.printer with
      spunUp := false
      state := if s.printer.state == .off then .starting else s.printer.state
      spinUp := if s.printer.state == .off then s.now else s.printer.spinUp } }

/-- A wake event (R98): QUIET and DORMANT pass into ACTIVE. -/
def State.wake (s : State) : State := if s.answer.power == .active then s else s.enterActive

/-- The printer on leaving ACTIVE (R143): STARTING, READY and PRINTING become OFF and pending feeds are
discarded. -/
def Printer.leaveActive (p : Printer) : Printer :=
  match p.state with
  | .starting | .ready | .printing => { p with state := .off, pendingFeeds := 0 }
  | .off | .paperOut | .fault => p

/-- Leaving ACTIVE for QUIET (R96, R99): the printer's and the punch's motors stop (R143, R190). -/
def State.leaveActive (s : State) : State :=
  let s := s.dropWaitingRow.stopManual
  { s with
    answer := { s.answer with power := .quiet, rest := none, dormancy := none }
    printer := s.printer.leaveActive
    diag := { s.diag with idleSince := none } }

/-- The store indicates PRINT WORK or PUNCH WORK outside ACTIVE: a wake event (R98). -/
def State.wakeOnWork (s : State) : State :=
  if s.store.printWork || s.store.punchWork then s.wake else s

/-- The rest measure runs in ACTIVE while the rest condition holds (R96); the dormancy measure runs in QUIET
while UNATTENDED (R97). -/
def State.updateMeasures (s : State) : State :=
  { s with answer := { s.answer with
      rest := if s.answer.power == .active && s.restCondition then some (s.answer.rest.getD s.now) else none
      dormancy := if s.answer.power == .quiet && s.answer.attend == .unattended
        then some (s.answer.dormancy.getD s.now) else none } }

/-- The follow-ups of a command in its own instant (log 5): a wake, a test request that has become possible,
the printer, the punch, the measures. -/
def State.settle (s : State) : State := s.wakeOnWork.testGo.printerRun.punchRun.updateMeasures

end Sys2Proof.Machine
end

