-- ==== Sys2Proof/Machine/KeyOps.lean ====
section
/-! DEFINITION. The Key Sense Unit's operations (spec/06_key_sensing.md): the sensing arithmetic, the key state
machine, baselines, press events, and one whole scan. -/
namespace Sys2Proof.Machine

/-! ### The arithmetic -/

/-- The largest baseline, in sixteenths (R102). -/
abbrev maxL16 : Nat := 65520

/-- The visible baseline L (R102). -/
def KeyRec.level (r : KeyRec) : Nat := r.l16 / 16

/-- The filtered count from its previous value and a raw count, one above 4095 taken as 4095 (R102). -/
def filterCount (f count : Nat) : Nat := (f + min count 4095) / 2

/-- The delta D = F - L (R104). -/
def delta (f level : Nat) : Int := (f : Int) - (level : Int)

/-- The correction of a half from its reference pad's delta, rounding toward zero (R105). -/
def correction (d : Int) : Int := (d * 192).tdiv 256

/-- The corrected delta Dc = D - corr, clamped (R106). -/
def correctedDelta (d corr : Int) : Int := max (-4095) (min 4095 (d - corr))

/-- The press threshold of the key at `p` (R107). -/
def pressThreshold (p level : Nat) : Nat := max 24 (level * classFactor p / 256)

/-- The release threshold (R107). -/
def releaseThreshold (p level : Nat) : Nat := pressThreshold p level - pressThreshold p level / 4

/-- A baseline brought toward 16·F, up by one `up`-th of the gap and down by one `down`-th, rounding toward zero
and clamped (R105, R110). -/
def moveBaseline (up down f l16 : Nat) : Nat :=
  min maxL16 (if l16 ≤ 16 * f then l16 + (16 * f - l16) / up else l16 - (l16 - 16 * f) / down)

/-! ### One key at stage 3 -/

/-- The stuck measure has reached 24 s (R112). -/
def KeyRec.stuckOver (r : KeyRec) (now : Nat) : Bool :=
  match r.stuckSince with
  | some t => t + ms 24000 ≤ now
  | none => false

/-- The key is PRESSED or LEAVING. -/
def KeyRec.down (r : KeyRec) : Bool := r.state == .pressed || r.state == .leaving

/-- Release by force: IDLE, counts 0, the baseline at 16·F (R112). -/
def KeyRec.forceRelease (r : KeyRec) : KeyRec :=
  { r with state := .idle, debounce := 0, excursion := 0, stuckSince := none, l16 := 16 * r.f }

/-- The key enters PRESSED at instant `now` (R108). -/
def KeyRec.press (r : KeyRec) (now : Nat) : KeyRec :=
  { r with state := .pressed, debounce := 3, stuckSince := some now }

/-- The key state taken from the corrected delta and the two thresholds (R108, R109). -/
def KeyRec.takeState (r : KeyRec) (now : Nat) (dc t release : Int) : KeyRec :=
  match r.state with
  | .idle =>
    if t ≤ dc then { r with state := .entering, debounce := 1 } else { r with debounce := 0 }
  | .entering =>
    if t ≤ dc then
      if 2 ≤ r.debounce then r.press now else { r with debounce := r.debounce + 1 }
    else { r with state := .idle, debounce := 0 }
  | .pressed =>
    if release ≤ dc then { r with debounce := 0 } else { r with state := .leaving, debounce := 1 }
  | .leaving =>
    if release ≤ dc then { r with state := .pressed, debounce := 0 }
    else { r with state := .idle, debounce := 0, stuckSince := none }

/-- The excursion count of a key in the state it has reached (R111, log 14). -/
def KeyRec.takeExcursion (r : KeyRec) (dc t : Int) : KeyRec :=
  { r with excursion := if r.state == .idle && dc ≤ -t then satSucc 8 r.excursion else 0 }

/-- A key at stage 3 (R103), with the F of this scan and the baseline of the scan before. -/
def KeyRec.sense (r : KeyRec) (now p f : Nat) (corr : Int) : KeyRec :=
  let r := { r with f := f }
  if r.down && r.stuckOver now then r.forceRelease
  else
    let dc := correctedDelta (delta f r.level) corr
    let t : Int := pressThreshold p r.level
    (r.takeState now dc t (releaseThreshold p r.level)).takeExcursion dc t

/-! ### Halves and baselines -/

/-- The keys of one half of the keyboard (R101). -/
def halfKeys (left : Bool) : List Nat :=
  (List.range keyPositions).filter fun p => isKeyPosition p && isLeft p == left

/-- The record at a position. -/
def keyAt (l : List KeyRec) (p : Nat) : KeyRec := l.getD p KeyRec.reset

/-- A half is free when all its keys are IDLE (R110). -/
def halfFree (l : List KeyRec) (left : Bool) : Bool :=
  (halfKeys left).all fun p => (keyAt l p).state == .idle

/-- The excursion reseed (R111). -/
def KeyRec.reseed (r : KeyRec) : KeyRec := { r with l16 := 16 * r.f, excursion := 0 }

/-- A position at stage 6 (R105, R110, R111), its half free or halted. -/
def KeyRec.stage6 (r : KeyRec) (p : Nat) (free : Bool) : KeyRec :=
  if !isKeyPosition p then { r with l16 := moveBaseline 64 64 r.f r.l16 }
  else if r.state == .idle && free then
    if r.excursion == 8 then r.reseed else { r with l16 := moveBaseline 64 8 r.f r.l16 }
  else r

/-- A list of the 64 positions. -/
def perPosition {α : Type} (f : Nat → α) : List α := (List.range keyPositions).map f

/-- Stage 6 over all positions. -/
def bringForward (l : List KeyRec) : List KeyRec :=
  let freeL := halfFree l true
  let freeR := halfFree l false
  perPosition fun p => (keyAt l p).stage6 p (if isLeft p then freeL else freeR)

/-- Stages 1 to 3 over all positions (R102 to R112). -/
def senseAll (l : List KeyRec) (now : Nat) (counts : List Nat) : List KeyRec :=
  let f (p : Nat) := filterCount (keyAt l p).f (counts.getD p 0)
  let corr (ref : Nat) := correction (delta (f ref) (keyAt l ref).level)
  let corrL := corr 0
  let corrR := corr 7
  perPosition fun p =>
    if isKeyPosition p then (keyAt l p).sense now p (f p) (if isLeft p then corrL else corrR)
    else { keyAt l p with f := f p }

/-! ### Press events -/

/-- A press event with the SHIFT and CTRL marks of the states reached (R113). -/
def pressOf (l : List KeyRec) (p : Nat) (repeated : Bool) : Press :=
  { position := p, shift := (keyAt l posShift).state == .pressed, ctrl := (keyAt l posCtrl).state == .pressed,
    repeated := repeated }

/-- The one character key PRESSED together with REPEAT (R114). -/
def repeatKey (l : List KeyRec) : Option Nat :=
  if (keyAt l posRepeat).state == .pressed then
    match (List.range keyPositions).filter fun p => isCharacterKey p && (keyAt l p).state == .pressed with
    | [p] => some p
    | _ => none
  else none

/-- The repeat measure has reached 100 ms for the key it runs for (R114). -/
def repeatDue (measure : Option (Nat × Nat)) (key : Option Nat) (now : Nat) : Bool :=
  match measure, key with
  | some (k, t), some p => k == p && t + ms 100 ≤ now
  | _, _ => false

/-- The repeat measure after stage 4 (R114). -/
def nextRepeat (measure : Option (Nat × Nat)) (key : Option Nat) (now : Nat) : Option (Nat × Nat) :=
  match key with
  | none => none
  | some p =>
    match measure with
    | none => some (p, now)
    | some (k, t) => if k == p && now < t + ms 100 then some (k, t) else some (p, now)

/-- The press events of a scan in ascending order of position (R113, R114, R115). -/
def scanEvents (before after : List KeyRec) (repeating : Option Nat) : List Press :=
  (List.range keyPositions).flatMap fun p =>
    (if isKeyPosition p && (keyAt before p).state == .entering && (keyAt after p).state == .pressed then
      [pressOf after p false] else []) ++
    (if repeating == some p then [pressOf after p true] else [])

/-- A press event is reported to the Answer Unit as it is made (R93, R96, R98, R116). -/
def State.reportPress (s : State) (p : Press) : State :=
  { s with answer := { s.answer with
      attend := if p.position = posAttend then s.answer.attend else .attended
      attendSince := s.now
      rest := none } }.wake

/-- A press event is added to the queue, or dropped with KEY OVERRUN (R115). -/
def State.queuePress (s : State) (p : Press) : State :=
  if maxPresses ≤ s.interp.queue.length then s.latch .keyOverrun
  else { s with interp := { s.interp with queue := s.interp.queue ++ [p] } }

/-- A press event made: reported and queued. -/
def State.makePress (s : State) (p : Press) : State := (s.reportPress p).queuePress p

/-! ### A scan -/

/-- Some key entered ENTERING (R118). -/
def anyEntered (before after : List KeyRec) : Bool :=
  (List.range keyPositions).any fun p =>
    isKeyPosition p && (keyAt before p).state == .idle && (keyAt after p).state == .entering

/-- Some key was released by force (R112). -/
def anyForced (before : List KeyRec) (now : Nat) : Bool :=
  (List.range keyPositions).any fun p =>
    isKeyPosition p && (keyAt before p).down && (keyAt before p).stuckOver now

/-- An ordinary scan, its seven stages (R103). -/
def State.scan (s : State) (counts : List Nat) : State :=
  let before := s.keys.recs
  let sensed := senseAll before s.now counts
  let key := repeatKey sensed
  let repeating := if repeatDue s.keys.repeatMeasure key s.now then key else none
  let events := scanEvents before sensed repeating
  let s := { s with keys := { s.keys with
    recs := bringForward sensed, repeatMeasure := nextRepeat s.keys.repeatMeasure key s.now, lastScan := s.now } }
  let s := if anyForced before s.now then s.latch .stuckKey else s
  let s := (events.foldl State.makePress s).stepGenerator 1
  if anyEntered before sensed then s.wake else s

/-- A seeding scan (R119): the first sets F to the raw count, later ones filter. -/
def seedFilter (l : List KeyRec) (taken : Nat) (counts : List Nat) : List KeyRec :=
  perPosition fun p =>
    let r := keyAt l p
    { r with f := if taken = 0 then min (counts.getD p 0) 4095 else filterCount r.f (counts.getD p 0) }

/-- Every baseline at 16·F, at the 16th seeding scan (R119). -/
def seedBaselines (l : List KeyRec) : List KeyRec :=
  perPosition fun p => { keyAt l p with l16 := 16 * (keyAt l p).f }

end Sys2Proof.Machine
end

