-- ==== Sys2Proof/Machine/SenderOps.lean ====
section
/-! DEFINITION. The Sender's operations (spec/04_contention_sending_and_receipts.md): choosing a source, spans,
the beginning and the ways of ending of a block, the receipt watch, and the line condition's reports. -/
namespace Sys2Proof.Machine

/-! ### Source and span -/

/-- The yield count of a composition (R67). -/
def Interp.yieldsOf (i : Interp) (serial : Nat) : Nat :=
  match i.comps.find? fun c => c.serial == serial with
  | some c => c.yields
  | none => 0

/-- No span runs (R66, R70). -/
def Sender.noSpan (r : Sender) : Sender := { r with span := none, spanReached := false }

/-- The span of the present source starts on a QUIET line (R66, R67): a reply's is the reply gap of 1 Tc, a
composition's is the quiet gap of 3 Tc, a fresh draw, and 4 courtesy slots when the mark is set. -/
def State.startSpan (s : State) : State :=
  match s.sender.source with
  | .none => { s with sender := s.sender.noSpan }
  | .reply => { s with sender := { s.sender with span := some 1, draw := 0, spanReached := false } }
  | .comp n =>
    let d := backoffDraw (s.interp.yieldsOf n) s.sender.generator
    { s with sender := { s.sender with
        span := some (3 + d + if s.sender.courtesy then 4 else 0), draw := d, spanReached := false } }

/-- The span starts now, or waits for QUIET (R66, R67, R70). -/
def State.beginSpan (s : State) : State :=
  if s.line.condition == .quiet then s.startSpan else { s with sender := s.sender.noSpan }

/-- The Sender idle with no source. -/
def Sender.rest (r : Sender) : Sender := { r.noSpan with state := .idle, source := .none }

/-- The Sender chooses its source and enters DEFERRING, or IDLE without work or while STARTING (R64, R77). -/
def State.chooseNext (s : State) : State :=
  if s.diag.starting then { s with sender := s.sender.rest }
  else
    match s.chosenSource with
    | .none => { s with sender := s.sender.rest }
    | src => { s with sender := { s.sender with state := .deferring, source := src } }.beginSpan

/-- Work has appeared: an IDLE Sender takes it up once the station is not STARTING (R62, R64). -/
def State.workAppears (s : State) : State := if s.sender.state == .idle then s.chooseNext else s

/-- The end of STARTING, when both its conditions hold (R198): the Sender takes up its work (R64). -/
def State.checkStarting (s : State) : State :=
  if s.startingOver then { s with diag := { s.diag with starting := false } }.workAppears else s

/-! ### Line condition reports -/

/-- The condition becomes QUIET with the quiet time at zero; a DEFERRING Sender chooses again and starts its
span (R30, R64, R70). -/
def State.becomeQuiet (s : State) : State :=
  let s := { s with line := { s.line with condition := .quiet, quietSince := s.now } }
  if s.sender.state == .deferring then s.chooseNext else s

/-- The condition becomes another than QUIET; a DEFERRING Sender's span restarts (R30, R70). -/
def State.leaveQuiet (s : State) (c : LineCondition) : State :=
  let s := { s with line := { s.line with condition := c } }
  if s.sender.state == .deferring then { s with sender := s.sender.noSpan } else s

/-! ### The beginning of a block -/

/-- The source is an IDENT block, which needs the identity memory (R71). -/
def State.sourceIsIdent (s : State) : Bool :=
  match s.sender.source with
  | .none => false
  | .reply =>
    match s.sender.replies.head? with
    | some (.ident _) => true
    | _ => false
  | .comp n => s.interp.comps.any fun c => c.serial == n && c.kind == .here

/-- The header and the whole block a source is sent as, its content read at this instant (R72, R91). -/
def State.buildBlock (s : State) : Option (List Code × List Code) :=
  let own := s.straps.code
  let block (d : Dests) (tail : List Code) := some (headerOf d own, headerOf d own ++ tail ++ [chOver])
  match s.sender.source with
  | .none => none
  | .reply =>
    match s.sender.replies.head? with
    | none => none
    | some (.receipt d l) => block (.codes [d]) [chReceipt, l.code]
    | some (.ident d) => block (.codes [d]) (chIdent :: s.identityContent)
  | .comp n =>
    match s.interp.comps.find? fun c => c.serial == n with
    | none => none
    | some c =>
      match c.kind with
      | .message => block c.dests (chBody :: c.codes)
      | .query => block c.dests [chQuery]
      | .here => block .all (chIdent :: s.identityContent)

/-- The start element of CALL begins: the Sender is SENDING, its source fixed and its block built; a
composition is reported SENDING and the courtesy mark cleared for it (R69, R72). -/
def State.beginBlock (s : State) (header block : List Code) : State :=
  { s with
    line := { s.line with tx := .shifting chCall s.now }
    sender := { s.sender.noSpan with
      state := .sending, block := block, position := 1, headerLength := header.length,
      courtesy := if s.sender.source == .reply then s.sender.courtesy else false }
    interp := { s.interp with comps := s.interp.comps.map fun c =>
      if s.sender.source == .comp c.serial then { c with state := .sending } else c } }

/-- The next sample instant on a QUIET line (R35): the first after the present one of the instants that lie whole sample
intervals after the one at which the line became QUIET, itself a sample's (R30, log 37). -/
def State.nextSample (s : State) : Nat :=
  s.line.quietSince + s.samples ((s.now - s.line.quietSince) / s.samples 1 + 1)

/-- START ordered of an IDLE transmitter on a QUIET line (R35), taken at the next sample instant: begun there on a mark
sample; otherwise START REFUSED, and the Sender waits for QUIET (R70). -/
def State.orderStart (s : State) (lastMark : Bool) : State :=
  let s := s.reach s.nextSample
  if lastMark then
    match s.buildBlock with
    | none => s
    | some (header, block) => s.beginBlock header block
  else { s with sender := s.sender.noSpan }

/-- The required span is reached (R66); an IDENT block waits while the identity memory is WRITING (R71). -/
def State.spanComplete (s : State) (lastMark : Bool) : State :=
  if s.sourceIsIdent && s.answer.cycle != .idle then
    { s with sender := { s.sender with spanReached := true } }
  else s.orderStart lastMark

/-- A cycle of the identity memory has ended (R71): a source that waited for it is started if the line is
still QUIET. -/
def State.startAfterCycle (s : State) (lastMark : Bool) : State :=
  if s.sender.state == .deferring && s.sender.spanReached && s.line.condition == .quiet then
    s.orderStart lastMark
  else s

/-! ### The ends of a block -/

/-- `f` applied to the SENDING composition. -/
def Interp.onSending (i : Interp) (f : Comp → Comp) : Interp :=
  { i with comps := i.comps.map fun c => if c.state == .sending then f c else c }

/-- The block's own items after its end. -/
def Sender.noBlock (r : Sender) : Sender :=
  { r with block := [], position := 0, headerLength := 0, abandoning := false }

/-- A composition's block has left SENDING other than by a yield: the courtesy mark is set (R69). A reply's
leaves it as it was. -/
def Sender.setCourtesy (r : Sender) : Sender :=
  { r with courtesy := if r.source == .reply then r.courtesy else true }

/-- A block cut after its header, by the BREAK key or by LINE OPEN (R75, R77, R78): a composition becomes HELD,
a reply is discarded, and the block's source is no longer one (log 39). An abandoned block's composition is gone
already (R76). -/
def State.cutBlock (s : State) : State :=
  { s with
    sender := { s.sender.setCourtesy.noBlock with
      source := .none
      replies := if s.sender.source == .reply then s.sender.replies.tail else s.sender.replies }
    interp := s.interp.onSending fun c => { c with state := .held } }

/-- A yield (R74): the same source is deferred for again, a composition READY with its yield count raised. -/
def State.yieldBlock (s : State) : State :=
  let s := { s with
    sender := { s.sender.noBlock with state := .deferring }
    interp := s.interp.onSending fun c => { c with state := .ready, yields := satSucc 3 c.yields } }
  (if s.sender.source == .reply then s else s.wake).beginSpan

/-- A destination list of exactly one code (R73). -/
def Dests.single : Dests → Option Station
  | .codes [d] => some d
  | .codes _ | .all => none

/-- The code whose receipt a SENDING composition waits for (R79). -/
def Comp.receiptFrom (c : Comp) : Option Station :=
  match c.kind with
  | .message => c.dests.single
  | .query | .here => none

/-- The SENDING composition at the end of its OVER, ended at instant `t`: AWAITING with the watch set, or
removed (R73, R79). -/
def State.finishComp (s : State) (t : Nat) : State :=
  match s.interp.comps.find? fun c => c.state == .sending with
  | none => s
  | some c =>
    match c.receiptFrom with
    | some d =>
      { s with
        sender := { s.sender with watch := .waiting d (t + s.charTimes 30) c.serial }
        interp := s.interp.onSending fun c => { c with state := .awaiting } }
    | none =>
      { s with interp := { s.interp with comps := s.interp.comps.filter fun c => c.state != .sending } }

/-- The end of OVER at instant `t` (R73, R76): a reply leaves the queue; a composition is finished, unless it was
abandoned. -/
def State.finishBlock (s : State) (t : Nat) : State :=
  let s :=
    if s.sender.source == .reply then
      { s with sender := { s.sender with replies := s.sender.replies.tail } }
    else s.finishComp t
  { s with sender := s.sender.setCourtesy.noBlock }.chooseNext

/-- An abandon request (R76): after the character in hand ABANDON and OVER are sent; an OVER already being
shifted ends the block as it stands. -/
def Sender.abandon (r : Sender) : Sender :=
  { r with
    abandoning := true
    block := if r.position < r.block.length then r.block.take r.position ++ [chAbandon, chOver] else r.block }

/-- A BREAK request taken in IDLE, DEFERRING or SENDING (R77). In DEFERRING the source is kept; a block cut in SENDING
leaves none (log 39). -/
def State.takeBreak (s : State) : State :=
  let s := if s.sender.state == .sending then s.cutBlock else s
  { s with
    line := { s.line with tx := .holding (s.now + s.charTimes 3) }
    sender := { s.sender.noSpan with state := .breaking } }

/-! ### Replies and the receipt watch -/

/-- A reply is added at the tail, or dropped with REPLY LOST (R63); an IDLE Sender takes it up, and a DEFERRING
one gives it the place of a composition (R65). -/
def State.addReply (s : State) (r : Reply) : State :=
  if maxReplies ≤ s.sender.replies.length then s.latch .replyLost
  else
    let s := { s with sender := { s.sender with replies := s.sender.replies ++ [r] } }
    match s.sender.state with
    | .idle => s.workAppears
    | .deferring =>
      if s.sender.source == .reply then s
      else { s with sender := { s.sender with source := .reply, draw := 0 } }.beginSpan
    | .sending | .breaking => s

/-- The watch settles with a letter or NONE (R80, R81): the bell unless K, the CONFIRM request, the composition
removed; the Sender chooses its source (R79). -/
def State.settleWatch (s : State) (dest : Station) (letter : Option Letter) : State :=
  let s := if letter == some .k then s else s.bell
  let s := s.requestConfirm dest letter
  { s with
    sender := { s.sender with watch := .none }
    interp := { s.interp with comps := s.interp.comps.filter fun c => c.state != CompState.awaiting } }.workAppears

/-- RECEIPT HEARD (R58, R80): it settles a watch waiting for that sender, and changes nothing otherwise. -/
def State.receiptHeard (s : State) (from' : Station) (letter : Letter) : State :=
  match s.sender.watch with
  | .none => s
  | .waiting dest _ _ => if dest = from' then s.settleWatch dest (some letter) else s

end Sys2Proof.Machine
end

