-- ==== Sys2Proof/Machine/ReceiverOps.lean ====
section
/-! DEFINITION. The Block Receiver's operations (spec/03_blocks_and_selection.md): the header, selection, content,
the ways a block ends and what is owed at its close, and the Line Interface's reports to it. -/
namespace Sys2Proof.Machine

/-- The parser moved, every block-level item kept. -/
def State.parserTo (s : State) (p : Parser) : State := { s with recv := { s.recv with parser := p } }

/-- The parser in IDLE with the stall timer stopped (R40, R45). -/
def State.parserIdle (s : State) : State :=
  { s with recv := { s.recv with parser := .idle, stall := none } }

/-- An error-free CALL begins a block: the block-level items emptied, DESTS, the stall deadline 20 Tc after the
START of that character (R40). -/
def State.takeCall (s : State) : State :=
  { s with recv := { Receiver.reset with
      parser := .dests
      stall := some (s.recv.lastStart + s.charTimes 20)
      lastStart := s.recv.lastStart } }

/-- What every header state does with a character that is not its own (R41 to R44): CALL restarts the header, OVER ends
the block, NUL is dropped, anything else is a violation. -/
def State.otherHeaderChar (s : State) (c : Code) : State :=
  if c = chCall then s.takeCall
  else if c = chOver then s.parserIdle
  else if c = chNul then s
  else s.parserTo .skip

/-! ### The header (R41, R42) -/

/-- A destination character in DESTS: a code after fewer than four codes, `*` first (R41). -/
def Dests.add (d : Dests) (c : Code) : Option Dests :=
  match d with
  | .all => none
  | .codes l =>
    if c = chStar then
      if l.isEmpty then some .all else none
    else
      match stationOf c with
      | some st => if l.length < 4 then some (.codes (l ++ [st])) else none
      | none => none

/-- An error-free character in DESTS. -/
def State.takeDest (s : State) (c : Code) : State :=
  if c = chFrom then s.parserTo (if s.recv.dests = .codes [] then .skip else .sender)
  else
    match s.recv.dests.add c with
    | some d => { s with recv := { s.recv with dests := d } }
    | none => s.otherHeaderChar c

/-- An error-free character in SENDER. -/
def State.takeSender (s : State) (c : Code) : State :=
  match stationOf c with
  | some st => { s with recv := { s.recv with parser := .kind, senderCode := some st } }
  | none => s.otherHeaderChar c

/-! ### Selection -/

/-- The block's sender code is the own code. -/
def State.ownCodeHeard (s : State) : Bool := s.recv.senderCode == some s.straps.code

/-- The station's own block (R46). -/
def State.isOwnBlock (s : State) : Bool := s.ownCodeHeard && s.sender.state == .sending

/-- The destination list is the own code alone (R47). -/
def State.singleToOwn (s : State) : Bool := s.recv.dests == .codes [s.straps.code]

/-- The destination list holds the own code or is ALL (R47). -/
def State.selected (s : State) : Bool :=
  match s.recv.dests with
  | .all => true
  | .codes l => l.contains s.straps.code

/-- The disposition of a block of a kind (R47). -/
def State.dispositionOf (s : State) (k : BlockKind) : Disposition :=
  if s.isOwnBlock then
    match k with
    | .body => .recorded .sent
    | .query | .ident | .receipt => .passedOver
  else if s.selected then
    match k with
    | .body => .recorded .received
    | .query => if s.singleToOwn || s.recv.dests == .all then .identityQuery else .passedOver
    | .ident => .recorded .ident
    | .receipt => if s.singleToOwn then .candidateReceipt else .passedOver
  else
    match k with
    | .body => if s.straps.monitor then .recorded .overheard else .passedOver
    | .query | .ident | .receipt => .passedOver

/-- The peer of a block's record (R48). -/
def State.peerFor (s : State) (k : RecKind) : Option Station :=
  match k with
  | .sent =>
    match s.recv.dests with
    | .all => none
    | .codes l => l.head?
  | .received | .overheard | .ident | .localTyping | .confirm | .status => s.recv.senderCode

/-- The kind a kind character stands for (R43). -/
def kindOf (c : Code) : Option BlockKind :=
  if c = chBody then some .body
  else if c = chQuery then some .query
  else if c = chIdent then some .ident
  else if c = chReceipt then some .receipt
  else none

/-- The record the disposition calls for, asked for at the kind character (R6, R48). -/
def State.askRecord (s : State) (d : Disposition) : State :=
  match d with
  | .recorded k =>
    let (s, opened) := s.splitLocal.openRecord k (s.peerFor k)
    { s with recv := { s.recv with recordStatus := if opened then .opened else .noRecord } }
  | .undecided | .passedOver | .identityQuery | .candidateReceipt => s

/-- The kind character (R43, R46, R47, R48). -/
def State.takeKindOf (s : State) (k : BlockKind) : State :=
  let d := s.dispositionOf k
  let s := if s.ownCodeHeard && s.sender.state != .sending then s.latch .duplicateCode else s
  let s := { s with recv := { s.recv with
    parser := .text, kind := some k, disposition := d, contentCount := 0, contentError := false,
    firstContent := none, held := none } }
  s.askRecord d

/-- An error-free character in KIND. -/
def State.takeKind (s : State) (c : Code) : State :=
  match kindOf c with
  | some k => s.takeKindOf k
  | none => s.otherHeaderChar c

/-! ### Content -/

/-- A content character for the record: an IDENT record's is held back one place (R49, R50). -/
def State.storeContent (s : State) (c : Code) : State :=
  if s.recv.recordStatus != .opened then s
  else if s.recv.disposition == .recorded .ident then
    let s := match s.recv.held with
      | some h => s.append h
      | none => s
    { s with recv := { s.recv with held := some c } }
  else s.append c

/-- A content character taken: counted, the first one kept, an error marked and reported, and stored (R49). -/
def State.takeContentAs (s : State) (c : Code) (isError : Bool) : State :=
  let s := { s with recv := { s.recv with
    contentCount := satSucc 65535 s.recv.contentCount
    contentError := s.recv.contentError || isError
    firstContent := if s.recv.firstContent.isNone then some c else s.recv.firstContent } }
  let s := if isError && s.recv.recordStatus == .opened then s.reportError else s
  s.storeContent c

/-! ### The close (R50 to R59) -/

/-- The held character of an IDENT record, after a space when the block closes COMPLETE (R50). Appended, it is no longer
held: R39 leaves open whether it is emptied here or at the next CALL (log 38). -/
def State.appendHeld (s : State) (reason : EndReason) : State :=
  match s.recv.held with
  | none => s
  | some h =>
    let s := if reason = .complete then s.append chSpace else s
    { s.append h with recv := { s.recv with held := none } }

/-- The receipt outcome, from the closed record's marks (R56). -/
def State.receiptOutcome (s : State) : Letter :=
  if s.recv.recordStatus != .opened then .x
  else
    match s.store.recs.getLast? with
    | none => .x
    | some r => if r.truncated then .t else if 0 < r.errors then .e else .k

/-- A well-formed QUERY (R51). -/
def Receiver.wellFormedQuery (r : Receiver) : Bool := r.contentCount == 0

/-- The letter of a well-formed RECEIPT (R51). -/
def Receiver.receiptLetter (r : Receiver) : Option Letter :=
  if r.contentCount == 1 && !r.contentError then r.firstContent.bind letterOf else none

/-- What a COMPLETE close hands on (R56, R57, R58, R90). -/
def State.closeDuties (s : State) : State :=
  match s.recv.senderCode with
  | none => s
  | some from' =>
    match s.recv.disposition with
    | .recorded .received =>
      if s.singleToOwn then s.addReply (.receipt from' s.receiptOutcome) else s
    | .identityQuery => if s.recv.wellFormedQuery then s.addReply (.ident from') else s
    | .candidateReceipt =>
      match s.recv.receiptLetter with
      | some l => s.receiptHeard from' l
      | none => s
    | .recorded _ | .undecided | .passedOver => s

/-- A block in TEXT closes: the held character, the record, the duties, the parser IDLE (R52, R59). -/
def State.closeBlock (s : State) (reason : EndReason) : State :=
  let s := s.appendHeld reason
  let s := if s.recv.recordStatus == .opened then s.closeRecord reason else s
  let s := if reason = .complete then s.closeDuties else s
  { s with recv := { s.recv with parser := .idle, stall := none, breakPending := false } }

/-- A character in TEXT (R49, R52). -/
def State.takeText (s : State) (c : Code) (isError : Bool) : State :=
  if isError then s.takeContentAs chErrorGlyph true
  else if c = chFrom || (kindOf c).isSome then s.takeContentAs chErrorGlyph true
  else if c = chNul then s
  else if c = chOver then s.closeBlock .complete
  else if c = chAbandon then s.closeBlock .abandoned
  else if c = chCall then (s.closeBlock .broken).takeCall
  else s.takeContentAs c false

/-- A character handed to the Block Receiver with its error mark (R39 to R44, R49). -/
def State.takeCharacter (s : State) (c : Code) (isError : Bool) : State :=
  match s.recv.parser with
  | .idle => if !isError && c = chCall then s.takeCall else s
  | .dests => if isError then s.parserTo .skip else s.takeDest c
  | .sender => if isError then s.parserTo .skip else s.takeSender c
  | .kind => if isError then s.parserTo .skip else s.takeKind c
  | .text => s.takeText c isError
  | .skip =>
    if isError then s
    else if c = chOver then s.parserIdle
    else if c = chCall then s.takeCall
    else s

/-! ### Reports of the Line Interface -/

/-- A character delivered: counted when in error, and taken (R27, R201). -/
def State.deliver (s : State) (c : Code) (isError : Bool) : State :=
  (if isError then s.countError else s).takeCharacter c isError

/-- START: the deadline of a running block moves (R53). -/
def State.startReport (s : State) : State :=
  { s with recv := { s.recv with
      lastStart := s.now
      stall := if s.recv.stall.isSome then some (s.now + s.charTimes 20) else none } }

/-- BREAK BEGUN (R44, R45, R54). -/
def State.breakBegunReport (s : State) : State :=
  match s.recv.parser with
  | .idle => s
  | .dests | .sender | .kind | .skip => s.parserIdle
  | .text => { s with recv := { s.recv with breakPending := true, stall := none } }

/-- BREAK ENDED (R54). -/
def State.breakEndedReport (s : State) : State :=
  if s.recv.parser == .text && s.recv.breakPending then s.closeBlock .broken else s

/-- LINE OPEN (R44, R45, R54, R55). -/
def State.lineOpenReport (s : State) : State :=
  match s.recv.parser with
  | .idle => s
  | .dests | .sender | .kind | .skip => s.parserIdle
  | .text => if s.recv.breakPending then s.closeBlock .lineLost else s

/-- The stall deadline (R53): a block in TEXT closes STALLED, any other block state returns to IDLE. -/
def State.stallReport (s : State) : State :=
  if s.recv.parser == .text then s.closeBlock .stalled else s.parserIdle

end Sys2Proof.Machine
end

