-- ==== Sys2Proof/Machine/InterpOps.lean ====
section
/-! DEFINITION. The Keyboard Interpreter's operations (spec/07_keyboard_interpretation_and_composition.md) and the
identity draft's (R85 to R88): taking a press, compositions, LOCAL records. -/
namespace Sys2Proof.Machine

/-! ### Taking a press (R123, log 13) -/

/-- The press event at the head of the queue is taken, when no event is held and it is one of `sel`. -/
def withKey (s : State) (sel : Press → Bool) (f : Press → State → State) :
    Host.Outcome State Fault Refusal :=
  whenPowered s fun s =>
    match s.interp.queue with
    | [] => s
    | p :: rest =>
      if s.interp.held.isNone && sel p then
        f p { s with interp := { s.interp with queue := rest } }
      else s

/-- A function key's press: while a draft is open it rings the refusal bell (R86, R126). -/
def withFunctionKey (s : State) (sel : Press → Bool) (f : State → State) :
    Host.Outcome State Fault Refusal :=
  withKey s sel fun _ s => if s.answer.draft.isSome then s.bell else f s

/-- The press is of the key at a position. -/
def isAt (pos : Nat) (p : Press) : Bool := p.position == pos

/-- The press is of a key whose CTRL mark selects another function (R122). -/
def isPlain (pos : Nat) (p : Press) : Bool := p.position == pos && !p.ctrl

/-- The press is of a key with its CTRL mark set (R122). -/
def isCtrl (pos : Nat) (p : Press) : Bool := p.position == pos && p.ctrl

/-! ### Compositions -/

/-- `f` applied to the OPEN composition. -/
def Interp.onOpen (i : Interp) (f : Comp → Comp) : Interp :=
  { i with comps := i.comps.map fun c => if c.isOpen then f c else c }

/-- A composition added as the newest (R124). -/
def Interp.addComp (i : Interp) (k : CompKind) (d : Dests) (st : CompState) : Interp :=
  { i with
    comps := i.comps ++ [{ serial := i.nextSerial, kind := k, dests := d, pendingDigit := none, text := [],
                           yields := 0, state := st }]
    nextSerial := i.nextSerial + 1 }

/-- A character in OPEN-ADDRESSING (R128), and whether the refusal bell rings. -/
def Comp.address (c : Comp) (ch : Code) : Comp × Bool :=
  match digitOf ch with
  | none =>
    if ch = chStar && c.dests == .codes [] && c.pendingDigit.isNone then ({ c with dests := .all }, false)
    else (c, true)
  | some d =>
    match c.dests with
    | .all => (c, true)
    | .codes l =>
      match c.pendingDigit with
      | none => if l.length < 4 then ({ c with pendingDigit := some d }, false) else (c, true)
      | some a =>
        let n := 10 * a + d
        if 31 < n || l.contains (BitVec.ofNat 5 n) then ({ c with pendingDigit := none }, true)
        else ({ c with pendingDigit := none, dests := .codes (l ++ [BitVec.ofNat 5 n]) }, false)

/-- RUBOUT in the OPEN composition (R131), and whether the refusal bell rings. -/
def Comp.rubout (c : Comp) : Comp × Bool :=
  if c.state == .openText then
    if c.text.isEmpty then (c, true) else ({ c with text := c.text.dropLast }, false)
  else if c.pendingDigit.isSome then ({ c with pendingDigit := none }, false)
  else
    match c.dests with
    | .all => ({ c with dests := .codes [] }, false)
    | .codes [] => (c, true)
    | .codes l => ({ c with dests := .codes l.dropLast }, false)

/-- The OPEN composition `c` becomes what a press makes of it, with the bell if the press is refused. -/
def State.editOpen (s : State) (c : Comp) (f : Comp → Comp × Bool) : State :=
  let s := { s with interp := s.interp.onOpen fun x => (f x).1 }
  if (f c).2 then s.bell else s

/-- A text unit appended to the OPEN-TEXT composition, when the compose memory has room for all of it
(R125, R129, R130). -/
def State.appendUnit (s : State) (u : TextUnit) : State :=
  if u.codes.length ≤ s.interp.freeCells then
    { s with interp := s.interp.onOpen fun c => { c with text := c.text ++ [u] } }
  else s.bell

/-- A composition has become READY: a wake event, and work for an IDLE Sender (R64, R98, R132). -/
def State.compReady (s : State) : State := s.wake.workAppears

/-- The first HELD composition made READY (R132). -/
def Interp.releaseHeld (i : Interp) : Interp :=
  { i with comps := updateFirst (fun c => c.state == .held) (fun c => { c with state := .ready }) i.comps }

/-- The newest composition removed (R134). -/
def Interp.dropNewest (i : Interp) : Interp := { i with comps := i.comps.dropLast }

/-- A discarded READY composition withdrawn, if it is the Sender's source (R64, R134): a DEFERRING Sender chooses
again, and a BREAKING one, which has kept it (R77), has no source until HOLD_ENDED. -/
def State.withdrawSource (s : State) (serial : Nat) : State :=
  if s.sender.source == .comp serial then
    match s.sender.state with
    | .deferring => s.chooseNext
    | .breaking => { s with sender := { s.sender with source := .none } }
    | .idle | .sending => s
  else s

/-! ### LOCAL records (R138 to R140) -/

/-- A request of local characters (R139): appended, or opening a record, or held on BUSY, or dropped. -/
def State.localRequest (s : State) (p : Press) (cs : List Code) : State :=
  if s.interp.localOpen then s.appendAll cs
  else if s.store.blockOpen then { s with interp := { s.interp with held := some (p, cs) } }
  else
    let (s, opened) := s.openRecord .localTyping none
    if opened then
      { s with interp := { s.interp with localOpen := true } }.appendAll cs
    else s.bell

/-! ### The identity draft (R85 to R88) -/

/-- A character key while a draft is open (R86). -/
def State.draftCharacter (s : State) (draft : List Code) (p : Press) : State :=
  match p.char with
  | some c =>
    if p.ctrl then s.bell
    else if draft.length < maxIdentity then
      { s with answer := { s.answer with draft := some (draft ++ [c]) } }
    else s.bell
  | none => s.bell

/-- RETURN commits the draft: a write cycle begins (R87). -/
def State.commitDraft (s : State) (draft : List Code) : State :=
  { s with answer := { s.answer with
      draft := none, writeLatch := false, cycle := .write draft 1 s.now,
      memory := { s.answer.memory with openCycle := true } } }

/-- The draft discarded (R86). -/
def State.dropDraft (s : State) : State :=
  { s with answer := { s.answer with draft := none, writeLatch := false } }

/-- CTRL+HERE (R85). -/
def State.openDraft (s : State) : State :=
  if s.straps.setup && !s.answer.memory.lock && s.answer.cycle == .idle && s.answer.draft.isNone then
    { s with answer := { s.answer with draft := some [], writeLatch := true } }
  else s.bell

/-- CTRL+LOCAL (R88). -/
def State.lockIdentity (s : State) : State :=
  if s.straps.setup && !s.answer.memory.lock && s.answer.writeLatch && s.answer.cycle == .idle
      && !s.answer.memory.openCycle then
    { s with answer := { s.answer with
        draft := none, writeLatch := false, cycle := .lock s.now,
        memory := { s.answer.memory with openCycle := true } } }
  else s.bell

end Sys2Proof.Machine
end

