-- ==== Sys2Proof/Machine/Answering.lean ====
section
/-! DEFINITION. Meanings of the Answer Unit's timers and of the identity memory's cycles
(spec/05_identity_and_unattended_operation.md). -/
namespace Sys2Proof.Machine

/-- ATTEND_TIMER_EXPIRY (R93): 10 minutes. -/
def execAttendTimerExpiry (s : State) : Host.Outcome State Fault Refusal :=
  whenPowered s fun s =>
    let s := s.reach (s.answer.attendSince + ms 600000)
    { s with answer := { s.answer with attend := .unattended } }.settle

/-- REST_MEASURE_EXPIRY (R96): 30 s of rest in ACTIVE. -/
def execRestMeasureExpiry (s : State) : Host.Outcome State Fault Refusal :=
  whenPowered s fun s =>
    match s.answer.rest with
    | none => s
    | some t =>
      if s.answer.power == .active && s.restCondition then ((s.reach (t + ms 30000)).leaveActive).settle
      else s

/-- DORMANCY_MEASURE_EXPIRY (R97): 5 minutes of QUIET and UNATTENDED together. -/
def execDormancyMeasureExpiry (s : State) : Host.Outcome State Fault Refusal :=
  whenPowered s fun s =>
    match s.answer.dormancy with
    | none => s
    | some t =>
      if s.answer.power == .quiet && s.answer.attend == .unattended then
        let s := s.reach (t + ms 300000)
        { s with answer := { s.answer with power := .dormant, dormancy := none } }.settle
      else s

/-- A step of the write cycle (R87): one character, or after the last the length and the valid marker, which ends
the cycle. -/
def IdMemory.writeStep (m : IdMemory) (text : List Code) (step : Nat) : IdMemory :=
  match text[step - 1]? with
  | some c => { m with text := m.text.set (step - 1) c }
  | none => { m with length := text.length, valid := true, openCycle := false }

/-- WRITE_CYCLE_STEP (R71, R87): the end of a 20 ms step. -/
def execWriteCycleStep (lastMark : Bool) (s : State) : Host.Outcome State Fault Refusal :=
  whenPowered s fun s =>
    match s.answer.cycle with
    | .idle | .lock _ => s
    | .write text step since =>
      let s := s.reach (since + ms 20)
      let s := { s with answer := { s.answer with
        memory := s.answer.memory.writeStep text step
        cycle := if step ≤ text.length then .write text (step + 1) s.now else .idle } }
      if step ≤ text.length then s else (s.startAfterCycle lastMark).settle

/-- LOCK_CYCLE_END (R71, R88). -/
def execLockCycleEnd (lastMark : Bool) (s : State) : Host.Outcome State Fault Refusal :=
  whenPowered s fun s =>
    match s.answer.cycle with
    | .idle | .write _ _ _ => s
    | .lock since =>
      let s := s.reach (since + ms 20)
      let s := { s with answer := { s.answer with
        memory := { s.answer.memory with lock := true, openCycle := false }, cycle := .idle } }
      (s.startAfterCycle lastMark).settle

end Sys2Proof.Machine
end

