-- ==== Sys2Proof/Machine/Interpreting.lean ====
section
/-! DEFINITION. Meanings of the key presses the Keyboard Interpreter takes
(spec/07_keyboard_interpretation_and_composition.md). -/
namespace Sys2Proof.Machine

/-- A character given by a character key, no draft open (R126). -/
def State.takeCharacterKey (s : State) (p : Press) (c : Code) : State :=
  match s.interp.openComp with
  | some o =>
    if o.state == .openAddressing then s.editOpen o fun x => x.address c else s.appendUnit (.char c)
  | none => if s.interp.mode == .localMode then s.localRequest p [c] else s.bell

/-- CHARACTER_KEY (R86, R122, R126, R128, R130, R139). -/
def execCharacterKey (s : State) : Host.Outcome State Fault Refusal :=
  withKey s (fun p => isCharacterKey p.position) fun p s =>
    match s.answer.draft with
    | some d => s.draftCharacter d p
    | none =>
      match p.char with
      | none => s.bell
      | some c => (s.takeCharacterKey p c).settle

/-- MODIFIER_KEY: SHIFT, CTRL or REPEAT (R126); in a draft REPEAT is refused (R86, log 31). -/
def execModifierKey (s : State) : Host.Outcome State Fault Refusal :=
  withKey s (fun p => isAt posShift p || isAt posCtrl p || isAt posRepeat p) fun p s =>
    if s.answer.draft.isSome && isAt posRepeat p then s.bell else s

/-- CALL_KEY (R127). -/
def execCallKey (s : State) : Host.Outcome State Fault Refusal :=
  withFunctionKey s (isAt posCall) fun s =>
    if s.interp.openComp.isSome || maxCompositions ≤ s.interp.comps.length then s.bell
    else { s with interp := s.interp.addComp .message (.codes []) .openAddressing }.settle

/-- The destination list is complete (R129). -/
def Comp.complete (c : Comp) : Bool := c.dests != .codes [] && c.pendingDigit.isNone

/-- RETURN with no draft open (R129). -/
def State.takeReturn (s : State) (p : Press) : State :=
  match s.interp.openComp with
  | some o =>
    if o.state == .openAddressing then
      if o.complete then { s with interp := s.interp.onOpen fun c => { c with state := .openText } } else s.bell
    else s.appendUnit .lineEnd
  | none => if s.interp.mode == .localMode then s.localRequest p crLf else s.bell

/-- RETURN_KEY (R86, R87, R129). -/
def execReturnKey (s : State) : Host.Outcome State Fault Refusal :=
  withKey s (isAt posReturn) fun p s =>
    match s.answer.draft with
    | some d => s.commitDraft d
    | none => (s.takeReturn p).settle

/-- RUBOUT_KEY (R86, R131). -/
def execRuboutKey (s : State) : Host.Outcome State Fault Refusal :=
  withKey s (isAt posRubout) fun _ s =>
    match s.answer.draft with
    | some [] => s.bell
    | some d => { s with answer := { s.answer with draft := some d.dropLast } }
    | none =>
      match s.interp.openComp with
      | some o => s.editOpen o Comp.rubout
      | none => s.bell

/-- SEND with no draft open (R132). -/
def State.takeSend (s : State) : State :=
  match s.interp.openComp with
  | some o =>
    if o.state == .openText then
      { s with interp := s.interp.onOpen fun c => { c with state := .ready } }.compReady
    else s.bell
  | none =>
    if s.interp.comps.any fun c => c.state == .held then
      { s with interp := s.interp.releaseHeld }.compReady
    else s.bell

/-- SEND_KEY (R132). -/
def execSendKey (s : State) : Host.Outcome State Fault Refusal :=
  withFunctionKey s (isAt posSend) fun s => s.takeSend.settle

/-- QUERY with no draft open (R133). -/
def State.takeQuery (s : State) : State :=
  match s.interp.openComp with
  | some o =>
    if o.state == .openAddressing && o.dests.single.isSome && o.pendingDigit.isNone then
      { s with interp := s.interp.onOpen fun c => { c with kind := .query, state := .ready } }.compReady
    else s.bell
  | none => s.bell

/-- QUERY_KEY (R133). -/
def execQueryKey (s : State) : Host.Outcome State Fault Refusal :=
  withFunctionKey s (isAt posQuery) fun s => s.takeQuery.settle

/-- HERE_KEY (R92). -/
def execHereKey (s : State) : Host.Outcome State Fault Refusal :=
  withFunctionKey s (isPlain posHere) fun s =>
    if maxCompositions ≤ s.interp.comps.length then s.bell
    else { s with interp := s.interp.addComp .here .all .ready }.compReady.settle

/-- CANCEL with no draft open, the newest composition being `c` (R134). -/
def State.takeCancel (s : State) (c : Comp) : State :=
  let d := { s with interp := s.interp.dropNewest }
  match c.state with
  | .openAddressing | .openText | .held => d
  | .ready => d.withdrawSource c.serial
  | .sending => { d with sender := d.sender.abandon }
  | .awaiting => { d with sender := { d.sender with watch := .none } }.workAppears

/-- CANCEL_KEY (R86, R134). -/
def execCancelKey (s : State) : Host.Outcome State Fault Refusal :=
  withKey s (isAt posCancel) fun _ s =>
    if s.answer.draft.isSome then s.dropDraft
    else
      match s.interp.comps.getLast? with
      | none => s.bell
      | some c => (s.takeCancel c).settle

/-- BREAK_KEY (R77, R86, R135): the request goes to the Sender, with a draft open as without. -/
def execBreakKey (s : State) : Host.Outcome State Fault Refusal :=
  withKey s (isAt posBreak) fun _ s =>
    if s.sender.state == .breaking then s.bell else s.takeBreak.settle

/-- LOCAL_KEY (R138): the mode toggles; passing to LINE closes an OPEN LOCAL record COMPLETE. -/
def execLocalKey (s : State) : Host.Outcome State Fault Refusal :=
  withFunctionKey s (isPlain posLocal) fun s =>
    match s.interp.mode with
    | .line => { s with interp := { s.interp with mode := .localMode } }
    | .localMode =>
      let s := if s.interp.localOpen then s.closeRecord .complete else s
      { s with interp := { s.interp with mode := .line, localOpen := false } }.settle

/-- ATTEND_KEY (R86, R93): the mode toggles, with a draft open as without. -/
def execAttendKey (s : State) : Host.Outcome State Fault Refusal :=
  withKey s (isAt posAttend) fun _ s =>
    { s with answer := { s.answer with
        attend := if s.answer.attend == Attend.attended then Attend.unattended else Attend.attended } }.settle

/-- A STATUS request accepted in NONE (R197, R202): an idle sweep is abandoned, a test under its grant running on;
a self-check is waited for. -/
def State.acceptStatus (s : State) : State :=
  let s := { s with diag := { s.diag with request := .sweeping } }
  match s.diag.sweep with
  | none => s.beginSweep .status
  | some w =>
    match w.kind with
    | .idle =>
      let s := { s.withdraw .test with diag := { s.diag with
        testing := s.diag.testing.map fun (t : Testing) => { t with counts := false } } }
      s.beginSweep .status
    | .selfCheck | .status => s

/-- STATUS_KEY (R202). -/
def execStatusKey (s : State) : Host.Outcome State Fault Refusal :=
  withFunctionKey s (isAt posStatus) fun s =>
    if s.diag.request == .none then s.acceptStatus.settle else s.bell

/-- FEED_KEY (R155). -/
def execFeedKey (s : State) : Host.Outcome State Fault Refusal :=
  withFunctionKey s (isPlain posFeed) fun s =>
    match s.printer.state with
    | .starting | .ready | .printing =>
      if s.printer.pendingFeeds < 3 then
        { s with printer := { s.printer with pendingFeeds := s.printer.pendingFeeds + 1 } }.settle
      else s.bell
    | .paperOut | .fault => s.bell
    | .off => s

/-- PUNCH with no draft open (R182, R183). It acts by the punch's state, also where FAULT waits for a firing's grant
(log 51). -/
def State.takePunch (s : State) : State :=
  match s.punch.state with
  | .running =>
    match s.punch.row with
    | none => { s with punch := { s.punch with state := .suspended } }
    | some r =>
      if r.stage == .waiting then
        { s.dropWaitingRow with punch := { s.dropWaitingRow.punch with state := .suspended } }
      else { s with punch := { s.punch with suspendPending := !s.punch.suspendPending } }
  | .idle =>
    let s := s.stopManual
    { s with punch := { s.punch with state := .suspended } }
  | .suspended =>
    let s := s.stopManual
    { s with punch := { s.punch with
        state := if s.store.punchCurrent.isSome then .running else .idle } }
  | .tapeOut | .fault => s.bell

/-- PUNCH_KEY (R182, R183). -/
def execPunchKey (s : State) : Host.Outcome State Fault Refusal :=
  withFunctionKey s (isAt posPunch) fun s => s.takePunch.settle

/-- CTRL_FEED (R188): refused, too, while a stopped leader's last row completes (log 48), or fires on after a fault
finding (log 51). -/
def execCtrlFeed (s : State) : Host.Outcome State Fault Refusal :=
  withFunctionKey s (isCtrl posFeed) fun s =>
    match s.punch.state with
    | .idle | .suspended =>
      if s.punch.manualUnderWay then s.bell
      else { s with punch := { s.punch with manual := 20 } }.settle
    | .running | .tapeOut | .fault => s.bell

/-- CTRL_HERE (R85, R86). -/
def execCtrlHere (s : State) : Host.Outcome State Fault Refusal :=
  withFunctionKey s (isCtrl posHere) fun s => s.openDraft

/-- CTRL_LOCAL (R86, R88). -/
def execCtrlLocal (s : State) : Host.Outcome State Fault Refusal :=
  withKey s (isCtrl posLocal) fun _ s => s.lockIdentity

end Sys2Proof.Machine
end

