-- ==== Sys2Proof/Machine/Keys.lean ====
section
/-! DEFINITION. Meanings of the key sensing commands (spec/06_key_sensing.md). PRESS_EVENT, REPEAT_EVENT, STUCK_KEY
and EXCURSION_RESEED are the parts of a scan that the table lists as steps of their own (log 12). -/
namespace Sys2Proof.Machine

/-- `f` applied to the record at a position. -/
def State.onKey (s : State) (p : Nat) (f : KeyRec → KeyRec) : State :=
  { s with keys := { s.keys with recs := updateAt f p s.keys.recs } }

/-- KEY_SCAN (R103): an ordinary scan, after seeding, one period of the power state after the last (R117). A scan whose
instant a change to a shorter period has left behind is taken at once (log 45). A scan reads 64 counts: a list of another
length is no scan and changes nothing, here and in seeding (R102, log 3). -/
def execKeyScan (counts : List Nat) (s : State) : Host.Outcome State Fault Refusal :=
  whenPowered s fun s =>
    if (Instr.keyScan counts).wellFormed && s.keys.seeding == 16 then
      ((s.reach (s.keys.lastScan + scanPeriod s.answer.power)).scan counts).settle
    else s

/-- The F of every position formed by a seeding scan, and the scan reported to the Sender (R119). -/
def State.seedScan (s : State) (counts : List Nat) : State :=
  let s := s.reach (s.keys.lastScan + ms 10)
  { s with keys := { s.keys with
      recs := seedFilter s.keys.recs s.keys.seeding counts
      seeding := s.keys.seeding + 1
      lastScan := s.now } }.stepGenerator 1

/-- SEEDING_SCAN (R119): one of the first 15. -/
def execSeedingScan (counts : List Nat) (s : State) : Host.Outcome State Fault Refusal :=
  whenPowered s fun s =>
    if (Instr.seedingScan counts).wellFormed && s.keys.seeding < 15 then s.seedScan counts else s

/-- SEEDED (R119): the 16th seeding scan sets every baseline and is reported to Diagnostics and Status; STARTING
ends if the self-check has ended too (R198). The scan's step of the generator comes before a draw that the end of
STARTING makes (log 46). -/
def execSeeded (counts : List Nat) (s : State) : Host.Outcome State Fault Refusal :=
  whenPowered s fun s =>
    if (Instr.seeded counts).wellFormed && s.keys.seeding == 15 then
      let s := s.seedScan counts
      ({ s with keys := { s.keys with recs := seedBaselines s.keys.recs } }.checkStarting).settle
    else s

/-- PRESS_EVENT (R108, R113): a key in ENTERING at count 2 enters PRESSED; its press event is made. -/
def execPressEvent (position : Nat) (s : State) : Host.Outcome State Fault Refusal :=
  whenPowered s fun s =>
    let r := keyAt s.keys.recs position
    if isKeyPosition position && r.state == .entering && r.debounce == 2 then
      let s := s.onKey position fun r => r.press s.now
      (s.makePress (pressOf s.keys.recs position false)).settle
    else s

/-- REPEAT_EVENT (R114): the repeat measure reaches 100 ms with its condition holding. -/
def execRepeatEvent (s : State) : Host.Outcome State Fault Refusal :=
  whenPowered s fun s =>
    match s.keys.repeatMeasure with
    | none => s
    | some (p, t) =>
      if repeatKey s.keys.recs == some p then
        let s := s.reach (t + ms 100)
        let s := { s with keys := { s.keys with repeatMeasure := some (p, s.now) } }
        (s.makePress (pressOf s.keys.recs p true)).settle
      else s

/-- STUCK_KEY (R112): a key held 24 s is released by force. -/
def execStuckKey (position : Nat) (s : State) : Host.Outcome State Fault Refusal :=
  whenPowered s fun s =>
    let r := keyAt s.keys.recs position
    match r.stuckSince with
    | none => s
    | some t =>
      if isKeyPosition position && r.down then
        ((s.reach (t + ms 24000)).onKey position KeyRec.forceRelease).latch .stuckKey
      else s

/-- EXCURSION_RESEED (R111): an IDLE key whose excursion count stands at 8 in a free half. -/
def execExcursionReseed (position : Nat) (s : State) : Host.Outcome State Fault Refusal :=
  whenPowered s fun s =>
    let r := keyAt s.keys.recs position
    if isKeyPosition position && r.state == .idle && r.excursion == 8
        && halfFree s.keys.recs (isLeft position) then
      s.onKey position KeyRec.reseed
    else s

end Sys2Proof.Machine
end

