-- ==== Sys2Proof/Machine/Line.lean ====
section
/-! DEFINITION. Meanings of the line's commands (spec/02_line_signalling.md): the events the sampler and the line
condition take, with the stall deadline of the Block Receiver (R53). -/
namespace Sys2Proof.Machine

/-- The condition is BREAK or LINE OPEN: the receiver is held from hunting (R31, R32). -/
def LineIf.spaced (l : LineIf) : Bool := l.condition == .inBreak || l.condition == .lineOpen

/-- The 160th consecutive mark sample of the run under way, 159 intervals after its first (R25, R33, R38; which sample
counts as its first is log 44). -/
def State.markRunEnd (s : State) : Nat := s.line.markSince + s.samples 159

/-- The run of mark ends at a space sample: the next one begins no earlier than the sample after it (R33). -/
def State.endMarkRun (s : State) : State := { s with line := { s.line with markSince := s.now + s.samples 1 } }

/-- MARK_TO_SPACE_EDGE (R25, R30, R31, R33). In HUNTING, outside BREAK and LINE OPEN, a character begins and the
line is BUSY; otherwise only the space measure starts again, and the run of mark ends (log 17). -/
def execMarkToSpaceEdge (s : State) : Host.Outcome State Fault Refusal :=
  whenPowered s fun s =>
    let s := { s with line := { s.line with lastEdge := s.now } }.endMarkRun
    if s.line.sampler == .hunting && !s.line.spaced then
      { s with line := { s.line with
        sampler := .framing, frameStart := s.now, startConfirmed := false, stopEnd := none } }.leaveQuiet .busy
    else s

/-- START (R26): the start element decided from its samples 7 to 9, at its sample 9 (log 18); one received element
is reported to the Sender (R25, R68). The generator's step comes before a draw that an unconfirmed start makes as the line
becomes QUIET (log 46). -/
def execStart (samples : BitVec 3) (s : State) : Host.Outcome State Fault Refusal :=
  whenPowered s fun s =>
    if s.line.sampler == .framing && !s.line.startConfirmed then
      let s := (s.reach (s.line.frameStart + s.samples 9)).stepGenerator 1
      if majority samples then
        ({ s with line := { s.line with sampler := .hunting } }.becomeQuiet).settle
      else ({ s with line := { s.line with startConfirmed := true } }.startReport)
    else s

/-- CHARACTER_RECEIVED (R27, R28): elements 1 to 9 decided, the last at sample 9 of the stop element (log 18);
nine received elements are reported to the Sender (log 15). -/
def execCharacterReceived (samples : BitVec 27) (s : State) : Host.Outcome State Fault Refusal :=
  whenPowered s fun s =>
    if s.line.sampler == .framing && s.line.startConfirmed then
      let stopEnd := s.line.frameStart + s.samples 159
      let s := (s.reach (s.line.frameStart + s.samples 153)).stepGenerator 9
      if isNullFrame samples then
        { s with line := { s.line with sampler := .waitingMark, nullHeld := true, startConfirmed := false } }
      else
        let s := { s with line := { s.line with
          sampler := if framingError samples then .waitingMark else .hunting
          stopEnd := if framingError samples then none else some stopEnd
          startConfirmed := false } }
        (s.deliver (codeFrom samples) (parityError samples || framingError samples)).settle
    else s

/-- FIRST_MARK_SAMPLE (R28, R29, R30): to HUNTING; QUIET after a framing error, or a held null frame delivered as
00h with framing error, the condition then staying as it is (log 16). In BREAK, LINE OPEN and SETTLING it only starts
the mark measure (R33, R38, log 44). -/
def execFirstMarkSample (s : State) : Host.Outcome State Fault Refusal :=
  whenPowered s fun s =>
    if s.line.sampler == .waitingMark && !s.line.spaced then
      let held := s.line.nullHeld
      let s := { s with line := { s.line with sampler := .hunting, nullHeld := false, markSince := s.now } }
      (if held then s.deliver chNul true else s.becomeQuiet).settle
    else if s.line.spaced || s.line.sampler == .settling then
      { s with line := { s.line with markSince := s.now } }
    else s

/-- END_OF_STOP_ELEMENT (R30): the line still mark and the receiver HUNTING, the condition becomes QUIET. -/
def execEndOfStopElement (s : State) : Host.Outcome State Fault Refusal :=
  whenPowered s fun s =>
    match s.line.stopEnd with
    | none => s
    | some t =>
      if s.line.sampler == .hunting && s.line.condition == .busy then
        let s := s.reach t
        ({ s with line := { s.line with stopEnd := none } }.becomeQuiet).settle
      else s

/-- SETTLING_END (R38): the mark measure reaches 10 element times, 160 samples, after a reset. -/
def execSettlingEnd (s : State) : Host.Outcome State Fault Refusal :=
  whenPowered s fun s =>
    if s.line.sampler == .settling && !s.line.spaced then
      let s := s.reach s.markRunEnd
      ({ s with line := { s.line with sampler := .hunting } }.becomeQuiet).settle
    else s

/-- BREAK_BEGUN (R31): 20 element times of space from the last edge. BREAK HEARD is latched unless the
transmitter is HOLDING. A run of mark can begin only after this instant (R33, log 44). -/
def execBreakBegun (s : State) : Host.Outcome State Fault Refusal :=
  whenPowered s fun s =>
    if s.line.spaced then s
    else
      let s := s.reach (s.line.lastEdge + s.elements 20)
      let s := { s with line := { s.line with
        sampler := if s.line.sampler == SamplerState.settling then .settling else .waitingMark
        nullHeld := false, startConfirmed := false, stopEnd := none, breakEdge := s.line.lastEdge
        markSince := s.now } }
      let s := s.leaveQuiet .inBreak
      let s := match s.line.tx with
        | .holding _ => s
        | .idle | .shifting _ _ => s.latch .breakHeard
      s.breakBegunReport.settle

/-- The Sender at LINE OPEN (R78): in SENDING it orders STOP and its block ends. -/
def State.senderLineOpen (s : State) : State :=
  if s.sender.state == .sending then
    ({ s with line := { s.line with tx := .idle } }.cutBlock).chooseNext
  else s

/-- LINE_OPEN (R32, R54, R78): the measure from the break's edge reaches 1.5 s. -/
def execLineOpen (s : State) : Host.Outcome State Fault Refusal :=
  whenPowered s fun s =>
    if s.line.condition == .inBreak then
      let s := s.reach (s.line.breakEdge + ms 1500)
      let s := ({ s with line := { s.line with condition := .lineOpen } }.latch .lineLost)
      s.lineOpenReport.senderLineOpen.settle
    else s

/-- RESTORATION (R33): the 160th consecutive mark sample in BREAK or LINE OPEN. BREAK ENDED is reported from
BREAK, RESTORED from LINE OPEN (R54, R55). -/
def execRestoration (s : State) : Host.Outcome State Fault Refusal :=
  whenPowered s fun s =>
    if s.line.spaced then
      let fromBreak := s.line.condition == .inBreak
      let s := s.reach s.markRunEnd
      let s := { s with line := { s.line with sampler := .hunting, nullHeld := false } }
      let s := if fromBreak then s.breakEndedReport else s
      s.becomeQuiet.settle
    else s

/-- STALL (R53): the deadline 20 Tc after the last START. -/
def execStall (s : State) : Host.Outcome State Fault Refusal :=
  whenPowered s fun s =>
    match s.recv.stall with
    | none => s
    | some t => (s.reach t).stallReport.settle

end Sys2Proof.Machine
end

