-- ==== Sys2Proof/Machine/Printing.lean ====
section
/-! DEFINITION. Meanings of the Print Controller's commands (spec/08_page_printing.md). -/
namespace Sys2Proof.Machine

/-- A character has been printed: the claim position or the phase index rises, and an end line that is complete
owes its return and feed (R147, R152). -/
def State.characterPrinted (s : State) : State :=
  match s.printer.phase with
  | .text => s.advancePrint
  | .heading => { s with printer := { s.printer with index := s.printer.index + 1 } }
  | .endLines =>
    let s := { s with printer := { s.printer with index := s.printer.index + 1 } }
    match s.store.printCurrent with
    | some r => if r.atLineEnd s.printer.index then s.owePair else s
    | none => s
  | .none | .align | .closing => s

/-- STEP_END (R152): the 10 ms step after a firing. -/
def execStepEnd (s : State) : Host.Outcome State Fault Refusal :=
  whenPowered s fun s =>
    match s.printer.motion with
    | .step since =>
      let s := s.reach (since + ms 10)
      let s := { s with printer := { s.printer with
        motion := .none, hand := none, column := s.printer.column.map (· + 1) } }
      s.characterPrinted.applyStop.settle
    | .none | .carriage _ _ _ _ _ | .feed _ _ => s

/-- CARRIAGE_RETURN_STEP (R154): the stall-sense read before a step; home ends travel, otherwise a permitted step
is taken. -/
def execCarriageReturnStep (home : Bool) (s : State) : Host.Outcome State Fault Refusal :=
  whenPowered s fun s =>
    match s.printer.motion with
    | .carriage steps permitted false since cause =>
      if steps < permitted then
        let s := s.reach (since + ms (10 * steps))
        let motion : Motion :=
          if home then .carriage steps permitted true s.now cause
          else .carriage (steps + 1) permitted false since cause
        { s with printer := { s.printer with motion := motion } }
      else s
    | .carriage _ _ true _ _ | .none | .step _ | .feed _ _ => s

/-- CARRIAGE_RETURN_END (R148, R153, R154): 40 ms of settle; the column is 0 and no return is owed; a CR cell is
counted, a pair goes on to its feed. -/
def execCarriageReturnEnd (s : State) : Host.Outcome State Fault Refusal :=
  whenPowered s fun s =>
    match s.printer.motion with
    | .carriage _ _ true since cause =>
      let s := s.reach (since + ms 40)
      let s := { s with printer := { s.printer with
        motion := .none, column := some 0, returnOwed := false
        pair := if cause == MotionCause.pair then Pair.feedOnly else s.printer.pair } }
      let s := if cause == .cell then s.advancePrint else s
      s.applyStop.settle
    | .carriage _ _ false _ _ | .none | .step _ | .feed _ _ => s

/-- JAM (R154, R159): home not seen when the last permitted step ends. -/
def execJam (s : State) : Host.Outcome State Fault Refusal :=
  whenPowered s fun s =>
    match s.printer.motion with
    | .carriage steps permitted false since _ =>
      if permitted ≤ steps then
        let s := (s.reach (since + ms (10 * steps))).latch .jam
        ({ s with printer := { s.printer with motion := .none } }.enterPrinterFault).settle
      else s
    | .carriage _ _ true _ _ | .none | .step _ | .feed _ _ => s

/-- LINE_FEED_END (R148, R153, R155): 70 ms; the selector is back on CARRIAGE; an LF cell is counted, a feed asked
for by key is no longer pending. -/
def execLineFeedEnd (s : State) : Host.Outcome State Fault Refusal :=
  whenPowered s fun s =>
    match s.printer.motion with
    | .feed since cause =>
      let s := s.reach (since + ms 70)
      let s := { s with printer := { s.printer with
        motion := .none, selector := .carriage
        pendingFeeds := if cause == MotionCause.feedKey then s.printer.pendingFeeds - 1 else s.printer.pendingFeeds } }
      let s := if cause == .cell then s.advancePrint else s
      s.applyStop.settle
    | .none | .step _ | .carriage _ _ _ _ _ => s

/-- SPIN_UP_END (R143): 400 ms. -/
def execSpinUpEnd (s : State) : Host.Outcome State Fault Refusal :=
  whenPowered s fun s =>
    if s.printer.state == .starting then
      let s := s.reach (s.printer.spinUp + ms 400)
      { s with
        printer := { s.printer with state := .ready, spunUp := true }
        diag := { s.diag with idleSince := some s.now } }.settle
    else s

/-- Paper shows absent outside PAPER OUT and FAULT (R156): a firing, step or motion in hand while PRINTING completes
first, a step that is held back too (log 49). A FAULT that waits for what is in hand goes first (log 41). -/
def State.losePaper (s : State) : State :=
  if s.printer.stop == .fault then s
  else if s.printer.state == .printing && s.printer.busy then
    { s with printer := { s.printer with stop := .paperOut } }
  else s.dropHand.enterPaperOut.settle

/-- PAPER_ABSENT (R156, R157): a change of the input, not read in FAULT. Absence takes the printer to PAPER OUT, and
in PAPER OUT stops the paper measure; the return of paper lets the measure run (log 22). -/
def execPaperAbsent (s : State) (absent : Bool := true) : Host.Outcome State Fault Refusal :=
  whenPowered s fun s =>
    match s.printer.state with
    | .fault => s
    | .paperOut => { s with printer := { s.printer with
        paperAbsent := absent
        paperMeasure := if absent then none else some (s.printer.paperMeasure.getD s.now) } }
    | .printing | .ready | .starting | .off =>
      let s := { s with printer := { s.printer with paperAbsent := absent } }
      if absent then s.losePaper else s

/-- The state a printer leaves PAPER OUT for (R157). -/
def State.afterPaperOut (s : State) : PrinterState :=
  if s.answer.power == .active then
    if s.printer.spunUp then .ready else .starting
  else .off

/-- PAPER_RESTORED (R157): 2 s of presence. -/
def execPaperRestored (s : State) : Host.Outcome State Fault Refusal :=
  whenPowered s fun s =>
    match s.printer.state, s.printer.paperMeasure with
    | .paperOut, some t =>
      let s := s.reach (t + ms 2000)
      { s with
        printer := { s.printer with
          state := s.afterPaperOut, paperMeasure := none,
          spinUp := if s.afterPaperOut == PrinterState.starting then s.now else s.printer.spinUp }
        diag := { s.diag with
          idleSince := if s.afterPaperOut == PrinterState.ready then some s.now else none } }.settle
    | _, _ => s

end Sys2Proof.Machine
end

