-- ==== Sys2Proof/Machine/Punching.lean ====
section
/-! DEFINITION. Meanings of the Punch Controller's commands (spec/10_tape_punching.md). -/
namespace Sys2Proof.Machine

/-- TAKING_A_CLAIM (R178): an IDLE punch with a current claim, in ACTIVE, no manual leader under way (logs 48, 51), the
drivers released. -/
def execTakingAClaim (s : State) : Host.Outcome State Fault Refusal :=
  whenPowered s fun s =>
    if s.punch.state == .idle && s.store.punchCurrent.isSome && s.answer.power == .active
        && !s.punch.manualUnderWay && !s.driversHeld then
      { s with punch := { s.punch with state := .running } }.settle
    else s

/-- ADVANCING_END (R180): 20 ms; the row settles. -/
def execAdvancingEnd (s : State) : Host.Outcome State Fault Refusal :=
  whenPowered s fun s =>
    match s.punch.row with
    | none => s
    | some r =>
      if r.stage == .advancing then
        let s := s.reach (r.since + ms 20)
        { s with punch := { s.punch with row := some { r with stage := .settling, since := s.now } } }.settle
      else s

/-- A row counted at the end of its cycle (R178, R180, R188). -/
def State.countRow (s : State) (c : RowContent) : State :=
  match c with
  | .leader => { s with punch := { s.punch with leader := s.punch.leader + 1 } }
  | .manual => { s with punch := { s.punch with manual := s.punch.manual - 1 } }
  | .cell _ => s.advancePunch

/-- What waited for the row takes effect: TAPE OUT first, else a pending suspend (R182, R186). -/
def State.afterRow (s : State) : State :=
  if s.punch.tapeOutPending then s.enterTapeOut
  else if s.punch.suspendPending then
    { s with punch := { s.punch with state := .suspended, suspendPending := false } }
  else s

/-- ROW_SETTLING_END (R180, R181): 22 ms; the row is counted, a claim at its end finished, what waited for the row takes
effect, and the next row, if any, is taken in hand. -/
def execRowSettlingEnd (s : State) : Host.Outcome State Fault Refusal :=
  whenPowered s fun s =>
    match s.punch.row with
    | none => s
    | some r =>
      if r.stage == .settling then
        let s := s.reach (r.since + ms 22)
        ({ s with punch := { s.punch with row := none } }.countRow r.content).finishEnded.afterRow.settle
      else s

/-- TAPE_OUT (R186, R187): a change of the input, not read in FAULT. Its onset takes the punch to TAPE OUT, and in TAPE
OUT stops the tape measure; its end lets the measure run (log 22). Where a FAULT waits for the row in its cycle, or comes
while the onset waits for it, FAULT alone follows (log 47). -/
def execTapeOut (s : State) (active : Bool := true) : Host.Outcome State Fault Refusal :=
  whenPowered s fun s =>
    match s.punch.state with
    | .fault => s
    | .tapeOut => { s with punch := { s.punch with
        tapeOutActive := active
        tapeMeasure := if active then none else some (s.punch.tapeMeasure.getD s.now) } }
    | .idle | .running | .suspended =>
      let s := { s with punch := { s.punch with tapeOutActive := active } }
      if !active then s
      else if s.punch.rowInCycle then { s with punch := { s.punch with tapeOutPending := true } }
      else s.dropWaitingRow.enterTapeOut.settle

/-- TAPE_RESTORED (R187): 2 s of inactivity. -/
def execTapeRestored (s : State) : Host.Outcome State Fault Refusal :=
  whenPowered s fun s =>
    match s.punch.state, s.punch.tapeMeasure with
    | .tapeOut, some t =>
      let s := s.reach (t + ms 2000)
      { s with punch := { s.punch with state := .suspended, tapeMeasure := none } }.settle
    | _, _ => s

/-- TAPE_LOW (R185): a change of the input is reported. -/
def execTapeLow (active : Bool) (s : State) : Host.Outcome State Fault Refusal :=
  whenPowered s fun s => { s with diag := { s.diag with tapeLow := active } }

end Sys2Proof.Machine
end

