-- ==== Sys2Proof/Machine/ResetOps.lean ====
section
/-! DEFINITION. The two resets and loss of power (R20, R21, R38, R60, R82, R89, R100, R120, R141, R160, R166, R174,
R192, R207). A reset is one instant: its pins are read at its end, the clock starts again from there, and the
latches it makes from what it finds come after its own changes to the latched event set (R200). -/
namespace Sys2Proof.Machine

/-- The strap values sampled (R199). -/
def Pins.straps (p : Pins) : Straps :=
  { code := p.code, speed := p.speed, monitor := p.monitor, punchsel := p.punchsel, setup := p.setup }

/-- What is the same after both resets: the straps sampled, the generator seeded, the inputs read, the identity
memory kept with its cycle cut where it stands (R89), and every other item of the blocks at its reset value. The
store, compositions, latched events, error total and H are power-on values. -/
def resetCommon (pins : Pins) (s : State) : State :=
  { State.atReset with
    pending := s.pending
    bells := s.bells
    straps := Pins.straps pins
    sender := { Sender.reset with generator := generatorSeed pins.code }
    answer := { Answer.reset with memory := s.answer.memory }
    arb := { Arbiter.reset with supplyLow := pins.supplyLow }
    printer := { Printer.reset with paperAbsent := !pins.paper }
    punch := { Punch.reset with tapeOutActive := pins.tapeOut }
    diag := { Diag.reset with tapeLow := pins.tapeLow } }

/-- The latches a reset makes from what it finds, and the states they go with: IDENTITY LOST (R89), SUPPLY LOW
(R166), TAPE OUT (R192), PAPER OUT (R160). -/
def resetFindings (pins : Pins) (s : State) : State :=
  let s := if s.answer.memory.openCycle then s.latch .identityLost else s
  let s := if pins.supplyLow then s.latch .supplyLow else s
  let s := if pins.tapeOut then s.enterTapeOut else s
  if pins.paper then s else s.enterPaperOut

/-- The self-check begins (R198). -/
def State.beginSelfCheck (s : State) : State := (s.beginSweep .selfCheck).testGo

/-- Power-on reset. -/
def State.powerOn (s : State) (pins : Pins) : State :=
  (resetFindings pins (resetCommon pins s)).beginSelfCheck

/-- A composition at the reset pin (R141). -/
def Comp.restart (c : Comp) : Comp :=
  match c.state with
  | .openAddressing => { c with pendingDigit := none }
  | .sending | .awaiting => { c with state := .held }
  | .openText | .ready | .held => c

/-- The reset pin: the store, the compositions, the latched events with RESTART and the error total are kept
(R20, R141, R200, R201), and H is 40000 (R174). -/
def State.restart (s : State) (pins : Pins) : State :=
  let r := resetCommon pins s
  let r := { r with
    store := s.store.restart
    interp := { Interp.reset with comps := s.interp.comps.map Comp.restart, nextSerial := s.interp.nextSerial }
    pacer := { Pacer.reset with h := 40000 }
    diag := { r.diag with
      latched := s.diag.latched, again := s.diag.again, errorTotal := s.diag.errorTotal } }
  (resetFindings pins (r.latch .restart)).beginSelfCheck

/-- Loss of power (R21, R89): the identity memory is kept, a cycle in it cut with its open-cycle mark left
present; everything volatile is lost and stands at its power-on value until power returns (log 11). -/
def State.powerOff (s : State) : State :=
  { State.atReset with
    powered := false
    pending := s.pending
    bells := s.bells
    straps := s.straps
    answer := { Answer.reset with memory := s.answer.memory } }

end Sys2Proof.Machine
end

