-- ==== Sys2Proof/Machine/Resets.lean ====
section
/-! DEFINITION. Meanings of POWER_ON_RESET, RESET_PIN and LOSS_OF_POWER. -/
namespace Sys2Proof.Machine

/-- POWER_ON_RESET (R21 and the Reset section of every chapter). -/
def execPowerOnReset (pins : Pins) (s : State) : Host.Outcome State Fault Refusal := .next (s.powerOn pins)

/-- RESET_PIN (R20 and the Reset section of every chapter). -/
def execResetPin (pins : Pins) (s : State) : Host.Outcome State Fault Refusal :=
  whenPowered s fun s => s.restart pins

/-- LOSS_OF_POWER (R89). -/
def execLossOfPower (s : State) : Host.Outcome State Fault Refusal := whenPowered s State.powerOff

end Sys2Proof.Machine
end

