-- ==== Sys2Proof/Machine/Sending.lean ====
section
/-! DEFINITION. Meanings of the Sender's and the transmitter's commands (spec/04_contention_sending_and_receipts.md,
R34 to R37), and of the generated and held requests at the store (R11, R140). -/
namespace Sys2Proof.Machine

/-- DEFERRAL_COMPLETE (R66): the line QUIET and the quiet time at the required span. START is ordered, and taken at the
next sample instant (R35, log 37), of which the operand is the sample. -/
def execDeferralComplete (lastMark : Bool) (s : State) : Host.Outcome State Fault Refusal :=
  whenPowered s fun s =>
    match s.sender.span with
    | none => s
    | some n =>
      if s.sender.state == .deferring && s.line.condition == .quiet then
        ((s.reach (s.line.quietSince + s.charTimes n)).spanComplete lastMark).settle
      else s

/-- CHARACTER_SENT (R35, R73): the end of the stop element; the next character is handed with no gap, or the block
ends with OVER. -/
def execCharacterSent (s : State) : Host.Outcome State Fault Refusal :=
  whenPowered s fun s =>
    match s.line.tx with
    | .idle | .holding _ => s
    | .shifting _ since =>
      let t := since + s.charTimes 1
      let s := s.reach t
      match s.sender.block[s.sender.position]? with
      | some c =>
        { s with
          line := { s.line with tx := .shifting c t }
          sender := { s.sender with position := s.sender.position + 1 } }
      | none => ({ s with line := { s.line with tx := .idle } }.finishBlock t).settle

/-- MISMATCH (R36, R74, R75, R76): a sent mark read back as space, at sample 9 of the element (log 18). Within the
header it is a yield unless the block is being abandoned; otherwise the block is broken. -/
def execMismatch (element : Nat) (s : State) : Host.Outcome State Fault Refusal :=
  whenPowered s fun s =>
    match s.line.tx with
    | .idle | .holding _ => s
    | .shifting c since =>
      if 1 ≤ element && element ≤ 9 && sentMark c element then
        let s := s.reach (since + s.samples (16 * element + 9))
        let s := { s with line := { s.line with tx := .idle } }
        if !s.sender.abandoning && s.sender.position ≤ s.sender.headerLength then s.yieldBlock.settle
        else s.cutBlock.chooseNext.settle
      else s

/-- HOLD_ENDED (R37, R77). -/
def execHoldEnded (s : State) : Host.Outcome State Fault Refusal :=
  whenPowered s fun s =>
    match s.line.tx with
    | .idle | .shifting _ _ => s
    | .holding t =>
      let s := s.reach t
      ({ s with line := { s.line with tx := .idle } }.chooseNext).settle

/-- RECEIPT_WATCH_DEADLINE (R80). -/
def execReceiptWatchDeadline (s : State) : Host.Outcome State Fault Refusal :=
  whenPowered s fun s =>
    match s.sender.watch with
    | .none => s
    | .waiting dest t _ => ((s.reach t).settleWatch dest none).settle

/-- A STATUS request taken by the store (R203, R204): the snapshot and text, the record, and what the answer
clears. -/
def State.takeStatus (s : State) : State :=
  let captured := s.diag.latched
  let total := s.diag.errorTotal
  let (s, written) := s.markSnapshot.writeGenerated .status s.statusText
  if written then { s with diag := s.diag.clearReport captured total }
  else { s with diag := s.diag.dropReport }.bell

/-- A CONFIRM request taken by the store (R11): written, or refused with the bell and STORE FULL. -/
def State.takeConfirm (s : State) (dest : Station) (letter : Option Letter) : State :=
  let (s, written) := s.writeGenerated .confirm (confirmText dest letter)
  if written then s else (s.latch .storeFull).bell

/-- GENERATED_RECORD_TAKEN (R11): the oldest pending request, once no block record is OPEN; an OPEN LOCAL record is
first closed SPLIT. -/
def execGeneratedRecordTaken (s : State) : Host.Outcome State Fault Refusal :=
  whenPowered s fun s =>
    if s.store.blockOpen then s
    else
      match s.store.requests with
      | [] => s
      | r :: rest =>
        let s := { s with store := { s.store with requests := rest } }.splitLocal
        (match r with
          | .confirm dest letter => s.takeConfirm dest letter
          | .status => s.takeStatus).settle

/-- HELD_EVENT_RETRY (R140): the stalled Interpreter makes its held event's open request again. -/
def execHeldEventRetry (s : State) : Host.Outcome State Fault Refusal :=
  whenPowered s fun s =>
    match s.interp.held with
    | none => s
    | some (p, cs) =>
      if s.store.blockOpen then s
      else ({ s with interp := { s.interp with held := none } }.localRequest p cs).settle

end Sys2Proof.Machine
end

