-- ==== Sys2Proof/Machine/Supply.lean ====
section
/-! DEFINITION. Meanings of the Head Pacer's, the Arbiter's and the tests' commands
(spec/09_magnet_supply_and_head_pacing.md, R193 to R198). -/
namespace Sys2Proof.Machine

/-! ### Pacing -/

/-- One cooling step (R167). -/
def Pacer.cool (p : Pacer) : Pacer := { p with h := p.h - p.h / 128, steps := p.steps + 1 }

/-- The pacing state decided from H and the state before (R169). -/
def decidePacing (before : Pacing) (h : Nat) : Pacing :=
  if 46000 ≤ h then .hot
  else
    match before with
    | .hot => if h < 20000 then .cool else .hot
    | .cool => if 40000 ≤ h then .warm else .cool
    | .warm => if h < 32000 then .cool else .warm

/-- Whether an offer is answered FIRE (R170). -/
def firesIn (state : Pacing) (lastFired : Bool) : Bool :=
  match state with
  | .cool => true
  | .warm => !lastFired
  | .hot => false

/-- H raised by a firing of `dots` dots (R171). -/
def Pacer.heat (p : Pacer) (dots : Nat) : Pacer := { p with h := satAdd 65535 p.h (64 * dots) }

/-- The instant of the next cooling step (R168). -/
def Pacer.nextStep (p : Pacer) : Nat := ms 20 * (p.steps + 1)

/-- The next cooling step is a slot boundary (R168). -/
def Pacer.atBoundary (p : Pacer) : Bool := (p.steps + 1) % 3 == 0

/-- COOLING_STEP (R167): a step between boundaries. -/
def execCoolingStep (s : State) : Host.Outcome State Fault Refusal :=
  whenPowered s fun s =>
    if s.pacer.atBoundary then s
    else
      let s := s.reach s.pacer.nextStep
      { s with pacer := s.pacer.cool }

/-- Steps 1 and 2 of a boundary (R168, R169), with the latch on entry (R172). -/
def State.coolAndDecide (s : State) : State :=
  let p := s.pacer.cool
  let next := decidePacing s.pacer.state p.h
  let entered := s.pacer.state != next
  let s := { s with pacer := { p with state := next } }
  match next with
  | .warm => if entered then s.latch .warm else s
  | .hot => if entered then s.latch .hot else s
  | .cool => s

/-- A character answered FIRE (R152, R171): counted in H, in hand, and asking for the supply or, with no dot to
strike, due to step. -/
def State.fire (s : State) (c : Code) : State :=
  let dots := firedDots c s.printer.excluded
  let hand : Hand :=
    { char := c, dots := dots, needles := strikingNeedles c s.printer.excluded,
      stage := if dots = 0 then .stepDue else .waiting }
  let s := { s with
    pacer := { s.pacer.heat dots with lastFired := true }
    printer := { s.printer with hand := some hand } }
  if dots = 0 then s.settle else s.request .print

/-- SLOT_BOUNDARY (R168 to R171): every third cooling step. -/
def execSlotBoundary (s : State) : Host.Outcome State Fault Refusal :=
  whenPowered s fun s =>
    if s.pacer.atBoundary then
      let s := (s.reach s.pacer.nextStep).coolAndDecide
      match s.offer with
      | some c =>
        if firesIn s.pacer.state s.pacer.lastFired then s.fire c
        else { s with pacer := { s.pacer with lastFired := false } }
      | none => { s with pacer := { s.pacer with lastFired := false } }
    else s

/-! ### Grants and tests -/

/-- The end of a PRINT grant: the character's step is due, unless the printer is in FAULT (R152, R159). -/
def State.endPrintGrant (s : State) : State :=
  let hand := if s.printer.state == PrinterState.fault then none
    else s.printer.hand.map fun (h : Hand) => { h with stage := .stepDue }
  { s with printer := { s.printer with hand := hand } }.handBack

/-- The end of a PUNCH grant: the row's advance is due, or the punch enters FAULT (R180, R189). -/
def State.endPunchGrant (s : State) : State :=
  (if s.punch.faultPending then s.enterPunchFault
    else { s with punch := { s.punch with
      row := s.punch.row.map fun (r : Row) => { r with stage := .advanceDue, since := s.now } } }).handBack

/-- The end of a TEST grant (R195, R197, log 19): the finding, the hand-back, what had waited for it, and the
sweep's next channel. -/
def State.endTestGrant (s : State) (f : TestFinding) : State :=
  match s.diag.testing with
  | none => s.handBack
  | some t =>
    let s := s.offStateFinding (channelAt t.index) f
    let s := { s with diag := { s.diag with testing := none } }.handBack.printerRun.punchRun
    (if t.counts then s.advanceSweep (some f) else s).checkStarting

/-- GRANT_END (R162, R163): the holder's time is over. -/
def execGrantEnd (finding : TestFinding) (s : State) : Host.Outcome State Fault Refusal :=
  whenPowered s fun s =>
    match s.arb.holder with
    | none => s
    | some p =>
      let s := s.reach s.arb.until'
      (match p with
        | .print => s.endPrintGrant
        | .punch => s.endPunchGrant
        | .test => s.endTestGrant finding).settle

/-- TEST_REQUEST_TIMEOUT (R195, R198): the request has waited 200 ms; it is withdrawn and the channel is untested,
which latches SELF-CHECK in the self-check. -/
def execTestRequestTimeout (s : State) : Host.Outcome State Fault Refusal :=
  whenPowered s fun s =>
    match s.diag.sweep with
    | none => s
    | some w =>
      match w.stage with
      | .due | .granted => s
      | .waiting t =>
        let s := (s.reach (t + ms 200)).withdraw .test
        let s := if w.kind == .selfCheck then s.latch .selfCheck else s
        (s.advanceSweep none).printerRun.punchRun.checkStarting.settle

/-- IDLE_SWEEP (R197): the printer idle measure reaches 60 s; while another sweep runs none is begun. -/
def execIdleSweep (s : State) : Host.Outcome State Fault Refusal :=
  whenPowered s fun s =>
    match s.diag.idleSince with
    | none => s
    | some t =>
      if s.printer.state == .ready then
        let s := s.reach (t + ms 60000)
        let s := { s with diag := { s.diag with idleSince := some s.now } }
        if s.diag.sweep.isSome then s else (s.beginSweep .idle).settle
      else s

/-- OVERCURRENT_FINDING (R194): a channel that is driven draws too much; a channel not driven is not checked. -/
def execOvercurrentFinding (channel : Channel) (s : State) : Host.Outcome State Fault Refusal :=
  whenPowered s fun s => if s.drives channel then (s.failing channel .overcurrent).settle else s

/-- SUPPLY_LOW_ONSET (R164): the input becomes active; with supply-low active already nothing becomes so (log 3). -/
def execSupplyLowOnset (s : State) : Host.Outcome State Fault Refusal :=
  whenPowered s fun s =>
    if s.arb.supplyLow then s else { s with arb := { s.arb with supplyLow := true } }.latch .supplyLow

/-- SUPPLY_LOW_END (R164): the input becomes inactive. -/
def execSupplyLowEnd (s : State) : Host.Outcome State Fault Refusal :=
  whenPowered s fun s =>
    if s.arb.supplyLow then { s with arb := { s.arb with supplyLow := false } }.grantIfFree else s

end Sys2Proof.Machine
end

