-- ==== Sys2Proof/Machine/Dispatch.lean ====
section
/-! DEFINITION. The dispatch: one arm for each command of spec/opcode_table.json. -/
namespace Sys2Proof.Machine

/-- A command's effect on everything but the queue of commands. -/
def exec (i : Instr) (s : State) : Host.Outcome State Fault Refusal :=
  match i with
  | .powerOnReset pins => Sys2Proof.Machine.execPowerOnReset pins s
  | .resetPin pins => Sys2Proof.Machine.execResetPin pins s
  | .settlingEnd => Sys2Proof.Machine.execSettlingEnd s
  | .start samples => Sys2Proof.Machine.execStart samples s
  | .characterReceived samples => Sys2Proof.Machine.execCharacterReceived samples s
  | .generatedRecordTaken => Sys2Proof.Machine.execGeneratedRecordTaken s
  | .heldEventRetry => Sys2Proof.Machine.execHeldEventRetry s
  | .firstMarkSample => Sys2Proof.Machine.execFirstMarkSample s
  | .endOfStopElement => Sys2Proof.Machine.execEndOfStopElement s
  | .breakBegun => Sys2Proof.Machine.execBreakBegun s
  | .lineOpen => Sys2Proof.Machine.execLineOpen s
  | .restoration => Sys2Proof.Machine.execRestoration s
  | .stall => Sys2Proof.Machine.execStall s
  | .deferralComplete lastMark => Sys2Proof.Machine.execDeferralComplete lastMark s
  | .characterSent => Sys2Proof.Machine.execCharacterSent s
  | .mismatch element => Sys2Proof.Machine.execMismatch element s
  | .holdEnded => Sys2Proof.Machine.execHoldEnded s
  | .receiptWatchDeadline => Sys2Proof.Machine.execReceiptWatchDeadline s
  | .keyScan counts => Sys2Proof.Machine.execKeyScan counts s
  | .seedingScan counts => Sys2Proof.Machine.execSeedingScan counts s
  | .seeded counts => Sys2Proof.Machine.execSeeded counts s
  | .pressEvent position => Sys2Proof.Machine.execPressEvent position s
  | .repeatEvent => Sys2Proof.Machine.execRepeatEvent s
  | .stuckKey position => Sys2Proof.Machine.execStuckKey position s
  | .excursionReseed position => Sys2Proof.Machine.execExcursionReseed position s
  | .attendTimerExpiry => Sys2Proof.Machine.execAttendTimerExpiry s
  | .restMeasureExpiry => Sys2Proof.Machine.execRestMeasureExpiry s
  | .dormancyMeasureExpiry => Sys2Proof.Machine.execDormancyMeasureExpiry s
  | .characterKey => Sys2Proof.Machine.execCharacterKey s
  | .modifierKey => Sys2Proof.Machine.execModifierKey s
  | .callKey => Sys2Proof.Machine.execCallKey s
  | .returnKey => Sys2Proof.Machine.execReturnKey s
  | .ruboutKey => Sys2Proof.Machine.execRuboutKey s
  | .sendKey => Sys2Proof.Machine.execSendKey s
  | .queryKey => Sys2Proof.Machine.execQueryKey s
  | .hereKey => Sys2Proof.Machine.execHereKey s
  | .cancelKey => Sys2Proof.Machine.execCancelKey s
  | .breakKey => Sys2Proof.Machine.execBreakKey s
  | .localKey => Sys2Proof.Machine.execLocalKey s
  | .attendKey => Sys2Proof.Machine.execAttendKey s
  | .statusKey => Sys2Proof.Machine.execStatusKey s
  | .feedKey => Sys2Proof.Machine.execFeedKey s
  | .punchKey => Sys2Proof.Machine.execPunchKey s
  | .ctrlFeed => Sys2Proof.Machine.execCtrlFeed s
  | .ctrlHere => Sys2Proof.Machine.execCtrlHere s
  | .ctrlLocal => Sys2Proof.Machine.execCtrlLocal s
  | .writeCycleStep lastMark => Sys2Proof.Machine.execWriteCycleStep lastMark s
  | .lockCycleEnd lastMark => Sys2Proof.Machine.execLockCycleEnd lastMark s
  | .coolingStep => Sys2Proof.Machine.execCoolingStep s
  | .slotBoundary => Sys2Proof.Machine.execSlotBoundary s
  | .grantEnd finding => Sys2Proof.Machine.execGrantEnd finding s
  | .testRequestTimeout => Sys2Proof.Machine.execTestRequestTimeout s
  | .idleSweep => Sys2Proof.Machine.execIdleSweep s
  | .overcurrentFinding channel => Sys2Proof.Machine.execOvercurrentFinding channel s
  | .stepEnd => Sys2Proof.Machine.execStepEnd s
  | .carriageReturnStep home => Sys2Proof.Machine.execCarriageReturnStep home s
  | .carriageReturnEnd => Sys2Proof.Machine.execCarriageReturnEnd s
  | .jam => Sys2Proof.Machine.execJam s
  | .lineFeedEnd => Sys2Proof.Machine.execLineFeedEnd s
  | .spinUpEnd => Sys2Proof.Machine.execSpinUpEnd s
  | .paperAbsent absent => Sys2Proof.Machine.execPaperAbsent s absent
  | .paperRestored => Sys2Proof.Machine.execPaperRestored s
  | .supplyLowOnset => Sys2Proof.Machine.execSupplyLowOnset s
  | .supplyLowEnd => Sys2Proof.Machine.execSupplyLowEnd s
  | .takingAClaim => Sys2Proof.Machine.execTakingAClaim s
  | .advancingEnd => Sys2Proof.Machine.execAdvancingEnd s
  | .tapeOut active => Sys2Proof.Machine.execTapeOut s active
  | .tapeRestored => Sys2Proof.Machine.execTapeRestored s
  | .tapeLow active => Sys2Proof.Machine.execTapeLow active s
  | .markToSpaceEdge => Sys2Proof.Machine.execMarkToSpaceEdge s
  | .rowSettlingEnd => Sys2Proof.Machine.execRowSettlingEnd s
  | .lossOfPower => Sys2Proof.Machine.execLossOfPower s

end Sys2Proof.Machine
end

