-- ==== Sys2Proof/Machine/Step.lean ====
section
/-! DEFINITION. One step of the block: the command at the front of the queue, or one tick of the clock when no
command waits (log 1); and the queueing of a table word (log 28). -/
namespace Sys2Proof.Machine

/-- The block with no command waiting: one tick of 1/264000 s passes. Every measure and span is held as the
instant it started, so nothing else changes. -/
def State.tick (s : State) : State := { s with now := s.now + 1 }

/-- The command at the front of the queue, carried out with the queue's rest; a tick when none waits. -/
def step (s : State) : Host.Outcome State Fault Refusal :=
  match s.pending with
  | [] => .next s.tick
  | c :: rest => exec c { s with pending := rest }

/-- `s` with the command that the word spells put at the front of its queue, unchanged where it spells none. -/
def State.withFetchWord (s : State) (nbits w : Nat) : State :=
  match decodeTableWord nbits w with
  | none => s
  | some c => { s with pending := c :: s.pending }

end Sys2Proof.Machine
end

