-- ==== Sys2Proof/Safety.lean ====
section
/-! DEFINITION. The terms the statements use: what the follow-ups of a command may touch, what only a reset does,
and what counts as a sound state of each block. -/
namespace Sys2Proof.Machine

/-! ### Follow-ups -/

/-- A record without its two claims: what its writer alone sets (R3). -/
def Rec.body (r : Rec) : Rec := { r with print := { pos := 0, done := false }, punch := none }

/-- The printer passes a cell over without a slot or a motion: BELL and the other control codes but CR and LF (R148). -/
def passedOver (c : Code) : Bool := !isPrinting c && c != chCr && c != chLf

/-- `r'` is `r` but for what the follow-ups of a command do to its claims: the print claim of a record not done rises
over cells the printer passes over, or is done with its position at the length (R12, R145, R148); a punch claim neither
done nor skipped may be done (R181). -/
structure Rec.Followed (st : Store) (r r' : Rec) : Prop where
  body : r'.body = r.body
  printKept : r.print.done = true → r'.print = r.print
  printRaised : r'.print.done = false → r.print.pos ≤ r'.print.pos ∧
    ∀ i, r.print.pos ≤ i → i < r'.print.pos → passedOver (st.cell (r.start + i)) = true
  printDone : r.print.done = false → r'.print.done = true → r'.print.pos = r.length
  punch : r'.punch = r.punch ∨ ∃ p, r.punch = some p ∧ p.done = false ∧ p.skipped = false ∧
    r'.punch = some { p with pos := r.length, done := true }

/-- `Rec.Followed`, record by record. -/
def followedAll (st : Store) : List Rec → List Rec → Prop
  | [], [] => True
  | r :: l, r' :: l' => r.Followed st r' ∧ followedAll st l l'
  | [], _ :: _ | _ :: _, [] => False

/-- `t` is `s` but for the follow-ups of a command (log 5). The follow-ups are a wake (R98), the test request that
has become possible (R195), the printer's and the punch's next work (R145, R180) and the rest and dormancy
measures (R96, R97). Of the store they change the claims of its records as `Rec.Followed` says, and reclaim finished
records at its head (R13); a new record phase begins at index 0 (R145), a claim done leaves no leader made (R181); a
BELL cell may ring the bell (R148); PAPER OUT, FAULT, SUSPENDED and TAPE OUT are neither entered nor left, and every
other thing listed here stands as in `s`. -/
structure FollowUp (s t : State) : Prop where
  now : t.now = s.now
  powered : t.powered = s.powered
  pending : t.pending = s.pending
  bells : s.bells ≤ t.bells
  straps : t.straps = s.straps
  line : t.line = s.line
  recv : t.recv = s.recv
  sender : t.sender = s.sender
  memory : t.answer.memory = s.answer.memory
  cycle : t.answer.cycle = s.answer.cycle
  writeLatch : t.answer.writeLatch = s.answer.writeLatch
  draft : t.answer.draft = s.answer.draft
  attend : t.answer.attend = s.answer.attend
  attendSince : t.answer.attendSince = s.answer.attendSince
  power : t.answer.power = s.answer.power ∨ t.answer.power = .active
  cells : t.store.cells = s.store.cells
  w : t.store.w = s.store.w
  requests : t.store.requests = s.store.requests
  records : ∃ l n, followedAll s.store s.store.recs l ∧ t.store.recs = l.drop n ∧
    ∀ r ∈ l.take n, r.reclaimable = true
  keys : t.keys = s.keys
  interp : t.interp = s.interp
  pacer : t.pacer = s.pacer
  paperOut : t.printer.state = .paperOut ↔ s.printer.state = .paperOut
  printerFault : t.printer.state = .fault ↔ s.printer.state = .fault
  phase : (t.printer.phase = s.printer.phase ∧ t.printer.index = s.printer.index) ∨ t.printer.index = 0
  column : t.printer.column = s.printer.column
  pendingFeeds : t.printer.pendingFeeds = s.printer.pendingFeeds
  returnOwed : t.printer.returnOwed = s.printer.returnOwed
  excluded : t.printer.excluded = s.printer.excluded
  paperAbsent : t.printer.paperAbsent = s.printer.paperAbsent
  paperMeasure : t.printer.paperMeasure = s.printer.paperMeasure
  stop : t.printer.stop = s.printer.stop
  supplyLow : t.arb.supplyLow = s.arb.supplyLow
  suspended : t.punch.state = .suspended ↔ s.punch.state = .suspended
  tapeOut : t.punch.state = .tapeOut ↔ s.punch.state = .tapeOut
  punchFault : t.punch.state = .fault ↔ s.punch.state = .fault
  leader : t.punch.leader = s.punch.leader ∨ t.punch.leader = 0
  suspendPending : t.punch.suspendPending = s.punch.suspendPending
  tapeOutPending : t.punch.tapeOutPending = s.punch.tapeOutPending
  faultPending : t.punch.faultPending = s.punch.faultPending
  manual : t.punch.manual = s.punch.manual
  tapeOutActive : t.punch.tapeOutActive = s.punch.tapeOutActive
  tapeMeasure : t.punch.tapeMeasure = s.punch.tapeMeasure
  codes : t.diag.codes = s.diag.codes
  latched : t.diag.latched = s.diag.latched
  again : t.diag.again = s.diag.again
  errorTotal : t.diag.errorTotal = s.diag.errorTotal
  request : t.diag.request = s.diag.request
  findings : t.diag.findings = s.diag.findings
  starting : t.diag.starting = s.diag.starting
  tapeLow : t.diag.tapeLow = s.diag.tapeLow

/-! ### Kinds of command -/

/-- The commands that stand for a reset or for the loss of power. -/
def isResetCommand : Instr → Bool
  | .powerOnReset _ | .resetPin _ | .lossOfPower => true
  | _ => false

/-- The commands in which a press event may be made (R113, R114). -/
def isPressCommand : Instr → Bool
  | .keyScan _ | .pressEvent _ | .repeatEvent => true
  | _ => false

/-- The samples of a character with every sample of an element alike (R26, R27, R35). -/
def samplesOf (c : Code) : BitVec 27 :=
  BitVec.ofBoolListLE ((List.range 27).map fun i => sentMark c (i / 3 + 1))

/-- The Interpreter takes the press `p` at the head of its queue, `rest` waiting behind it (R123). -/
structure State.Takes (s : State) (p : Press) (rest : List Press) : Prop where
  powered : s.powered = true
  queue : s.interp.queue = p :: rest
  unheld : s.interp.held = none

/-- The part once the press at the head has left the queue. -/
def State.took (s : State) (rest : List Press) : State :=
  { s with interp := { s.interp with queue := rest } }

/-! ### Tables of the manual, as the statements spell them -/

/-- The 46 character keys in the order of the key position map, the reference pads left out (R121). -/
def keysOnLines0To5 : String := "1234567890-'()QWERTYUIOPASDFGHJKLZXCVBNM,./?: "

/-- The keys to which SHIFT gives another character (R122). -/
def keysThatShift : String := "1234567890-'(),./?:"

/-- Their characters with SHIFT, in the same order (R122). -/
def whatTheyShiftTo : String := "!\"#$%&=*<>_@[];+\\^~"

/-- The column N1–N7 of the glyph table, for the codes 20h to 7Fh in turn (R150). -/
def glyphRows : List String :=
  ["0000000", "1111101", "2200000", "2252522", "1423241", "2311132", "2221323", "1110000"] ++
  ["1111111", "1111111", "0133310", "0115110", "0000211", "0005000", "0000022", "0111110"] ++
  ["3233323", "1211113", "3211115", "5111123", "1222511", "5141123", "2114223", "5111111"] ++
  ["3223223", "3224112", "0220220", "0220211", "1111111", "0050500", "1111111", "3211101"] ++
  ["3213333", "3222522", "4224224", "3211123", "3222223", "5114115", "5114111", "3214224"] ++
  ["2225222", "3111113", "3111122", "2222222", "1111115", "2433222", "2233322", "3222223"] ++
  ["4224111", "3222323", "4224222", "4113114", "5111111", "2222223", "2222221", "2223332"] ++
  ["2221222", "2221111", "5111115", "3111113", "0111110", "3111113", "1220000", "0000005"] ++
  ["1100000", "0031424", "1133224", "0031123", "1133224", "0032513", "2213111", "0422413"] ++
  ["1133222", "1021113", "1021122", "1122222", "2111113", "0033322", "0033222", "0032223"] ++
  ["0042411", "0033411", "0033111", "0031314", "1131122", "0022233", "0022221", "0022332"] ++
  ["0022122", "0022413", "0051115", "1111111", "1111111", "1111111", "0013100", "5555555"]

/-- Its column d (R150). -/
def glyphTotals : List Nat :=
  [0, 6, 4, 20, 17, 13, 15, 3, 7, 7, 11, 9, 4, 5, 4, 5] ++
  [19, 10, 14, 14, 14, 17, 15, 11, 17, 15, 8, 8, 7, 10, 7, 9] ++
  [18, 18, 20, 13, 16, 18, 14, 18, 17, 11, 11, 14, 11, 18, 17, 16] ++
  [15, 17, 18, 15, 11, 15, 13, 17, 13, 10, 15, 11, 5, 11, 5, 5] ++
  [2, 14, 16, 10, 16, 14, 11, 16, 14, 9, 9, 12, 10, 13, 12, 12] ++
  [12, 12, 9, 12, 11, 12, 9, 12, 9, 12, 13, 7, 7, 7, 5, 35]

/-! ### Sound states -/

/-- The store's memory has its canonical form. -/
def State.memoryCanonical (s : State) : Prop := Memory.wf s.store.cells = true

/-- Records lie end to end round the ring, the last ending at the write position (R1, R2). -/
def runsTo : List Rec → Nat → Prop
  | [], _ => True
  | [r], w => (r.start + r.length) % storeCells = w
  | r :: r' :: l, w => (r.start + r.length) % storeCells = r'.start ∧ runsTo (r' :: l) w

/-- The store's shape (R1, R2, R6): at most 24 records, end to end round the ring and no longer than it, none but the
newest OPEN; a block record is OPEN exactly while its block is in TEXT with its request answered OPENED, no block having
a record in its header (R39, R48), and a LOCAL record exactly while the Interpreter holds its local record as OPEN. -/
structure State.StoreShape (s : State) : Prop where
  descriptors : s.store.recs.length ≤ maxRecords
  used : s.store.used ≤ storeCells
  position : s.store.w < storeCells
  contiguous : runsTo s.store.recs s.store.w
  onlyNewestOpen : ∀ r ∈ s.store.recs.dropLast, r.isOpen = false
  blockRecord : s.store.blockOpen = true ↔ s.recv.parser = .text ∧ s.recv.recordStatus = .opened
  headerRecord : s.recv.parser = .dests ∨ s.recv.parser = .sender ∨ s.recv.parser = .kind →
    s.recv.recordStatus = .none
  localRecord : s.interp.localOpen = s.store.localOpen

/-- The counters and queues of the blocks lie in the ranges their rules give (R61, R63, R68, R115, R142, R155,
R167, R188, R201), and a carriage that has a character in hand or a step to make has a column left for it. -/
structure State.CountersInRange (s : State) : Prop where
  replies : s.sender.replies.length ≤ maxReplies
  generator : s.sender.generator ≠ 0#16
  presses : s.interp.queue.length ≤ maxPresses
  heat : s.pacer.h ≤ 65535
  errors : s.diag.errorTotal ≤ 255
  feeds : s.printer.pendingFeeds ≤ 3
  manual : s.punch.manual ≤ 20
  column : ∀ c, s.printer.column = some c → c ≤ 72
  stepRoom : s.printer.column = some 72 → s.printer.hand = none ∧ ∀ n, s.printer.motion ≠ .step n

/-- A sensing record's fields lie in their ranges (R102). -/
def KeyRec.inRange (r : KeyRec) : Prop :=
  r.f ≤ 4095 ∧ r.l16 ≤ maxL16 ∧ r.debounce ≤ 3 ∧ r.excursion ≤ 8

/-- The Key Sense Unit holds 64 records, each in range. -/
structure State.KeysInRange (s : State) : Prop where
  positions : s.keys.recs.length = keyPositions
  ranges : ∀ r ∈ s.keys.recs, r.inRange

/-- A composition's fields lie in their ranges (R124): at most 4 codes, none twice, a decimal digit at most pending and
then room for its code, a yield count of 3 at most. -/
structure Comp.InRange (c : Comp) : Prop where
  number : ∀ l, c.dests = .codes l → l.length ≤ 4
  noRepeat : ∀ l, c.dests = .codes l → l.Nodup
  digit : ∀ d, c.pendingDigit = some d → d ≤ 9
  digitRoom : ∀ l, c.dests = .codes l → c.pendingDigit ≠ none → l.length < 4
  yields : c.yields ≤ 3

/-- The compositions stay in their bounds (R124, R125): at most 4, at most one OPEN, their texts together no longer
than the compose memory, each with its fields in range. -/
structure State.CompsInBounds (s : State) : Prop where
  number : s.interp.comps.length ≤ maxCompositions
  oneOpen : (s.interp.comps.filter Comp.isOpen).length ≤ 1
  cells : s.interp.usedCells ≤ composeCells
  fields : ∀ c ∈ s.interp.comps, c.InRange

/-- The error and dropped counts of the records lie in their ranges (R3). -/
structure State.RecordsInRange (s : State) : Prop where
  errors : ∀ r ∈ s.store.recs, r.errors ≤ 255
  dropped : ∀ r ∈ s.store.recs, r.dropped ≤ 65535

/-- The printer is on the current record at a character its phase still has: a cell before the record's length in TEXT,
a place before the end of the heading or of the end lines (R145, R147). -/
def State.OnCharacter (s : State) : Prop :=
  match s.printer.phase with
  | .none | .align | .closing => True
  | .heading => ∃ r, s.store.printCurrent = some r ∧ s.printer.index < r.heading.length
  | .text => ∃ r, s.store.printCurrent = some r ∧ r.print.pos < r.length
  | .endLines => ∃ r, s.store.printCurrent = some r ∧ s.printer.index < r.endLines.length

/-- The print claims and the phase index lie in their ranges (R3, R142): no claim position is past its record's length,
and the index is at most 24. To stay so a character in hand or a step to make needs a character of its phase, a return
or feed for a CR or LF cell needs its cell, and no return or feed runs with a character in hand. -/
structure State.PrintInRange (s : State) : Prop where
  positions : ∀ r ∈ s.store.recs, r.print.pos ≤ r.length
  index : s.printer.index ≤ 24
  handHas : s.printer.hand ≠ none → s.OnCharacter
  stepHas : ∀ n, s.printer.motion = .step n → s.OnCharacter
  returnHas : ∀ k p b n c, s.printer.motion = .carriage k p b n c → s.printer.hand = none ∧
    (c = .cell → ∃ r, s.store.printCurrent = some r ∧ r.print.pos < r.length)
  feedHas : ∀ n c, s.printer.motion = .feed n c → s.printer.hand = none ∧
    (c = .cell → ∃ r, s.store.printCurrent = some r ∧ r.print.pos < r.length)

/-- The punch claims and the leader count lie in their ranges (R3, R175): no claim position is past its record's length,
and the leader count is at most 10. To stay so a leader row in hand needs a count below 10, and a cell row in hand a
RUNNING punch with its cell before the record's length. -/
structure State.PunchInRange (s : State) : Prop where
  positions : ∀ r ∈ s.store.recs, r.punchPos ≤ r.length
  leader : s.punch.leader ≤ 10
  leaderRow : ∀ r, s.punch.row = some r → r.content = .leader → s.punch.leader < 10
  cellRow : ∀ r c, s.punch.row = some r → r.content = .cell c → s.punch.state = .running ∧
    ∃ x, s.store.punchCurrent = some x ∧ x.punchPos < x.length

/-- The Answer Unit's measures run exactly while their conditions hold, and the store indicates no work outside ACTIVE
(R96, R97, R98). -/
structure State.MeasuresRun (s : State) : Prop where
  rest : s.answer.rest ≠ none ↔ s.answer.power = .active ∧ s.restCondition = true
  dormancy : s.answer.dormancy ≠ none ↔ s.answer.power = .quiet ∧ s.answer.attend = .unattended
  awake : s.store.printWork = true ∨ s.store.punchWork = true → s.answer.power = .active

/-- A READY printer has no work and a PRINTING one has some, and the idle measure runs exactly while the printer is
READY (R143, R197). -/
structure State.PrinterAtWork (s : State) : Prop where
  ready : s.printer.state = .ready → s.printerHasWork = false
  printing : s.printer.state = .printing → s.printerHasWork = true
  idle : s.diag.idleSince ≠ none ↔ s.printer.state = .ready

/-- The identity is locked and no cycle or draft is in hand (R88). -/
structure State.IdentityLocked (s : State) : Prop where
  locked : s.answer.memory.lock = true
  noDraft : s.answer.draft = none
  noCycle : s.answer.cycle = .idle

/-- The printer stands in FAULT with no other stop waiting (R159). -/
def State.PrinterFaulted (s : State) : Prop := s.printer.state = .fault ∧ s.printer.stop = .none

/-- The punch stands in FAULT with no row in hand (R189). -/
def State.PunchFaulted (s : State) : Prop := s.punch.state = .fault ∧ s.punch.row = none

end Sys2Proof.Machine
end

