-- ==== Sys2Proof/Certificates/Slice0/Obligations.lean ====
section
/-! DEFINITION. The statements for the provers. A command's statement says that `exec` answers a next state, under
hypotheses on the state and the operands alone, and what that state is: either the whole of it, or the state `u` it
is but for the follow-ups of a command (`FollowUp u t`), so that everything `u` does not name is unchanged. -/
section
open Sys2Proof Sys2Proof.Machine

/-! ### The queue of commands, and the whole machine -/

/-- A step carries out the command at the front of the queue with the queue's rest (the queue is the model's choice,
log 34). -/
def Obligations.StepCarriesOutFrontCommand : Prop :=
  ∀ (c : Instr) (rest : List Instr) (s : State),
    step { s with pending := c :: rest } = exec c { s with pending := rest }

/-- With no command waiting a step is one tick of the clock and nothing else (the model's choice, log 1); without
power no command but POWER_ON_RESET changes anything (the model's choice, log 11). -/
def Obligations.IdleAndUnpoweredSteps : Prop :=
  (∀ s : State, s.pending = [] → step s = .next { s with now := s.now + 1 }) ∧
  (∀ (c : Instr) (s : State), s.powered = false → (∀ pins, c ≠ .powerOnReset pins) → exec c s = .next s)

/-- Every step keeps the canonical form of the cell memory (the model's form, INVENTORY.md). -/
def Obligations.MemoryKeepsCanonicalForm : Prop :=
  ∀ s t : State, s.memoryCanonical → step s = .next t → t.memoryCanonical

/-- Every step keeps the store's shape, so that free cells and record lengths always make 4096 (R1, R2, R6). -/
def Obligations.StoreKeepsItsShape : Prop :=
  ∀ s t : State, s.StoreShape → step s = .next t →
    t.StoreShape ∧ t.store.free + t.store.used = 4096 ∧ t.store.freeRecs + t.store.recs.length = 24

/-- Every step keeps the queues and counters of the blocks in their ranges, 64 sensing records in the ranges of
R102, the compositions and their fields in the bounds of R124 and R125, the error and dropped counts and the claim
positions of the records in those of R3, the phase index within 24 (R142) and the leader count within 10 (R175). -/
def Obligations.BlocksStayInRange : Prop :=
  ∀ s t : State, step s = .next t →
    (s.CountersInRange → t.CountersInRange) ∧ (s.KeysInRange → t.KeysInRange) ∧
    (s.CompsInBounds → t.CompsInBounds) ∧ (s.RecordsInRange → t.RecordsInRange) ∧
    (s.PrintInRange → t.PrintInRange) ∧ (s.PunchInRange → t.PunchInRange)

/-- The strap values change at a reset alone (R23, R24, R199). -/
def Obligations.StrapsHoldUntilReset : Prop :=
  ∀ (c : Instr) (s t : State), (∀ p, c ≠ .powerOnReset p) → (∀ p, c ≠ .resetPin p) →
    exec c s = .next t → t.straps = s.straps

/-- Once locked, the identity memory never changes, at a reset and through loss of power included (R88). -/
def Obligations.LockedIdentityNeverChanges : Prop :=
  ∀ s t : State, s.IdentityLocked → step s = .next t →
    t.IdentityLocked ∧ t.answer.memory = s.answer.memory

/-- A printer and a punch in FAULT stay there through every command but a reset or a loss of power (R159, R189). -/
def Obligations.FaultsAreLeftOnlyByReset : Prop :=
  ∀ (c : Instr) (s t : State), isResetCommand c = false → exec c s = .next t →
    (s.PrinterFaulted → t.PrinterFaulted) ∧ (s.PunchFaulted → t.PunchFaulted)

/-- A latched event stays latched through every command but the taking of a STATUS request, power-on reset and loss
of power (R200): a GENERATED_RECORD_TAKEN that takes a CONFIRM request, or none because a block record is OPEN,
clears nothing. Latching an event makes it latched, and latched again since the last snapshot (R203), and changes
nothing else. -/
def Obligations.LatchedEventsStand : Prop :=
  (∀ (s : State) (e x : Event),
    (x ∈ (s.latch e).diag.latched ↔ x = e ∨ x ∈ s.diag.latched) ∧
    (x ∈ (s.latch e).diag.again ↔ x = e ∨ x ∈ s.diag.again) ∧
    s.latch e = { s with diag := { s.diag with
      latched := (s.latch e).diag.latched, again := (s.latch e).diag.again } }) ∧
  ∀ (c : Instr) (s t : State) (e : Event), (∀ p, c ≠ .powerOnReset p) → c ≠ .lossOfPower →
    (c = .generatedRecordTaken → s.store.blockOpen = true ∨ s.store.requests.head? ≠ some .status) →
    exec c s = .next t → e ∈ s.diag.latched → e ∈ t.diag.latched

/-- The state right after reset meets every invariant stated above. -/
def Obligations.ResetMeetsInvariants : Prop :=
  State.reset.memoryCanonical ∧ State.reset.StoreShape ∧ State.reset.CountersInRange ∧
    State.reset.KeysInRange ∧ State.reset.CompsInBounds ∧ State.reset.RecordsInRange ∧
    State.reset.PrintInRange ∧ State.reset.PunchInRange ∧ State.reset.MeasuresRun ∧ State.reset.PrinterAtWork

/-! ### Resets and loss of power -/

/-- What power-on reset leaves, whatever the part was before (the Reset section of every chapter), with the
self-check's sweep in hand (R198). The model's choices in it: log 7. -/
def Obligations.PowerOnResetValues : Prop :=
  ∀ (pins : Pins) (s : State), ∃ t, exec (.powerOnReset pins) s = .next t ∧
    t.powered = true ∧ t.now = 0 ∧ t.pending = s.pending ∧
    t.straps = { code := pins.code, speed := pins.speed, monitor := pins.monitor, punchsel := pins.punchsel,
                 setup := pins.setup } ∧
    t.line.sampler = .settling ∧ t.line.condition = .busy ∧ t.line.tx = .idle ∧
    t.recv.parser = .idle ∧ t.recv.stall = none ∧ t.recv.breakPending = false ∧
    t.sender.state = .idle ∧ t.sender.source = .none ∧ t.sender.replies = [] ∧ t.sender.watch = .none ∧
    t.sender.courtesy = false ∧ t.sender.abandoning = false ∧
    t.sender.generator = (0x8000#16 ||| pins.code.setWidth 16) ∧
    t.answer.memory = s.answer.memory ∧ t.answer.cycle = .idle ∧ t.answer.writeLatch = false ∧
    t.answer.draft = none ∧ t.answer.attend = .attended ∧ t.answer.power = .active ∧
    t.store.recs = [] ∧ t.store.w = 0 ∧ t.store.requests = [] ∧ t.store.free = 4096 ∧ t.store.freeRecs = 24 ∧
    t.interp.comps = [] ∧ t.interp.queue = [] ∧ t.interp.held = none ∧ t.interp.mode = .line ∧
    t.interp.localOpen = false ∧
    t.keys.recs.length = 64 ∧ t.keys.seeding = 0 ∧ t.keys.repeatMeasure = none ∧
    (∀ r ∈ t.keys.recs, r.state = .idle ∧ r.debounce = 0 ∧ r.excursion = 0 ∧ r.stuckSince = none) ∧
    t.pacer = { h := 0, state := .cool, lastFired := false, steps := 0 } ∧
    t.printer.state = (if pins.paper then .starting else .paperOut) ∧ t.printer.column = none ∧
    t.printer.returnOwed = true ∧ t.printer.hand = none ∧ t.printer.motion = .none ∧
    t.printer.excluded = [] ∧ t.printer.pendingFeeds = 0 ∧
    t.punch.state = (if pins.tapeOut then .tapeOut else .idle) ∧ t.punch.row = none ∧ t.punch.manual = 0 ∧
    t.arb.supplyLow = pins.supplyLow ∧ t.arb.last = .punch ∧
    t.arb.holder = (if pins.supplyLow then none else some .test) ∧ t.arb.waitTest = pins.supplyLow ∧
    t.diag.sweep = some {
      kind := .selfCheck, index := 0, findings := List.replicate 17 none
      stage := if pins.supplyLow then .waiting 0 else .granted } ∧
    t.diag.testing = (if pins.supplyLow then none else some { index := 0, counts := true }) ∧ t.driversHeld = true ∧
    t.printer.paperAbsent = !pins.paper ∧ t.punch.tapeOutActive = pins.tapeOut ∧
    t.diag.codes = List.replicate 17 .notTested ∧ t.diag.errorTotal = 0 ∧ t.diag.request = .none ∧
    t.diag.starting = true ∧ t.diag.tapeLow = pins.tapeLow ∧
    (∀ e, e ∈ t.diag.latched ↔ e = .power ∨ (e = .identityLost ∧ s.answer.memory.openCycle = true) ∨
      (e = .supplyLow ∧ pins.supplyLow = true) ∨ (e = .tapeOut ∧ pins.tapeOut = true) ∨
      (e = .paperOut ∧ pins.paper = false))

/-- What the reset pin leaves in every block: the store, the compositions, the latched events and the error total
are kept, as the rules on the reset pin say (R20, R141, R200, R201), H is 40000 (R174), every other block begins as
after power-on (R38, R60, R82, R100, R120, R160, R166, R192), and the self-check's sweep is in hand (R198). The
model's choices in it: log 7. -/
def Obligations.ResetPinValues : Prop :=
  (∀ (pins : Pins) (s : State), s.powered = true → ∃ t, exec (.resetPin pins) s = .next t ∧
    t.powered = true ∧ t.now = 0 ∧ t.pending = s.pending ∧
    t.straps = { code := pins.code, speed := pins.speed, monitor := pins.monitor, punchsel := pins.punchsel,
                 setup := pins.setup } ∧
    t.store.cells = s.store.cells ∧ t.store.w = s.store.w ∧ t.store.requests = [] ∧
    t.store.recs = s.store.recs.map Rec.restart ∧
    t.interp.comps = s.interp.comps.map Comp.restart ∧ t.interp.queue = [] ∧ t.interp.held = none ∧
    t.interp.mode = .line ∧ t.interp.localOpen = false ∧
    t.line.sampler = .settling ∧ t.line.condition = .busy ∧ t.line.tx = .idle ∧
    t.recv.parser = .idle ∧ t.recv.stall = none ∧ t.recv.breakPending = false ∧
    t.sender.state = .idle ∧ t.sender.source = .none ∧ t.sender.replies = [] ∧ t.sender.watch = .none ∧
    t.sender.courtesy = false ∧ t.sender.abandoning = false ∧
    t.sender.generator = (0x8000#16 ||| pins.code.setWidth 16) ∧
    t.answer.memory = s.answer.memory ∧ t.answer.cycle = .idle ∧ t.answer.writeLatch = false ∧
    t.answer.draft = none ∧ t.answer.attend = .attended ∧ t.answer.power = .active ∧
    t.keys.recs.length = 64 ∧ t.keys.seeding = 0 ∧ t.keys.repeatMeasure = none ∧
    (∀ r ∈ t.keys.recs, r.state = .idle ∧ r.debounce = 0 ∧ r.excursion = 0 ∧ r.stuckSince = none) ∧
    t.pacer = { h := 40000, state := .cool, lastFired := false, steps := 0 } ∧
    t.printer.state = (if pins.paper then .starting else .paperOut) ∧ t.printer.column = none ∧
    t.printer.returnOwed = true ∧ t.printer.hand = none ∧ t.printer.motion = .none ∧
    t.printer.phase = .none ∧ t.printer.excluded = [] ∧ t.printer.pendingFeeds = 0 ∧
    t.printer.paperAbsent = !pins.paper ∧
    t.punch.state = (if pins.tapeOut then .tapeOut else .idle) ∧ t.punch.row = none ∧ t.punch.manual = 0 ∧
    t.punch.leader = 0 ∧ t.punch.tapeOutActive = pins.tapeOut ∧
    t.arb.supplyLow = pins.supplyLow ∧ t.arb.last = .punch ∧ t.arb.waitPrint = false ∧ t.arb.waitPunch = false ∧
    t.arb.holder = (if pins.supplyLow then none else some .test) ∧ t.arb.waitTest = pins.supplyLow ∧
    t.diag.sweep = some {
      kind := .selfCheck, index := 0, findings := List.replicate 17 none
      stage := if pins.supplyLow then .waiting 0 else .granted } ∧
    t.diag.testing = (if pins.supplyLow then none else some { index := 0, counts := true }) ∧ t.driversHeld = true ∧
    t.diag.codes = List.replicate 17 .notTested ∧ t.diag.errorTotal = s.diag.errorTotal ∧
    t.diag.request = .none ∧ t.diag.starting = true ∧ t.diag.tapeLow = pins.tapeLow ∧
    (∀ e, e ∈ t.diag.latched ↔ e ∈ s.diag.latched ∨ e = .restart ∨
      (e = .identityLost ∧ s.answer.memory.openCycle = true) ∨ (e = .supplyLow ∧ pins.supplyLow = true) ∨
      (e = .tapeOut ∧ pins.tapeOut = true) ∨ (e = .paperOut ∧ pins.paper = false))) ∧
  (∀ r : Rec,
    r.restart.state = (if r.state = .opened then .closed .restarted else r.state) ∧
    r.restart.print = (if r.print.done then r.print else { pos := 0, done := false }) ∧
    (∀ p, r.punch = some p →
      r.restart.punch = some (if p.done || p.skipped then p else { pos := 0, done := false, skipped := false })) ∧
    (r.punch = none → r.restart.punch = none) ∧
    r.restart.kind = r.kind ∧ r.restart.peer = r.peer ∧ r.restart.start = r.start ∧
    r.restart.length = r.length ∧ r.restart.errors = r.errors ∧ r.restart.truncated = r.truncated ∧
    r.restart.dropped = r.dropped) ∧
  (∀ c : Comp,
    c.restart.state = (match c.state with
      | .sending | .awaiting | .held => .held
      | .openAddressing => .openAddressing
      | .openText => .openText
      | .ready => .ready) ∧
    c.restart.kind = c.kind ∧ c.restart.dests = c.dests ∧ c.restart.text = c.text ∧
    c.restart.yields = c.yields ∧ c.restart.serial = c.serial ∧
    (c.state = .openAddressing → c.restart.pendingDigit = none))

/-- Loss of power keeps the identity memory as it stands, an open-cycle mark included (R83, R89), and the rest is
gone (R21; what the part holds without power is the model's choice, log 11). -/
def Obligations.LossOfPowerKeepsIdentityMemory : Prop :=
  ∀ s : State, s.powered = true → ∃ t, exec .lossOfPower s = .next t ∧
    t.powered = false ∧ t.answer.memory = s.answer.memory ∧ t.answer.cycle = .idle ∧ t.answer.draft = none ∧
    t.store = { cells := [], w := 0, recs := [], requests := [] } ∧ t.interp.comps = [] ∧
    t.sender.replies = [] ∧ t.drivingLine = false ∧ (∀ ch, t.drives ch = false) ∧ t.attention = false ∧
    t.straps = s.straps ∧ t.pending = s.pending

/-! ### The line -/

/-- A condition that becomes QUIET starts the quiet time at zero (R30); a DEFERRING Sender chooses its source again
and starts that source's span (R64, R66, R67, R70), and any other Sender is not touched. A composition may be chosen
only while no watch waits and none is SENDING, and it is the oldest READY one (R64), with the draw its yield count
allows (R67). -/
def Obligations.BecomingQuietStartsSpan : Prop :=
  (∀ s : State, s.maySendComp = true ↔ s.sender.watch = .none ∧ ∀ c ∈ s.interp.comps, c.state ≠ .sending) ∧
  (∀ (i : Interp) (c : Comp),
    (i.oldestReady = some c ↔
      ∃ l l', i.comps = l ++ c :: l' ∧ c.state = .ready ∧ ∀ x ∈ l, x.state ≠ .ready) ∧
    (i.oldestReady = none ↔ ∀ x ∈ i.comps, x.state ≠ .ready) ∧
    (∀ l l', i.comps = l ++ c :: l' → (∀ x ∈ l, x.serial ≠ c.serial) → i.yieldsOf c.serial = c.yields)) ∧
  ∀ s : State,
    s.becomeQuiet.line = { s.line with condition := .quiet, quietSince := s.now } ∧
    s.becomeQuiet = { s with line := s.becomeQuiet.line, sender := s.becomeQuiet.sender } ∧
    (s.sender.state = .deferring → s.diag.starting = true → s.becomeQuiet.sender =
      { s.sender with state := .idle, source := .none, span := none, spanReached := false }) ∧
    (s.sender.state ≠ .deferring → s.becomeQuiet.sender = s.sender) ∧
    (s.sender.state = .deferring → s.diag.starting = false →
      (s.sender.replies ≠ [] → s.becomeQuiet.sender =
        { s.sender with source := .reply, span := some 1, draw := 0, spanReached := false }) ∧
      (∀ c, s.sender.replies = [] → s.maySendComp = true → s.interp.oldestReady = some c →
        ∃ d, d < 2 ^ (3 - s.interp.yieldsOf c.serial) ∧
          d = s.sender.generator.toNat % 2 ^ (3 - s.interp.yieldsOf c.serial) ∧
          s.becomeQuiet.sender = { s.sender with
            source := .comp c.serial, draw := d, spanReached := false
            span := some (3 + d + if s.sender.courtesy then 4 else 0) }) ∧
      (s.sender.replies = [] → s.maySendComp = false ∨ s.interp.oldestReady = none → s.becomeQuiet.sender =
        { s.sender with state := .idle, source := .none, span := none, spanReached := false }))

/-- The ways to QUIET: the end of SETTLING (R38), the end of a stop element (R30), the first mark sample after a
framing error (R29, R30), and restoration from LINE OPEN (R33), at the 160th consecutive mark sample for the first
and the last. In BREAK, LINE OPEN and SETTLING the first mark sample only starts that run; anywhere else it does
nothing. The durations are those of the SPEED table (R23): 16 samples an element, 10 elements a Tc, an element the
1/baud of a second in the model's ticks of 1/264000 s (log 1). The model's choices in it: logs 1, 2, 5, 17, 44. -/
def Obligations.LineReturnsToQuiet : Prop :=
  (∀ (speed : BitVec 3) (baud : Nat),
    baud = (if speed = 0#3 then 50 else if speed = 1#3 then 75 else if speed = 3#3 then 150
      else if speed = 4#3 then 300 else 110) →
    baud * (16 * sampleTicks speed) = 264000) ∧
  (∀ (s : State) (n : Nat), ms n = 264 * n ∧ s.samples n = n * sampleTicks s.straps.speed ∧
    s.charTimes n = n * (160 * sampleTicks s.straps.speed) ∧ s.reach n = { s with now := max s.now n } ∧
    (s.line.spaced = true ↔ s.line.condition = .inBreak ∨ s.line.condition = .lineOpen)) ∧
  ∀ s : State, s.powered = true →
    (s.line.sampler = .settling → s.line.spaced = false → ∃ t, exec .settlingEnd s = .next t ∧
      FollowUp ({ s.reach (s.line.markSince + s.samples 159) with
        line := { s.line with sampler := .hunting } }.becomeQuiet) t) ∧
    (∀ stop, s.line.stopEnd = some stop → s.line.sampler = .hunting → s.line.condition = .busy →
      ∃ t, exec .endOfStopElement s = .next t ∧
        FollowUp ({ s.reach stop with line := { s.line with stopEnd := none } }.becomeQuiet) t) ∧
    (s.line.sampler = .waitingMark → s.line.spaced = false → s.line.nullHeld = false →
      ∃ t, exec .firstMarkSample s = .next t ∧
        FollowUp ({ s with line := { s.line with sampler := .hunting, markSince := s.now } }.becomeQuiet) t) ∧
    (s.line.spaced = true ∨ s.line.sampler = .settling →
      exec .firstMarkSample s = .next { s with line := { s.line with markSince := s.now } }) ∧
    (s.line.spaced = false → s.line.sampler = .hunting ∨ s.line.sampler = .framing →
      exec .firstMarkSample s = .next s) ∧
    (s.line.condition = .lineOpen → ∃ t, exec .restoration s = .next t ∧
      FollowUp ({ s.reach (s.line.markSince + s.samples 159) with
        line := { s.line with sampler := .hunting, nullHeld := false } }.becomeQuiet) t)

/-- A mark-to-space edge begins a character in HUNTING outside BREAK and LINE OPEN, makes the line BUSY and restarts
a deferral's span (R25, R30, R70); anywhere else it begins nothing and only the measures of R31 and R33 start from
it. The start element is decided by the majority of its three samples (R26), at its sample 9 (log 18): two or three
spaces report START and move a running stall deadline 20 Tc on (R53); two or three marks make the line QUIET again.
Either decision steps the generator once (R25, R68): its bits move one place toward the low end, and the new top bit
is the exclusive-or of bits 0, 2, 3 and 5. The model's choices in it: logs 2, 5, 17, 18, 44, 46. -/
def Obligations.CharacterBegins : Prop :=
  (∀ (g : BitVec 16) (n : Nat),
    (∀ i, i < 15 → (generatorStep g).getLsbD i = g.getLsbD (i + 1)) ∧
    (generatorStep g).getLsbD 15 =
      (g.getLsbD 0 ^^ (g.getLsbD 2 ^^ (g.getLsbD 3 ^^ g.getLsbD 5))) ∧
    generatorSteps 0 g = g ∧ generatorSteps (n + 1) g = generatorSteps n (generatorStep g)) ∧
  (∀ s : State, s.powered = true →
    (s.line.sampler = .hunting → s.line.spaced = false →
      exec .markToSpaceEdge s = .next { s with
        line := { s.line with
          lastEdge := s.now, markSince := s.now + s.samples 1, sampler := .framing, frameStart := s.now
          startConfirmed := false
          stopEnd := none, condition := .busy }
        sender := if s.sender.state = .deferring then { s.sender with span := none, spanReached := false }
          else s.sender }) ∧
    (s.line.sampler ≠ .hunting ∨ s.line.spaced = true →
      exec .markToSpaceEdge s = .next { s with
        line := { s.line with lastEdge := s.now, markSince := s.now + s.samples 1 } })) ∧
  ((∀ v : BitVec 3, majority v = decide (2 ≤ ((List.range 3).filter fun i => v.getLsbD i).length)) ∧
  ∀ (v : BitVec 3) (s u : State), s.powered = true → s.line.sampler = .framing → s.line.startConfirmed = false →
    u = { s with
      now := max s.now (s.line.frameStart + 9 * sampleTicks s.straps.speed)
      sender := { s.sender with generator := generatorStep s.sender.generator } } →
    (majority v = true → ∃ t, exec (.start v) s = .next t ∧
      FollowUp ({ u with line := { s.line with sampler := .hunting } }.becomeQuiet) t) ∧
    (majority v = false → exec (.start v) s = .next { u with
      line := { s.line with startConfirmed := true }
      recv := { s.recv with
        lastStart := u.now
        stall := if s.recv.stall.isSome then some (u.now + s.charTimes 20) else none } }))

/-- A character is delivered at the decision of its stop element, taken at its sample 9 (log 18), with its error
marks (R27); a null frame is held, and delivered as 00h in error at the first mark sample (R28). Nine received
elements step the generator nine times (R25). A character in error raises the error total, which stays at 255 (R27,
R201). The model's choices in it: logs 2, 5, 15, 16, 17, 18, 44. -/
def Obligations.CharacterIsDelivered : Prop :=
  (∀ (v : BitVec 27) (s u : State), s.powered = true → s.line.sampler = .framing →
    s.line.startConfirmed = true →
    u = { s with
      now := max s.now (s.line.frameStart + 153 * sampleTicks s.straps.speed)
      sender := { s.sender with generator := generatorSteps 9 s.sender.generator } } →
    (isNullFrame v = true → exec (.characterReceived v) s = .next { u with
      line := { s.line with sampler := .waitingMark, nullHeld := true, startConfirmed := false } }) ∧
    (isNullFrame v = false → ∃ t, exec (.characterReceived v) s = .next t ∧
      FollowUp ({ u with line := { s.line with
          sampler := if framingError v then .waitingMark else .hunting
          stopEnd := if framingError v then none
            else some (s.line.frameStart + 159 * sampleTicks s.straps.speed)
          startConfirmed := false } }.deliver (codeFrom v) (parityError v || framingError v)) t)) ∧
  (∀ s : State, s.powered = true → s.line.sampler = .waitingMark → s.line.spaced = false →
    s.line.nullHeld = true → ∃ t, exec .firstMarkSample s = .next t ∧
      FollowUp ({ s with line := { s.line with
        sampler := .hunting, nullHeld := false, markSince := s.now } }.deliver 0x00#7 true) t) ∧
  (∀ (s : State) (c : Code),
    s.deliver c false = s.takeCharacter c false ∧
    s.deliver c true = { s with diag := { s.diag with
      errorTotal := if s.diag.errorTotal < 255 then s.diag.errorTotal + 1 else 255 } }.takeCharacter c true)

/-- What a transmitter sends is what a receiver decides (R27, R35): elements that read as the transmitter sends the
character give back its code, with neither error mark. Each element is the majority of its three samples, the code
is elements 1 to 7, least significant first, elements 1 to 8 have even parity, and a null frame has no mark at all
(R27, R28). The model's choices in it: log 15. -/
def Obligations.SentFrameIsReceived : Prop :=
  (∀ (v : BitVec 27) (e : Nat), 1 ≤ e → e ≤ 9 → elementOf v e =
    decide (2 ≤ ((List.range 3).filter fun i => v.getLsbD (3 * (e - 1) + i)).length)) ∧
  (∀ v : BitVec 27,
    (∀ i, i < 7 → (codeFrom v).getLsbD i = elementOf v (i + 1)) ∧
    parityError v = decide (((List.range 8).filter fun i => elementOf v (i + 1)).length % 2 = 1) ∧
    framingError v = !elementOf v 9 ∧
    (isNullFrame v = true ↔ ∀ e, 1 ≤ e → e ≤ 9 → elementOf v e = false)) ∧
  (∀ c : Code, sentMark c 0 = false ∧ (∀ e, 1 ≤ e → e ≤ 7 → sentMark c e = c.getLsbD (e - 1)) ∧
    ((List.range 8).filter fun i => sentMark c (i + 1)).length % 2 = 0 ∧ sentMark c 9 = true) ∧
  ∀ (c : Code) (v : BitVec 27), (∀ e, 1 ≤ e → e ≤ 9 → elementOf v e = sentMark c e) →
    codeFrom v = c ∧ parityError v = false ∧ framingError v = false ∧ isNullFrame v = false

/-- 20 element times of space from the last edge make BREAK (R31): nothing is in FRAMING or held any more, a block
in TEXT waits with break pending, any other block state is left for IDLE (R45, R54), a deferral's span restarts, and
BREAK HEARD is latched unless the transmitter is HOLDING. The model's choices in it: logs 2, 17, 44. -/
def Obligations.BreakBegins : Prop :=
  ∀ s : State, s.powered = true → s.line.spaced = false → ∃ t, exec .breakBegun s = .next t ∧
    t.now = max s.now (s.line.lastEdge + 320 * sampleTicks s.straps.speed) ∧
    t.line = { s.line with
      condition := .inBreak, breakEdge := s.line.lastEdge, nullHeld := false, startConfirmed := false
      stopEnd := none, markSince := t.now
      sampler := if s.line.sampler = .settling then .settling else .waitingMark } ∧
    t.recv = (match s.recv.parser with
      | .idle => s.recv
      | .text => { s.recv with breakPending := true, stall := none }
      | .dests | .sender | .kind | .skip => { s.recv with parser := .idle, stall := none }) ∧
    t.sender = (if s.sender.state = .deferring then { s.sender with span := none, spanReached := false }
      else s.sender) ∧
    (∀ e, e ∈ t.diag.latched ↔
      e ∈ s.diag.latched ∨ (e = .breakHeard ∧ ∀ n, s.line.tx ≠ .holding n)) ∧
    (∀ a, Memory.read t.store.cells a = Memory.read s.store.cells a) ∧
    t.interp = s.interp ∧ t.keys = s.keys ∧ t.pacer = s.pacer ∧ t.straps = s.straps

/-- 1.5 s from the break's edge make LINE OPEN, which latches LINE LOST (R32), closes a block in TEXT with break
pending LINE LOST (R54) and ends a block being sent (R78); restoration from BREAK, at the 160th consecutive mark
sample, closes such a block BROKEN and makes the line QUIET (R33, R54). The stall deadline closes a block in TEXT
STALLED and returns any other block state to IDLE (R53). The model's choices in it: logs 2, 5, 17, 44. -/
def Obligations.BreaksAndStallsEndBlocks : Prop :=
  (∀ s : State, s.powered = true → s.line.condition = .inBreak →
    (∀ u, u = ({ s.reach (s.line.breakEdge + ms 1500) with
          line := { s.line with condition := .lineOpen } }.latch .lineLost) →
      ∀ v, v = (match s.recv.parser, s.recv.breakPending with
        | .idle, _ => u
        | .text, true => u.closeBlock .lineLost
        | .text, false => u
        | .dests, _ | .sender, _ | .kind, _ | .skip, _ =>
          { u with recv := { u.recv with parser := .idle, stall := none } }) →
      ∃ t, exec .lineOpen s = .next t ∧ Event.lineLost ∈ t.diag.latched ∧ t.line.condition = .lineOpen ∧
        FollowUp (if v.sender.state = .sending
          then ({ v with line := { v.line with tx := .idle } }.cutBlock).chooseNext else v) t) ∧
    (∀ u, u = { s.reach (s.line.markSince + s.samples 159) with
        line := { s.line with sampler := .hunting, nullHeld := false } } →
      ∃ t, exec .restoration s = .next t ∧ t.line.condition = .quiet ∧
        FollowUp ((if s.recv.parser = .text ∧ s.recv.breakPending = true then u.closeBlock .broken
          else u).becomeQuiet) t)) ∧
  (∀ (s : State) (deadline : Nat), s.powered = true → s.recv.stall = some deadline →
    ∃ t, exec .stall s = .next t ∧ t.recv.parser = .idle ∧ t.recv.stall = none ∧
      (s.recv.parser = .text → FollowUp ((s.reach deadline).closeBlock .stalled) t) ∧
      (s.recv.parser ≠ .text →
        FollowUp { s.reach deadline with recv := { s.recv with parser := .idle, stall := none } } t))

/-! ### Blocks -/

/-- The header's grammar (R40 to R44): what each error-free character does in IDLE, DESTS, SENDER and SKIP and, but
for the kind characters, in KIND; and that a character in error does nothing in IDLE and SKIP and goes to SKIP from
the header. The characters are those of the manual's table, and 40h to 5Fh stand for the 32 station codes (R39). -/
def Obligations.HeaderIsParsed : Prop :=
  (∀ (c : Code) (d : Station), stationOf c = some d ↔ c = BitVec.ofNat 7 (0x40 + d.toNat)) ∧
  (chNul = 0x00#7 ∧ chCall = 0x01#7 ∧ chFrom = 0x02#7 ∧ chBody = 0x03#7 ∧ chOver = 0x04#7 ∧ chQuery = 0x05#7 ∧
    chIdent = 0x06#7 ∧ chReceipt = 0x0E#7 ∧ chAbandon = 0x18#7 ∧ chSpace = 0x20#7 ∧ chStar = 0x2A#7) ∧
  ∀ (s opened idle skip : State) (c : Code),
    opened = { s with recv := {
      parser := .dests, dests := .codes [], senderCode := none, kind := none, disposition := .undecided
      recordStatus := .none, contentCount := 0, contentError := false, firstContent := none, held := none
      breakPending := false, stall := some (s.recv.lastStart + s.charTimes 20), lastStart := s.recv.lastStart } } →
    idle = { s with recv := { s.recv with parser := .idle, stall := none } } →
    skip = { s with recv := { s.recv with parser := .skip } } →
    s.takeCall = opened ∧
    (s.recv.parser = .idle →
      s.takeCharacter c true = s ∧ s.takeCharacter c false = if c = chCall then opened else s) ∧
    (s.recv.parser = .skip →
      s.takeCharacter c true = s ∧
      s.takeCharacter c false = if c = chOver then idle else if c = chCall then opened else s) ∧
    (s.recv.parser = .dests ∨ s.recv.parser = .sender ∨ s.recv.parser = .kind →
      s.takeCharacter c true = skip ∧ s.takeCharacter chCall false = opened ∧
      s.takeCharacter chOver false = idle ∧ s.takeCharacter chNul false = s) ∧
    (s.recv.parser = .sender →
      (∀ d, stationOf c = some d →
        s.takeCharacter c false = { s with recv := { s.recv with parser := .kind, senderCode := some d } }) ∧
      (stationOf c = none → c ≠ chCall → c ≠ chOver → c ≠ chNul → s.takeCharacter c false = skip)) ∧
    (s.recv.parser = .kind → c ≠ chBody → c ≠ chQuery → c ≠ chIdent → c ≠ chReceipt →
      c ≠ chCall → c ≠ chOver → c ≠ chNul → s.takeCharacter c false = skip) ∧
    (s.recv.parser = .dests →
      (∀ l d, s.recv.dests = .codes l → stationOf c = some d → s.takeCharacter c false =
        if l.length < 4 then { s with recv := { s.recv with dests := .codes (l ++ [d]) } } else skip) ∧
      (∀ d, s.recv.dests = .all → stationOf c = some d → s.takeCharacter c false = skip) ∧
      (s.takeCharacter chStar false =
        if s.recv.dests = .codes [] then { s with recv := { s.recv with dests := .all } } else skip) ∧
      (s.takeCharacter chFrom false =
        if s.recv.dests = .codes [] then skip else { s with recv := { s.recv with parser := .sender } }) ∧
      (stationOf c = none → c ≠ chStar → c ≠ chFrom → c ≠ chCall → c ≠ chOver → c ≠ chNul →
        s.takeCharacter c false = skip))

/-- The disposition of a block at its kind character (R46, R47), the peer of its record (R48), and what the
character sets (R43). A block under the own code while the Sender is not SENDING latches DUPLICATE CODE. A
disposition that calls for a record asks the store for it there and then, an OPEN LOCAL record closed SPLIT first
(R6, R48), and the record status is the store's answer (R7); no other disposition asks. -/
def Obligations.DispositionIsDecided : Prop :=
  (∀ c : Code, kindOf c = none ↔ c ≠ chBody ∧ c ≠ chQuery ∧ c ≠ chIdent ∧ c ≠ chReceipt) ∧
  ∀ (s : State) (k : BlockKind) (c : Code), s.recv.parser = .kind → kindOf c = some k →
    ((s.takeCharacter c false).recv.parser = .text ∧ (s.takeCharacter c false).recv.kind = some k ∧
      (s.takeCharacter c false).recv.disposition = s.dispositionOf k ∧
      (s.takeCharacter c false).recv.contentCount = 0 ∧ (s.takeCharacter c false).recv.contentError = false ∧
      (s.takeCharacter c false).recv.firstContent = none ∧ (s.takeCharacter c false).recv.held = none) ∧
    (∀ u : State, u = { (if s.recv.senderCode = some s.straps.code ∧ s.sender.state ≠ .sending
          then s.latch .duplicateCode else s) with recv := { s.recv with
        parser := .text, kind := some k, disposition := s.dispositionOf k, contentCount := 0
        contentError := false, firstContent := none, held := none } } →
      (∀ rk v opened, s.dispositionOf k = .recorded rk → u.splitLocal.openRecord rk (s.peerFor rk) = (v, opened) →
        s.takeCharacter c false = { v with recv := { v.recv with
          recordStatus := if opened = true then .opened else .noRecord } }) ∧
      ((∀ rk, s.dispositionOf k ≠ .recorded rk) → s.takeCharacter c false = u)) ∧
    (kindOf chBody = some .body ∧ kindOf chQuery = some .query ∧ kindOf chIdent = some .ident ∧
      kindOf chReceipt = some .receipt) ∧
    (s.recv.senderCode = some s.straps.code → s.sender.state = .sending →
      s.dispositionOf k = if k = .body then .recorded .sent else .passedOver) ∧
    (s.recv.senderCode = some s.straps.code → s.sender.state ≠ .sending →
      Event.duplicateCode ∈ (s.takeCharacter c false).diag.latched) ∧
    (s.recv.senderCode ≠ some s.straps.code ∨ s.sender.state ≠ .sending →
      (s.recv.dests = .codes [s.straps.code] → s.dispositionOf k = (match k with
        | .body => .recorded .received
        | .query => .identityQuery
        | .ident => .recorded .ident
        | .receipt => .candidateReceipt)) ∧
      (s.recv.dests = .all → s.dispositionOf k = (match k with
        | .body => .recorded .received
        | .query => .identityQuery
        | .ident => .recorded .ident
        | .receipt => .passedOver)) ∧
      (∀ l, s.recv.dests = .codes l → s.straps.code ∈ l → l ≠ [s.straps.code] →
        s.dispositionOf k = (match k with
          | .body => .recorded .received
          | .ident => .recorded .ident
          | .query | .receipt => .passedOver)) ∧
      (∀ l, s.recv.dests = .codes l → s.straps.code ∉ l →
        s.dispositionOf k =
          if k = .body ∧ s.straps.monitor = true then .recorded .overheard else .passedOver)) ∧
    (s.peerFor .received = s.recv.senderCode ∧ s.peerFor .overheard = s.recv.senderCode ∧
      s.peerFor .ident = s.recv.senderCode ∧
      (s.recv.dests = .all → s.peerFor .sent = none) ∧
      (∀ d l, s.recv.dests = .codes (d :: l) → s.peerFor .sent = some d))

/-- Content in TEXT (R49): counted, the first one kept, a character in error or out of place taken as 7Fh with one
error reported, NUL dropped; and an IDENT record's content is stored one character late (R50), a 7Fh too, its error
being reported as it is taken. -/
def Obligations.ContentIsTaken : Prop :=
  ∀ (s : State) (c : Code), s.recv.parser = .text →
    (∀ u : State, u = { s with recv := { s.recv with
        contentCount := if s.recv.contentCount < 65535 then s.recv.contentCount + 1 else 65535
        firstContent := if s.recv.firstContent = none then some c else s.recv.firstContent } } →
      c ≠ chNul → c ≠ chOver → c ≠ chAbandon → c ≠ chCall → c ≠ chFrom → kindOf c = none →
      (s.recv.recordStatus ≠ .opened → s.takeCharacter c false = u) ∧
      (s.recv.recordStatus = .opened → s.recv.disposition ≠ .recorded .ident →
        s.takeCharacter c false = u.append c) ∧
      (s.recv.recordStatus = .opened → s.recv.disposition = .recorded .ident →
        (s.recv.held = none →
          s.takeCharacter c false = { u with recv := { u.recv with held := some c } }) ∧
        (∀ h, s.recv.held = some h →
          s.takeCharacter c false =
            { u.append h with recv := { (u.append h).recv with held := some c } }))) ∧
    s.takeCharacter chNul false = s ∧
    (∀ u : State, u = { s with recv := { s.recv with
        contentCount := if s.recv.contentCount < 65535 then s.recv.contentCount + 1 else 65535
        contentError := true
        firstContent := if s.recv.firstContent = none then some 0x7F#7 else s.recv.firstContent } } →
      (s.recv.recordStatus ≠ .opened → s.takeCharacter c true = u) ∧
      (s.recv.recordStatus = .opened → s.recv.disposition ≠ .recorded .ident →
        s.takeCharacter c true = u.reportError.append 0x7F#7) ∧
      (s.recv.recordStatus = .opened → s.recv.disposition = .recorded .ident →
        (s.recv.held = none →
          s.takeCharacter c true = { u.reportError with recv := { u.recv with held := some 0x7F#7 } }) ∧
        (∀ h, s.recv.held = some h → s.takeCharacter c true =
          { u.reportError.append h with recv := { u.recv with held := some 0x7F#7 } })) ∧
      (c = chFrom ∨ (∃ k, kindOf c = some k) → s.takeCharacter c false = s.takeCharacter c true))

/-- How a block in TEXT closes (R50, R52, R59): OVER, ABANDON and CALL each with its end reason; the record is
closed with that reason, the parser is left in IDLE with no stall timer and no break pending, and only a COMPLETE
close hands anything on. To close a record is to set its state and end reason, every other field kept, and then to
reclaim (R9, R13). The model's choices in it: log 38. -/
def Obligations.BlockIsClosed : Prop :=
  (∀ (s : State) (l : List Rec) (r : Rec) (reason : EndReason), s.store.recs = l ++ [r] → r.state = .opened →
    (∀ x ∈ l, x.state ≠ .opened) →
    s.closeRecord reason = { s with store := { s.store with
      recs := (l ++ [{ r with state := .closed reason }]).dropWhile Rec.reclaimable } }) ∧
  ∀ s : State, s.recv.parser = .text →
    s.takeCharacter chOver false = s.closeBlock .complete ∧
    s.takeCharacter chAbandon false = s.closeBlock .abandoned ∧
    s.takeCharacter chCall false = (s.closeBlock .broken).takeCall ∧
    (∀ reason, (s.closeBlock reason).recv.parser = .idle ∧ (s.closeBlock reason).recv.stall = none ∧
      (s.closeBlock reason).recv.breakPending = false) ∧
    (∀ reason, s.recv.held = none →
      ∀ u, u = (if s.recv.recordStatus = .opened then s.closeRecord reason else s) →
        s.closeBlock reason =
          (if reason = .complete then
            { u.closeDuties with recv := { u.closeDuties.recv with
              parser := .idle, stall := none, breakPending := false } }
          else { u with recv := { u.recv with parser := .idle, stall := none, breakPending := false } })) ∧
    (∀ h reason, s.recv.held = some h →
      ∀ u, u = (if reason = .complete then (s.append chSpace).append h else s.append h) →
        s.closeBlock reason = { u with recv := { u.recv with held := none } }.closeBlock reason)

/-- What a COMPLETE close hands on (R51, R56, R57, R58): the receipt with its outcome letter, the identity reply of
a well-formed QUERY, or a well-formed RECEIPT to the watch; a reply that finds the queue full is lost (R63). A reply
added starts an IDLE Sender (R62, R64), takes the place of a composition that is deferred for, with the reply gap as
its span (R65), and only waits otherwise. RECEIPT HEARD from the watched station settles the watch with its letter:
a stroke of the bell unless it is K, the CONFIRM request, the composition removed (R80, R81); from any other it does
nothing. -/
def Obligations.CloseHandsOn : Prop :=
  (∀ (c : Code) (l : Letter), letterOf c = some l ↔ c = l.code) ∧
  (Letter.k.code = 0x4B#7 ∧ Letter.t.code = 0x54#7 ∧ Letter.e.code = 0x45#7 ∧ Letter.x.code = 0x58#7) ∧
  (∀ (s : State) (r : Reply), 2 ≤ s.sender.replies.length → s.addReply r = s.latch .replyLost) ∧
  (∀ s : State, s.recv.senderCode = none → s.closeDuties = s) ∧
  (∀ (s u : State) (r : Reply), s.sender.replies.length < 2 →
    u = { s with sender := { s.sender with replies := s.sender.replies ++ [r] } } →
    (s.sender.state = .sending ∨ s.sender.state = .breaking → s.addReply r = u) ∧
    (s.sender.state = .deferring → s.sender.source = .reply → s.addReply r = u) ∧
    (s.sender.state = .deferring → s.sender.source ≠ .reply → s.addReply r = { u with sender := { u.sender with
      source := .reply, draw := 0, spanReached := false
      span := if s.line.condition = .quiet then some 1 else none } }) ∧
    (s.sender.state = .idle → s.diag.starting = true → s.sender.source = .none → s.sender.span = none →
      s.sender.spanReached = false → s.addReply r = u) ∧
    (s.sender.state = .idle → s.diag.starting = false →
      (s.line.condition = .quiet → s.addReply r = { u with sender := { u.sender with
        state := .deferring, source := .reply, span := some 1, draw := 0, spanReached := false } }) ∧
      (s.line.condition ≠ .quiet → s.addReply r = { u with sender := { u.sender with
        state := .deferring, source := .reply, span := none, spanReached := false } }))) ∧
  (∀ (s : State) (d : Station) (letter : Letter),
    (s.sender.watch = .none → s.receiptHeard d letter = s) ∧
    (∀ d' deadline n, s.sender.watch = .waiting d' deadline n →
      (d' ≠ d → s.receiptHeard d letter = s) ∧
      (d' = d → ∀ busy, (busy = true ↔ ∃ r ∈ s.store.requests, r ≠ .status) →
        s.receiptHeard d letter = State.workAppears { s with
          bells := s.bells + (if letter = .k then 0 else 1) + (if busy = true then 1 else 0)
          store := { s.store with requests :=
            if busy = true then s.store.requests else s.store.requests ++ [.confirm d (some letter)] }
          sender := { s.sender with watch := .none }
          interp := { s.interp with comps := s.interp.comps.filter fun c => c.state != .awaiting } }))) ∧
  ∀ (s : State) (d : Station), s.recv.senderCode = some d →
    (s.recv.disposition = .recorded .received → s.recv.dests = .codes [s.straps.code] →
      (2 ≤ s.sender.replies.length → s.closeDuties = s.latch .replyLost) ∧
      (s.recv.recordStatus ≠ .opened → s.closeDuties = s.addReply (.receipt d .x)) ∧
      (∀ (r : Rec) (l : List Rec), s.recv.recordStatus = .opened → s.store.recs = l ++ [r] →
        s.closeDuties =
          s.addReply (.receipt d (if r.truncated then .t else if 0 < r.errors then .e else .k))) ∧
      (s.sender.replies.length < 2 → s.recv.recordStatus ≠ .opened →
        s.closeDuties.sender.replies = s.sender.replies ++ [.receipt d .x]) ∧
      (∀ (r : Rec) (l : List Rec), s.sender.replies.length < 2 → s.recv.recordStatus = .opened →
        s.store.recs = l ++ [r] → s.closeDuties.sender.replies = s.sender.replies ++
          [.receipt d (if r.truncated then .t else if 0 < r.errors then .e else .k)])) ∧
    (s.recv.disposition = .recorded .received → s.recv.dests ≠ .codes [s.straps.code] → s.closeDuties = s) ∧
    (s.recv.disposition = .identityQuery →
      (s.recv.contentCount = 0 → s.closeDuties = s.addReply (.ident d)) ∧
      (s.recv.contentCount = 0 → s.sender.replies.length < 2 →
        s.closeDuties.sender.replies = s.sender.replies ++ [.ident d]) ∧
      (s.recv.contentCount = 0 → 2 ≤ s.sender.replies.length → s.closeDuties = s.latch .replyLost) ∧
      (s.recv.contentCount ≠ 0 → s.closeDuties = s)) ∧
    (s.recv.disposition = .candidateReceipt →
      (∀ c l, s.recv.contentCount = 1 → s.recv.contentError = false → s.recv.firstContent = some c →
        letterOf c = some l → s.closeDuties = s.receiptHeard d l) ∧
      (∀ c, s.recv.firstContent = some c → letterOf c = none → s.closeDuties = s) ∧
      (s.recv.contentCount ≠ 1 ∨ s.recv.contentError = true → s.closeDuties = s)) ∧
    (s.recv.disposition = .undecided ∨ s.recv.disposition = .passedOver ∨ s.recv.disposition = .recorded .sent ∨
        s.recv.disposition = .recorded .ident ∨ s.recv.disposition = .recorded .overheard →
      s.closeDuties = s)

/-! ### The store -/

/-- Reading a cell after a write gives what was written there, and leaves every other cell as it was (R1). -/
def Obligations.CellReadsBackWhatWasWritten : Prop :=
  (∀ (st : Store) (a : Nat), st.cell a = (Memory.read st.cells (a % 4096)).setWidth 7) ∧
  ∀ (m : List Host.Cell) (a b : Nat) (v : BitVec 8), Memory.wf m = true →
    Memory.read (Memory.write m a v) b = if b = a then v else Memory.read m b

/-- An append to the OPEN record (R1, R8, R16): stored at W when a cell is free, counted as dropped when the record
is truncated, and truncating it when no cell can be had; with no cell free a head whose punch claim may be released
gives way first, as often as it takes (R14, R15); an error report raises its error count to 255 at most. With no
record OPEN neither changes anything (R8). The model's choices in it: log 36. -/
def Obligations.AppendStoresOrTruncates : Prop :=
  (∀ (s : State) (c : Code), (∀ r ∈ s.store.recs, r.isOpen = false) → s.append c = s ∧ s.reportError = s) ∧
  (∀ (s : State) (c : Code) (l : List Rec) (r : Rec), s.store.recs = l ++ [r] → r.isOpen = true →
    (∀ x ∈ l, x.isOpen = false) →
    (r.truncated = true → s.append c = { s with store := { s.store with
      recs := l ++ [{ r with dropped := if r.dropped < 65535 then r.dropped + 1 else 65535 }] } }) ∧
    (r.truncated = false → 0 < s.store.free → s.append c = { s with store := { s.store with
      cells := Memory.write s.store.cells (s.store.w % 4096) (c.setWidth 8)
      w := (s.store.w + 1) % 4096
      recs := l ++ [{ r with length := r.length + 1 }] } }) ∧
    (r.truncated = false → s.store.free = 0 → s.headReleasable = true → s.store.recs.length ≤ 24 →
      s.append c = s.releaseHead.append c ∧ (0 < s.releaseHead.store.free →
        ∃ l', s.releaseHead.store.recs = l' ++ [r] ∧
          s.append c = { s.releaseHead with store := { s.releaseHead.store with
          cells := Memory.write s.store.cells (s.store.w % 4096) (c.setWidth 8)
          w := (s.store.w + 1) % 4096
          recs := l' ++ [{ r with length := r.length + 1 }] } })) ∧
    (r.truncated = false → s.store.free = 0 → s.headReleasable = false →
      s.append c = ({ s with store := { s.store with
        recs := l ++ [{ r with
          truncated := true, dropped := if r.dropped < 65535 then r.dropped + 1 else 65535 }] } }).latch
            .storeFull) ∧
    s.reportError = { s with store := { s.store with
      recs := l ++ [{ r with errors := if r.errors < 255 then r.errors + 1 else 255 }] } })

/-- Reclaim removes finished records from the head and stops at the first that is not (R13); the space step before
it marks the head's punch claim skipped and latches PUNCH SKIPPED, unless the punch is RUNNING (R15). The store
opens a record when a descriptor can be had, with its start at W, releasing the head for it if it may, and refuses
it with STORE FULL otherwise (R2, R3, R4, R7, R14, R17); an OPEN LOCAL record is closed SPLIT first (R6). What is
free is what the records leave of the cells and descriptors (R1, R2). The model's choices in it: logs 36, 51. -/
def Obligations.RecordsComeAndGo : Prop :=
  (∀ (r : Rec) (st : Store),
    (r.isOpen = true ↔ r.state = .opened) ∧
    (r.reclaimable = true ↔ r.state ≠ .opened ∧ r.print.done = true ∧
      ∀ p, r.punch = some p → p.done = true ∨ p.skipped = true) ∧
    (st.blockOpen = true ↔ ∃ x ∈ st.recs, x.state = .opened ∧ x.kind ≠ .localTyping) ∧
    (st.localOpen = true ↔ ∃ x ∈ st.recs, x.state = .opened ∧ x.kind = .localTyping) ∧
    st.free = 4096 - (st.recs.map fun x => x.length).sum ∧ st.freeRecs = 24 - st.recs.length) ∧
  (∀ s : State,
    (s.headReleasable = true ↔ ∃ r l p, s.store.recs = r :: l ∧ r.state ≠ .opened ∧ r.print.done = true ∧
      r.punch = some p ∧ p.done = false ∧ p.skipped = false ∧ s.punch.state ≠ .running) ∧
    (s.store.localOpen = false → s.splitLocal = s)) ∧
  (∀ st : Store, ∃ n, st.reclaim.recs = st.recs.drop n ∧
    (∀ r ∈ st.recs.take n, r.isOpen = false ∧ r.print.done = true ∧
      ∀ p, r.punch = some p → p.done = true ∨ p.skipped = true) ∧
    (∀ r, st.reclaim.recs.head? = some r → r.isOpen = true ∨ r.print.done = false ∨
      ∃ p, r.punch = some p ∧ p.done = false ∧ p.skipped = false) ∧
    st.reclaim.cells = st.cells ∧ st.reclaim.w = st.w ∧ st.reclaim.requests = st.requests) ∧
  (∀ (s : State) (r : Rec) (l : List Rec) (p : PunchClaim), s.store.recs = r :: l → r.isOpen = false →
    r.print.done = true → r.punch = some p → p.done = false → p.skipped = false →
    (s.headReleasable = true ↔ s.punch.state ≠ .running) ∧
    s.releaseHead = { s.latch .punchSkipped with
      store := { s.store with recs := l.dropWhile Rec.reclaimable }
      punch := { s.punch with leader := 0 } }) ∧
  (∀ (s : State) (k : RecKind) (peer : Option Station),
    (s.store.recs.length < 24 → s.openRecord k peer = ({ s with store := { s.store with
      recs := s.store.recs ++ [{
        kind := k, peer := peer, start := s.store.w, length := 0, state := .opened, errors := 0
        truncated := false, dropped := 0, print := { pos := 0, done := false }
        punch := if (k = .received ∧ s.straps.punchsel ≠ 0#2) ∨
            (k = .sent ∧ (s.straps.punchsel = 2#2 ∨ s.straps.punchsel = 3#2)) ∨
            (k = .localTyping ∧ s.straps.punchsel = 3#2)
          then some { pos := 0, done := false, skipped := false } else none }] } }, true)) ∧
    (s.store.recs.length = 24 → s.headReleasable = true →
      s.releaseHead.store.recs.length < 24 ∧ s.openRecord k peer = s.releaseHead.openRecord k peer) ∧
    (s.store.recs.length = 24 → s.headReleasable = false →
      s.openRecord k peer = (s.latch .storeFull, false)) ∧
    (∀ (l : List Rec) (r : Rec), s.store.recs = l ++ [r] → r.isOpen = true → r.kind = .localTyping →
      (∀ x ∈ l, x.isOpen = false) →
      s.splitLocal.store.recs =
        (l ++ [{ r with state := .closed .split }]).dropWhile Rec.reclaimable ∧
      s.splitLocal.interp.localOpen = false ∧
      s.splitLocal = { s.closeRecord .split with interp := { s.interp with localOpen := false } }))

/-! ### Sending -/

/-- The block a source is sent as (R24, R72, R91): CALL, the destinations, FROM and the own code, then its kind, its
content and OVER. -/
def Obligations.BlockIsBuilt : Prop :=
  (∀ c : Comp, c.codes = c.text.flatMap fun
    | .char x => [x]
    | .lineEnd => [0x0D#7, 0x0A#7]) ∧
  ∀ (s : State) (header : Dests → List Code),
    (∀ l, header (.codes l) = [0x01#7] ++ l.map (fun d => BitVec.ofNat 7 (0x40 + d.toNat)) ++
      [0x02#7, BitVec.ofNat 7 (0x40 + s.straps.code.toNat)]) →
    header .all = [0x01#7, 0x2A#7, 0x02#7, BitVec.ofNat 7 (0x40 + s.straps.code.toNat)] →
    (∀ d letter rest, s.sender.source = .reply → s.sender.replies = .receipt d letter :: rest →
      s.buildBlock = some (header (.codes [d]), header (.codes [d]) ++ [0x0E#7, letter.code, 0x04#7])) ∧
    (∀ d rest, s.sender.source = .reply → s.sender.replies = .ident d :: rest →
      s.buildBlock = some (header (.codes [d]),
        header (.codes [d]) ++ [0x06#7] ++ s.identityText ++ [s.statusChar, 0x04#7])) ∧
    (∀ n c, s.sender.source = .comp n → s.interp.comps.find? (fun x => x.serial == n) = some c →
      (c.kind = .message →
        s.buildBlock = some (header c.dests, header c.dests ++ [0x03#7] ++ c.codes ++ [0x04#7])) ∧
      (c.kind = .query → s.buildBlock = some (header c.dests, header c.dests ++ [0x05#7, 0x04#7])) ∧
      (c.kind = .here → s.buildBlock = some (header .all,
        header .all ++ [0x06#7] ++ s.identityText ++ [s.statusChar, 0x04#7])))

/-- A deferral completes on a QUIET line when the quiet time reaches the span (R66), and START is then ordered. It
is taken at the next sample instant, counted from the one at which the line became QUIET (R35): the transmitter
begins CALL there and the Sender is SENDING (R69, R72); a space in that sample refuses the start (R70), and leaves
the Sender without a span and the line QUIET until an edge is reported (log 32); an IDENT block waits for a WRITING
identity memory, and no other does (R71). The model's choices in it: logs 2, 5, 30, 32, 37. -/
def Obligations.DeferralCompletes : Prop :=
  (∀ (s : State) (at' k : Nat), s.line.quietSince ≤ s.now → at' = s.line.quietSince + s.samples k →
    s.now < at' → at' ≤ s.now + s.samples 1 →
    s.orderStart false = { s with
      now := at', sender := { s.sender with span := none, spanReached := false } } ∧
    (∀ header block, s.buildBlock = some (header, block) →
      s.orderStart true = { s with
        now := at'
        line := { s.line with tx := .shifting 0x01#7 at' }
        sender := { s.sender with
          state := .sending, span := none, spanReached := false, block := block, position := 1
          headerLength := header.length
          courtesy := if s.sender.source = .reply then s.sender.courtesy else false }
        interp := { s.interp with comps := s.interp.comps.map fun c =>
          if s.sender.source = .comp c.serial then { c with state := .sending } else c } })) ∧
  (∀ s : State, s.sourceIsIdent = true ↔
    (s.sender.source = .reply ∧ ∃ d, s.sender.replies.head? = some (.ident d)) ∨
    (∃ n, s.sender.source = .comp n ∧ ∃ c ∈ s.interp.comps, c.serial = n ∧ c.kind = .here)) ∧
  ∀ (s u : State) (n : Nat) (lastMark : Bool), s.powered = true → s.sender.span = some n →
    s.sender.state = .deferring → s.line.condition = .quiet →
    u = s.reach (s.line.quietSince + s.charTimes n) →
    (s.sourceIsIdent = true → s.answer.cycle ≠ .idle →
      ∃ t, exec (.deferralComplete lastMark) s = .next t ∧
        FollowUp { u with sender := { s.sender with spanReached := true } } t) ∧
    (s.sourceIsIdent = false ∨ s.answer.cycle = .idle →
      ∃ t, exec (.deferralComplete lastMark) s = .next t ∧ FollowUp (u.orderStart lastMark) t ∧
        (∀ at' k, at' = s.line.quietSince + s.samples k → u.now < at' → at' ≤ u.now + s.samples 1 →
          t.now = at' ∧
          (lastMark = false → t.line = s.line ∧
            t.sender = { s.sender with span := none, spanReached := false }) ∧
          (∀ header block, lastMark = true → s.buildBlock = some (header, block) →
            t.line = { s.line with tx := .shifting 0x01#7 at' } ∧ t.sender.state = .sending ∧
            t.sender.block = block ∧ t.sender.position = 1 ∧ t.sender.headerLength = header.length)))

/-- The end of a stop element (R35, R73): the next character begins at that instant, or the block has ended; then a
reply leaves the queue, a single-destination MESSAGE sets the watch 30 Tc ahead and becomes AWAITING, and any other
composition is removed (R79); an abandoned block's is gone already (R76). The Sender leaves SENDING and chooses its
next source (R62, R64, R73): none while STARTING or without work, else the head reply, else the oldest READY
composition, with its span on a QUIET line (R66, R67). The line-drive output is space while HOLDING and, while
SHIFTING, in the elements the character sends as space (R34, R35, R37). The model's choices in it: logs 2, 5. -/
def Obligations.CharacterIsSent : Prop :=
  (∀ s : State,
    (s.diag.starting = true ∨ (s.sender.replies = [] ∧ (s.maySendComp = false ∨ s.interp.oldestReady = none)) →
      s.chooseNext = { s with sender := { s.sender with
        state := .idle, source := .none, span := none, spanReached := false } }) ∧
    (s.diag.starting = false → s.sender.replies ≠ [] →
      (s.line.condition = .quiet → s.chooseNext = { s with sender := { s.sender with
        state := .deferring, source := .reply, span := some 1, draw := 0, spanReached := false } }) ∧
      (s.line.condition ≠ .quiet → s.chooseNext = { s with sender := { s.sender with
        state := .deferring, source := .reply, span := none, spanReached := false } })) ∧
    (∀ (x : Comp) (d : Nat), s.diag.starting = false → s.sender.replies = [] → s.maySendComp = true →
      s.interp.oldestReady = some x →
      d = s.sender.generator.toNat % 2 ^ (3 - s.interp.yieldsOf x.serial) →
      (s.line.condition = .quiet → s.chooseNext = { s with sender := { s.sender with
        state := .deferring, source := .comp x.serial, draw := d, spanReached := false
        span := some (3 + d + if s.sender.courtesy then 4 else 0) } }) ∧
      (s.line.condition ≠ .quiet → s.chooseNext = { s with sender := { s.sender with
        state := .deferring, source := .comp x.serial, span := none, spanReached := false } })) ∧
    s.workAppears = if s.sender.state = .idle then s.chooseNext else s) ∧
  (∀ s : State, s.drivingLine = true ↔ s.powered = true ∧ ((∃ due, s.line.tx = .holding due) ∨
    ∃ c since, s.line.tx = .shifting c since ∧
      sentMark c ((s.now - since) / (16 * sampleTicks s.straps.speed)) = false)) ∧
  ∀ (s : State) (c : Code) (since : Nat), s.powered = true → s.line.tx = .shifting c since →
    (∀ next, s.sender.block[s.sender.position]? = some next →
      exec .characterSent s = .next { s.reach (since + s.charTimes 1) with
        line := { s.line with tx := .shifting next (since + s.charTimes 1) }
        sender := { s.sender with position := s.sender.position + 1 } }) ∧
    (s.sender.block[s.sender.position]? = none → ∃ t, exec .characterSent s = .next t ∧
      t.line.tx = .idle ∧ t.sender.block = [] ∧ t.sender.abandoning = false ∧
      t.sender.courtesy = (if s.sender.source = .reply then s.sender.courtesy else true) ∧
      (s.sender.source = .reply → t.sender.replies = s.sender.replies.tail ∧ t.interp = s.interp) ∧
      (∀ x d, s.sender.source ≠ .reply → s.interp.comps.find? (fun y => y.state == .sending) = some x →
        x.kind = .message → x.dests = .codes [d] →
        t.sender.watch = .waiting d (since + s.charTimes 1 + s.charTimes 30) x.serial ∧
        t.interp.comps = s.interp.comps.map fun y =>
          if y.state = .sending then { y with state := .awaiting } else y) ∧
      (∀ x, s.sender.source ≠ .reply → s.interp.comps.find? (fun y => y.state == .sending) = some x →
        x.kind ≠ .message ∨ (∀ d, x.dests ≠ .codes [d]) →
        t.sender.watch = s.sender.watch ∧
        t.interp.comps = s.interp.comps.filter fun y => y.state != .sending) ∧
      ∀ u : State, u = { s.reach (since + s.charTimes 1) with
          line := { s.line with tx := .idle }
          sender := { s.sender with
            block := [], position := 0, headerLength := 0, abandoning := false
            courtesy := if s.sender.source = .reply then s.sender.courtesy else true } } →
        (s.sender.source = .reply →
          FollowUp ({ u with sender := { u.sender with replies := s.sender.replies.tail } }.chooseNext) t) ∧
        (s.sender.source ≠ .reply →
          (∀ x, s.interp.comps.find? (fun y => y.state == .sending) = some x →
            (∀ d, x.kind = .message → x.dests = .codes [d] → FollowUp (State.chooseNext { u with
              sender := { u.sender with
                watch := .waiting d (since + s.charTimes 1 + s.charTimes 30) x.serial }
              interp := { s.interp with comps := s.interp.comps.map fun y =>
                if y.state = .sending then { y with state := .awaiting } else y } }) t) ∧
            (x.kind ≠ .message ∨ (∀ d, x.dests ≠ .codes [d]) → FollowUp (State.chooseNext { u with interp := { s.interp with
              comps := s.interp.comps.filter fun y => y.state != .sending } }) t)) ∧
          ((∀ y ∈ s.interp.comps, y.state ≠ .sending) → FollowUp u.chooseNext t)))

/-- A sent mark read back as space ends the sending (R36). Within the header, the block not abandoned, it is a
yield: the same source is deferred for again, a composition READY with its yield count raised (R74). Otherwise the
block is broken: a composition is HELD, a reply discarded, the courtesy mark set for a composition, and the Sender
chooses its next source (R75, R76). Each is at the decision of the element (R36), taken at its sample 9 (log 18).
The model's choices in it: logs 2, 5, 18. -/
def Obligations.MismatchYieldsOrBreaks : Prop :=
  (∀ s : State, s.cutBlock = { s with
    sender := { s.sender with
      source := .none, block := [], position := 0, headerLength := 0, abandoning := false
      courtesy := if s.sender.source = .reply then s.sender.courtesy else true
      replies := if s.sender.source = .reply then s.sender.replies.tail else s.sender.replies }
    interp := { s.interp with comps := s.interp.comps.map fun x =>
      if x.state = .sending then { x with state := .held } else x } }) ∧
  ∀ (s : State) (c : Code) (since e : Nat), s.powered = true → s.line.tx = .shifting c since →
    1 ≤ e → e ≤ 9 → sentMark c e = true →
    (s.sender.abandoning = false → s.sender.position ≤ s.sender.headerLength →
      ∃ t, exec (.mismatch e) s = .next t ∧ t.line = { s.line with tx := .idle } ∧
        t.sender.state = .deferring ∧ t.sender.source = s.sender.source ∧
        t.sender.replies = s.sender.replies ∧ t.sender.courtesy = s.sender.courtesy ∧
        t.sender.block = [] ∧ t.sender.position = 0 ∧ t.sender.headerLength = 0 ∧
        t.diag.latched = s.diag.latched ∧
        t.interp.comps = s.interp.comps.map (fun x =>
          if x.state = .sending then
            { x with state := .ready, yields := if x.yields < 3 then x.yields + 1 else 3 } else x) ∧
        (s.sender.source ≠ .reply → t.answer.power = .active) ∧
        (s.line.condition ≠ .quiet → FollowUp { s.reach (since + s.samples (16 * e + 9)) with
          line := { s.line with tx := .idle }
          sender := { s.sender with
            state := .deferring, span := none, spanReached := false
            block := [], position := 0, headerLength := 0, abandoning := false }
          interp := { s.interp with comps := t.interp.comps } } t)) ∧
    (s.sender.abandoning = true ∨ s.sender.headerLength < s.sender.position →
      ∃ t, exec (.mismatch e) s = .next t ∧ t.line = { s.line with tx := .idle } ∧
        (t.sender.state = .idle ∨ t.sender.state = .deferring) ∧ t.sender.abandoning = false ∧
        t.sender.courtesy = (if s.sender.source = .reply then s.sender.courtesy else true) ∧
        t.sender.replies = (if s.sender.source = .reply then s.sender.replies.tail else s.sender.replies) ∧
        t.interp.comps = s.interp.comps.map (fun x =>
          if x.state = .sending then { x with state := .held } else x) ∧
        FollowUp ({ s.reach (since + s.samples (16 * e + 9)) with
          line := { s.line with tx := .idle } }.cutBlock.chooseNext) t)

/-- The end of a hold leaves the transmitter IDLE and the Sender chooses its source (R37, R77); the watch's deadline
settles it with NONE: a stroke of the bell, the CONFIRM request, the composition removed (R80, R81). The model's
choices in it: logs 2, 5. -/
def Obligations.HoldAndWatchEnd : Prop :=
  ∀ s : State, s.powered = true →
    (∀ due, s.line.tx = .holding due → ∃ t, exec .holdEnded s = .next t ∧
      FollowUp ({ s.reach due with line := { s.line with tx := .idle } }.chooseNext) t) ∧
    (∀ d deadline serial, s.sender.watch = .waiting d deadline serial →
      ∃ t, exec .receiptWatchDeadline s = .next t ∧ t.sender.watch = .none ∧ s.bells < t.bells ∧
        t.now = max s.now deadline ∧
        t.interp.comps = s.interp.comps.filter (fun c => c.state != .awaiting) ∧
        t.store.requests = (if ∃ r ∈ s.store.requests, r ≠ .status then s.store.requests
          else s.store.requests ++ [.confirm d none]) ∧
        ∀ busy, (busy = true ↔ ∃ r ∈ s.store.requests, r ≠ .status) →
          FollowUp (State.workAppears { s.reach deadline with
            bells := s.bells + 1 + (if busy = true then 1 else 0)
            store := { s.store with requests := t.store.requests }
            sender := { s.sender with watch := .none }
            interp := { s.interp with comps := s.interp.comps.filter fun c => c.state != .awaiting } }) t)

/-! ### Records made for others -/

/-- The oldest pending request is taken once no block record is OPEN (R11), an OPEN LOCAL record closed SPLIT before
it (R6). A CONFIRM of the text R81 gives is written; one that finds no room latches STORE FULL with a stroke of the
bell (R11). With room the record is written whole, CLOSED COMPLETE, its characters in the cells from W on and no
other cell changed (R1, R11); without, a head whose punch claim may be released gives way first (R14, R15). The
model's choices in it: logs 4, 5. -/
def Obligations.GeneratedRecordIsTaken : Prop :=
  (∀ (s : State) (rest : List GenRequest) (u : State), s.powered = true → s.store.blockOpen = false →
    u = { s with store := { s.store with requests := rest } }.splitLocal →
    (∀ d letter v, s.store.requests = .confirm d letter :: rest →
      (u.writeGenerated .confirm (confirmText d letter) = (v, true) →
        ∃ t, exec .generatedRecordTaken s = .next t ∧ FollowUp v t) ∧
      (u.writeGenerated .confirm (confirmText d letter) = (v, false) →
        ∃ t, exec .generatedRecordTaken s = .next t ∧ FollowUp (v.latch .storeFull).bell t ∧
          s.bells < t.bells ∧ Event.storeFull ∈ t.diag.latched)) ∧
    (s.store.requests = .status :: rest → ∃ t, exec .generatedRecordTaken s = .next t ∧
      t.diag.request = .none ∧ FollowUp u.takeStatus t)) ∧
  (∀ d : Station,
    confirmText d none = [BitVec.ofNat 7 (0x30 + d.toNat / 10), BitVec.ofNat 7 (0x30 + d.toNat % 10), 0x20#7,
      0x52#7, 0x45#7, 0x43#7, 0x45#7, 0x49#7, 0x50#7, 0x54#7, 0x20#7, 0x4E#7, 0x4F#7, 0x4E#7, 0x45#7] ∧
    ∀ l : Letter, confirmText d (some l) = [BitVec.ofNat 7 (0x30 + d.toNat / 10),
      BitVec.ofNat 7 (0x30 + d.toNat % 10), 0x20#7, 0x52#7, 0x45#7, 0x43#7, 0x45#7, 0x49#7, 0x50#7, 0x54#7, 0x20#7,
      match l with
      | .k => 0x4B#7
      | .t => 0x54#7
      | .e => 0x45#7
      | .x => 0x58#7]) ∧
  (∀ (s : State) (k : RecKind) (text : List Code), s.store.recs.length < 24 → text.length ≤ s.store.free →
    k = .confirm ∨ k = .status →
    (s.writeGenerated k text).2 = true ∧
    (s.writeGenerated k text).1 = { s with store := (s.writeGenerated k text).1.store } ∧
    (s.writeGenerated k text).1.store.requests = s.store.requests ∧
    (s.writeGenerated k text).1.store.recs = (s.store.recs ++ [({
      kind := k, peer := none, start := s.store.w, length := text.length, state := .closed .complete, errors := 0
      truncated := false, dropped := 0, print := { pos := 0, done := false }, punch := none } : Rec)]).dropWhile
        Rec.reclaimable ∧
    (s.store.w < 4096 → (s.writeGenerated k text).1.store.w = (s.store.w + text.length) % 4096) ∧
    (s.memoryCanonical →
      (∀ i c, text[i]? = some c → (s.writeGenerated k text).1.store.cell (s.store.w + i) = c) ∧
      (∀ a, (∀ i, i < text.length → a ≠ (s.store.w + i) % 4096) →
        Memory.read (s.writeGenerated k text).1.store.cells a = Memory.read s.store.cells a))) ∧
  (∀ (s : State) (k : RecKind) (text : List Code), s.store.recs.length = 24 ∨ s.store.free < text.length →
    (s.headReleasable = false → s.writeGenerated k text = (s, false)) ∧
    (s.headReleasable = true → s.store.recs.length ≤ 24 →
      s.writeGenerated k text = s.releaseHead.writeGenerated k text))

/-- The four lines of a report, each ended by CR LF, formed from the state at the snapshot (R203): its line of
events in the order of R200, its 17 code letters (R193) and its error total, 80 cells with no event and 252 with all
18. What a written report clears and a refused one keeps (R204): each captured event not latched again, the captured
errors, the codes become the sweep's findings; a refusal clears nothing, adds no record and rings the bell. Nothing
but the record written, or the space steps tried for it, changes beside (R11). -/
def Obligations.ReportClearsWhatItCaptured : Prop :=
  (∀ (s : State) (digit : Nat → Code) (names : List (Event × String)),
    digit = (fun n => BitVec.ofNat 7 (0x30 + n % 10)) →
    names = [(.power, "POWER"), (.restart, "RESTART"), (.lineLost, "LINE LOST"), (.breakHeard, "BREAK HEARD"),
      (.duplicateCode, "DUPLICATE CODE"), (.storeFull, "STORE FULL"), (.punchSkipped, "PUNCH SKIPPED"),
      (.replyLost, "REPLY LOST"), (.keyOverrun, "KEY OVERRUN"), (.stuckKey, "STUCK KEY"), (.warm, "WARM"),
      (.hot, "HOT"), (.paperOut, "PAPER OUT"), (.tapeOut, "TAPE OUT"), (.jam, "JAM"), (.supplyLow, "SUPPLY LOW"),
      (.selfCheck, "SELF-CHECK"), (.identityLost, "IDENTITY LOST")] →
    s.statusText =
      textOf "STATION " ++ [digit (s.straps.code.toNat / 10), digit s.straps.code.toNat] ++
      textOf " MODE " ++ textOf (if s.answer.attend = .attended then "A" else "U") ++
      textOf " FREE " ++ [digit (s.store.free / 1000), digit (s.store.free / 100), digit (s.store.free / 10),
        digit s.store.free] ++
      textOf " CELLS " ++ [digit (s.store.freeRecs / 10), digit s.store.freeRecs] ++ textOf " RECS" ++
      [0x0D#7, 0x0A#7] ++
      (if ∀ x ∈ names, x.1 ∉ s.diag.latched then textOf "NONE"
        else List.intercalate [0x20#7] ((names.filter fun x => x.1 ∈ s.diag.latched).map fun x => textOf x.2)) ++
      [0x0D#7, 0x0A#7] ++
      s.diag.codes.map (fun
        | .overcurrent => 0x58#7
        | .shorted => 0x53#7
        | .opened => 0x4F#7
        | .passed => 0x47#7
        | .notTested => 0x2D#7) ++ [0x0D#7, 0x0A#7] ++
      textOf "ERRORS " ++ [digit (s.diag.errorTotal / 100), digit (s.diag.errorTotal / 10),
        digit s.diag.errorTotal] ++ [0x0D#7, 0x0A#7] ∧
    (s.diag.codes.length = 17 →
      (s.diag.latched = [] → s.statusText.length = 80) ∧
      ((∀ e, e ∈ s.diag.latched) → s.statusText.length = 252))) ∧
  ∀ (s : State) (u : State), u = { s with diag := { s.diag with again := [] } } →
    ((u.writeGenerated .status s.statusText).2 = true →
      (∀ e, e ∈ s.takeStatus.diag.latched ↔
        e ∈ (u.writeGenerated .status s.statusText).1.diag.latched ∧
          (e ∉ s.diag.latched ∨ e ∈ (u.writeGenerated .status s.statusText).1.diag.again)) ∧
      s.takeStatus.diag.errorTotal = 0 ∧
      s.takeStatus.diag.codes = s.diag.findings.map (fun f => match f with
        | some .passed => .passed
        | some .opened => .opened
        | some .shorted => .shorted
        | none => .notTested) ∧
      s.takeStatus.diag.request = .none ∧ s.takeStatus.bells = s.bells ∧
      s.takeStatus.diag.findings = List.replicate 17 none ∧
      s.takeStatus.store = (u.writeGenerated .status s.statusText).1.store ∧
      s.takeStatus = { (u.writeGenerated .status s.statusText).1 with diag := s.takeStatus.diag }) ∧
    ((u.writeGenerated .status s.statusText).2 = false →
      (∀ e, e ∈ s.diag.latched → e ∈ s.takeStatus.diag.latched) ∧
      s.takeStatus.diag.errorTotal = s.diag.errorTotal ∧ s.takeStatus.diag.codes = s.diag.codes ∧
      s.takeStatus.diag.request = .none ∧ s.takeStatus.bells = s.bells + 1 ∧
      s.takeStatus.diag.findings = List.replicate 17 none ∧
      (∃ n, s.takeStatus.store = { s.store with recs := s.store.recs.drop n }) ∧
      s.takeStatus = { (u.writeGenerated .status s.statusText).1 with
        diag := s.takeStatus.diag, bells := s.bells + 1 })

/-- The held event is tried again once no block record is OPEN (R140), and a local request is taken as R139 says:
appended to the OPEN LOCAL record, held on BUSY, opening a record, a head whose punch claim may be released giving
its descriptor when none is free (R15), or dropped with the refusal bell. The model's choices in it: logs 4, 5. -/
def Obligations.LocalRequestIsTaken : Prop :=
  (∀ (s : State) (p : Press) (cs : List Code), s.powered = true → s.interp.held = some (p, cs) →
    s.store.blockOpen = false → ∃ t, exec .heldEventRetry s = .next t ∧
      FollowUp ({ s with interp := { s.interp with held := none } }.localRequest p cs) t) ∧
  (∀ (s : State) (p : Press) (cs : List Code),
    (s.interp.localOpen = true → s.localRequest p cs = cs.foldl State.append s) ∧
    (s.interp.localOpen = false → s.store.blockOpen = true →
      s.localRequest p cs = { s with interp := { s.interp with held := some (p, cs) } }) ∧
    (s.interp.localOpen = false → s.store.blockOpen = false → s.store.recs.length < 24 →
      s.localRequest p cs = cs.foldl State.append { (s.openRecord .localTyping none).1 with
        interp := { s.interp with localOpen := true } }) ∧
    (s.interp.localOpen = false → s.store.blockOpen = false → s.store.recs.length = 24 →
      (s.headReleasable = false → s.localRequest p cs = (s.latch .storeFull).bell) ∧
      (s.headReleasable = true → s.localRequest p cs = cs.foldl State.append
        { (s.releaseHead.openRecord .localTyping none).1 with
          interp := { s.interp with localOpen := true } } ∧
        (s.releaseHead.openRecord .localTyping none).2 = true)))

/-! ### Keys -/

/-- The thresholds of a key (R107), and their bounds over every baseline. -/
def Obligations.KeyThresholds : Prop :=
  (∀ p level : Nat, isKeyPosition p = true →
    pressThreshold p level = max 24 (level * (if p = 48 ∨ p = 63 then 40
      else if p < 48 ∨ p = 56 ∨ p = 57 ∨ p = 58 ∨ p = 59 then 20 else 28) / 256) ∧
    releaseThreshold p level = pressThreshold p level - pressThreshold p level / 4 ∧
    releaseThreshold p level < pressThreshold p level ∧
    (level ≤ 4095 → pressThreshold p level ≤ 639 ∧ releaseThreshold p level ≤ 480))

/-- The key state machine (R108, R109): a key enters PRESSED at its third scan at or above T and leaves it at its
second scan below the release threshold. A half is free while every key of it is IDLE (R101, R110). A key's baseline
(R110, R111) moves only while the key is IDLE in a free half, up by a sixty-fourth of the gap and down by an eighth,
or is reseeded at an excursion count of 8; a reference pad's moves at every scan, by a sixty-fourth either way
(R105). A scan moves the key state by the thresholds of the visible baseline before it and counts, to 8, the scans
of an IDLE key at or below -T (R111); a key held 24 s, PRESSED or LEAVING 24000 ms after it entered PRESSED, is
released by force there instead (R112). The model's choices in it: log 14. -/
def Obligations.KeyStatesAndBaselinesMove : Prop :=
  (∀ (r : KeyRec) (now : Nat),
    (r.down = true ↔ r.state = .pressed ∨ r.state = .leaving) ∧
    (r.stuckOver now = true ↔ ∃ t, r.stuckSince = some t ∧ t + 24000 * 264 ≤ now)) ∧
  (∀ p, isKeyPosition p = true ↔ p < 64 ∧ p ≠ 0 ∧ p ≠ 7) ∧
  (∀ (l : List KeyRec) (p : Nat) (r : KeyRec), l[p]? = some r → keyAt l p = r) ∧
  (∀ (l : List KeyRec) (p : Nat), halfFree l (isLeft p) = true ↔
    ∀ q, q < 64 → isKeyPosition q = true → (q % 8 < 4 ↔ p % 8 < 4) → (keyAt l q).state = .idle) ∧
  (∀ (r : KeyRec) (now : Nat) (dc t release : Int),
    (r.state = .idle → r.takeState now dc t release =
      if t ≤ dc then { r with state := .entering, debounce := 1 } else { r with debounce := 0 }) ∧
    (r.state = .entering → dc < t → r.takeState now dc t release = { r with state := .idle, debounce := 0 }) ∧
    (r.state = .entering → t ≤ dc → r.debounce = 1 →
      r.takeState now dc t release = { r with debounce := 2 }) ∧
    (r.state = .entering → t ≤ dc → r.debounce = 2 →
      r.takeState now dc t release =
        { r with state := .pressed, debounce := 3, stuckSince := some now }) ∧
    (r.state = .pressed → r.takeState now dc t release =
      if dc < release then { r with state := .leaving, debounce := 1 } else { r with debounce := 0 }) ∧
    (r.state = .leaving → r.takeState now dc t release =
      if dc < release then { r with state := .idle, debounce := 0, stuckSince := none }
      else { r with state := .pressed, debounce := 0 })) ∧
  (∀ (l : List KeyRec) (p : Nat) (r : KeyRec), p < 64 → r = keyAt l p → r.f ≤ 4095 → r.l16 ≤ 65520 →
    (isKeyPosition p = true → (r.state ≠ .idle ∨ halfFree l (isLeft p) = false) →
      keyAt (bringForward l) p = r) ∧
    (isKeyPosition p = true → r.state = .idle → halfFree l (isLeft p) = true →
      (r.excursion = 8 → keyAt (bringForward l) p = { r with l16 := 16 * r.f, excursion := 0 }) ∧
      (r.excursion ≠ 8 → r.l16 ≤ 16 * r.f →
        keyAt (bringForward l) p = { r with l16 := r.l16 + (16 * r.f - r.l16) / 64 }) ∧
      (r.excursion ≠ 8 → 16 * r.f < r.l16 →
        keyAt (bringForward l) p = { r with l16 := r.l16 - (r.l16 - 16 * r.f) / 8 })) ∧
    (p = 0 ∨ p = 7 → keyAt (bringForward l) p = { r with l16 :=
      if r.l16 ≤ 16 * r.f then r.l16 + (16 * r.f - r.l16) / 64 else r.l16 - (r.l16 - 16 * r.f) / 64 })) ∧
  (∀ (r : KeyRec) (now p f : Nat) (corr dc : Int), r.down = false ∨ r.stuckOver now = false →
    dc = max (-4095) (min 4095 ((f : Int) - (r.l16 / 16 : Nat) - corr)) →
    ∀ x, x = r.takeState now dc (pressThreshold p (r.l16 / 16)) (releaseThreshold p (r.l16 / 16)) →
      r.sense now p f corr = { x with
        f := f
        excursion := if x.state = .idle ∧ dc ≤ -(pressThreshold p (r.l16 / 16) : Int)
          then (if r.excursion < 8 then r.excursion + 1 else 8) else 0 }) ∧
  (∀ (r : KeyRec) (now p f : Nat) (corr : Int), r.down = true → r.stuckOver now = true →
    r.sense now p f corr =
      { f := f, l16 := 16 * f, state := .idle, debounce := 0, excursion := 0, stuckSince := none })

/-- A scan (R103): every record sensed and brought forward, the press events added in order of position up to 16 in
the queue (R115), and the generator stepped once (R68). An event is made for each key that goes from ENTERING to
PRESSED and for the repeat key, with the SHIFT and CTRL marks of the states reached (R113), and sets the attend mode
and restarts the attend timer and the rest measure (R93, R96). A key that enters ENTERING wakes the station (R118),
and one released by force latches STUCK KEY (R112). Sensing filters each count to half the sum with the F before
(R102), and corrects each key by 192/256 of its half's reference pad's delta (R104, R105, R106). The repeat
condition is one character key PRESSED with REPEAT; its measure runs while it holds for that key and fires at 100 ms
(R114). Seeding (R119): the first scan sets every F to its count, the next ones filter, and the 16th sets every
baseline to 16·F and is reported; no key state is taken. A list that does not hold 64 counts is no scan (log 3). The
model's choices in it: logs 2, 3, 4, 5, 12, 14, 45, 46. -/
def Obligations.ScansAreTaken : Prop :=
  (∀ (l : List KeyRec) (now p : Nat) (counts : List Nat) (f : Nat → Nat) (corr : Nat → Int), p < 64 →
    (∀ q, f q = ((keyAt l q).f + min (counts.getD q 0) 4095) / 2) →
    (∀ q, corr q = (((f q : Int) - ((keyAt l q).l16 / 16 : Nat)) * 192).tdiv 256) →
    (p = 0 ∨ p = 7 → keyAt (senseAll l now counts) p = { keyAt l p with f := f p }) ∧
    (p ≠ 0 → p ≠ 7 → keyAt (senseAll l now counts) p =
      (keyAt l p).sense now p (f p) (if p % 8 < 4 then corr 0 else corr 7))) ∧
  (∀ (l : List KeyRec) (p : Nat), repeatKey l = some p ↔
    (keyAt l 62).state = .pressed ∧ isCharacterKey p = true ∧ (keyAt l p).state = .pressed ∧
      ∀ q, isCharacterKey q = true → (keyAt l q).state = .pressed → q = p) ∧
  (∀ (measure : Option (Nat × Nat)) (now p : Nat),
    (repeatDue measure (some p) now = true ↔ ∃ since, measure = some (p, since) ∧ since + 26400 ≤ now) ∧
    repeatDue measure none now = false ∧ nextRepeat measure none now = none ∧
    (∀ since, measure = some (p, since) → now < since + 26400 →
      nextRepeat measure (some p) now = some (p, since)) ∧
    ((∀ since, measure = some (p, since) → since + 26400 ≤ now) →
      nextRepeat measure (some p) now = some (p, now))) ∧
  (∀ (before after : List KeyRec) (repeating : Option Nat), (∀ p, repeating = some p → p < 64) →
    (∀ e, e ∈ scanEvents before after repeating ↔
      (e.shift = true ↔ (keyAt after 56).state = .pressed) ∧
      (e.ctrl = true ↔ (keyAt after 57).state = .pressed) ∧
      (e.repeated = false → isKeyPosition e.position = true ∧ (keyAt before e.position).state = .entering ∧
        (keyAt after e.position).state = .pressed) ∧
      (e.repeated = true → repeating = some e.position)) ∧
    (scanEvents before after repeating).Pairwise fun a b =>
      a.position < b.position ∨ (a.position = b.position ∧ a.repeated = false ∧ b.repeated = true)) ∧
  (∀ s : State, s.checkStarting = if s.diag.starting = true ∧ s.driversHeld = false ∧ s.keys.seeding = 16
    then { s with diag := { s.diag with starting := false } }.workAppears else s) ∧
  (∀ (counts : List Nat) (s : State), counts.length ≠ 64 → exec (.keyScan counts) s = .next s ∧
    exec (.seedingScan counts) s = .next s ∧ exec (.seeded counts) s = .next s) ∧
  (∀ (counts : List Nat) (s : State) (at' : Nat) (sensed : List KeyRec) (events : List Press),
    s.powered = true → counts.length = 64 → s.keys.seeding = 16 → s.interp.queue.length ≤ 16 →
    at' = max s.now (s.keys.lastScan + (match s.answer.power with
      | .active => 2640
      | .quiet => 7920
      | .dormant => 31680)) →
    sensed = senseAll s.keys.recs at' counts →
    events = scanEvents s.keys.recs sensed
      (if repeatDue s.keys.repeatMeasure (repeatKey sensed) at' then repeatKey sensed else none) →
    ∃ t, exec (.keyScan counts) s = .next t ∧ t.now = at' ∧
      t.keys.recs = bringForward sensed ∧ t.keys.lastScan = at' ∧
      t.keys.repeatMeasure = nextRepeat s.keys.repeatMeasure (repeatKey sensed) at' ∧
      t.interp = { s.interp with queue := (s.interp.queue ++ events).take 16 } ∧
      t.sender = { s.sender with generator := generatorStep s.sender.generator } ∧
      (∀ e, e ∈ t.diag.latched ↔ e ∈ s.diag.latched ∨
        (e = .keyOverrun ∧ 16 < s.interp.queue.length + events.length) ∨
        (e = .stuckKey ∧ ∃ p, isKeyPosition p = true ∧ (keyAt s.keys.recs p).down = true ∧
          (keyAt s.keys.recs p).stuckOver at' = true)) ∧
      t.answer.attend = (if ∃ e ∈ events, e.position ≠ 54 then .attended else s.answer.attend) ∧
      t.answer.attendSince = (if events = [] then s.answer.attendSince else at') ∧
      (events ≠ [] → t.answer.power = .active ∧
        t.answer.rest = if t.restCondition = true then some at' else none) ∧
      ((∃ p, isKeyPosition p = true ∧ (keyAt s.keys.recs p).state = .idle ∧
        (keyAt sensed p).state = .entering) → t.answer.power = .active) ∧
      t.line = s.line ∧ t.recv = s.recv ∧ t.pacer = s.pacer ∧
      (∀ a, Memory.read t.store.cells a = Memory.read s.store.cells a)) ∧
  (∀ (counts : List Nat) (s u : State), s.powered = true → counts.length = 64 →
    u = { s with
      now := max s.now (s.keys.lastScan + 2640)
      sender := { s.sender with generator := generatorStep s.sender.generator }
      keys := { s.keys with
        recs := (List.range 64).map (fun p => { keyAt s.keys.recs p with
          f := if s.keys.seeding = 0 then min (counts.getD p 0) 4095
            else ((keyAt s.keys.recs p).f + min (counts.getD p 0) 4095) / 2 })
        seeding := s.keys.seeding + 1
        lastScan := max s.now (s.keys.lastScan + 2640) } } →
    (s.keys.seeding < 15 → exec (.seedingScan counts) s = .next u) ∧
    (s.keys.seeding = 15 → ∃ t, exec (.seeded counts) s = .next t ∧
      FollowUp ({ u with keys := { u.keys with
        recs := (List.range 64).map (fun p =>
          { keyAt u.keys.recs p with l16 := 16 * (keyAt u.keys.recs p).f }) } }.checkStarting) t))

/-- A press event made by a key's third scan (R108, R113) or by REPEAT (R114): the station is ATTENDED unless the
key is ATTEND, its attend timer and its rest measure restart (R96), it is ACTIVE, and the event joins the queue or
is lost with KEY OVERRUN (R93, R98, R115). The model's choices in it: logs 2, 12. -/
def Obligations.PressEventIsMade : Prop :=
  ∀ (s : State) (p : Nat), s.powered = true → s.keys.recs.length = 64 →
    (isKeyPosition p = true → (keyAt s.keys.recs p).state = .entering →
      (keyAt s.keys.recs p).debounce = 2 → ∃ t, exec (.pressEvent p) s = .next t ∧
        keyAt t.keys.recs p =
          { keyAt s.keys.recs p with state := .pressed, debounce := 3, stuckSince := some s.now } ∧
        (∀ q, q ≠ p → keyAt t.keys.recs q = keyAt s.keys.recs q) ∧
        t.answer.attend = (if p = 54 then s.answer.attend else .attended) ∧ t.answer.attendSince = s.now ∧
        t.answer.power = .active ∧ t.answer.rest = (if t.restCondition = true then some s.now else none) ∧
        (s.interp.queue.length < 16 → t.interp = { s.interp with queue := s.interp.queue ++ [{
          position := p, repeated := false
          shift := p = 56 ∨ (keyAt s.keys.recs 56).state = .pressed
          ctrl := p = 57 ∨ (keyAt s.keys.recs 57).state = .pressed }] }) ∧
        (16 ≤ s.interp.queue.length → t.interp = s.interp ∧ Event.keyOverrun ∈ t.diag.latched)) ∧
    (∀ since, s.keys.repeatMeasure = some (p, since) → repeatKey s.keys.recs = some p →
      ∃ t, exec .repeatEvent s = .next t ∧ t.now = max s.now (since + 26400) ∧
        t.keys = { s.keys with repeatMeasure := some (p, t.now) } ∧
        t.answer.attend = .attended ∧ t.answer.attendSince = t.now ∧ t.answer.power = .active ∧
        t.answer.rest = (if t.restCondition = true then some t.now else none) ∧
        (s.interp.queue.length < 16 → t.interp = { s.interp with queue := s.interp.queue ++ [{
          position := p, repeated := true
          shift := (keyAt s.keys.recs 56).state = .pressed
          ctrl := (keyAt s.keys.recs 57).state = .pressed }] }) ∧
        (16 ≤ s.interp.queue.length → t.interp = s.interp ∧ Event.keyOverrun ∈ t.diag.latched))

/-- A key held 24 s is released by force and STUCK KEY latched (R112); an IDLE key eight scans below -T in a free
half is reseeded (R111). Nothing else changes. The model's choices in it: logs 2, 12, 14. -/
def Obligations.KeyIsReseeded : Prop :=
  ∀ (s : State) (p : Nat), s.powered = true → isKeyPosition p = true → s.keys.recs.length = 64 →
    (∀ since, (keyAt s.keys.recs p).stuckSince = some since →
      (keyAt s.keys.recs p).state = .pressed ∨ (keyAt s.keys.recs p).state = .leaving →
      exec (.stuckKey p) s = .next ({ s with
        now := max s.now (since + 24000 * 264)
        keys := { s.keys with recs := s.keys.recs.set p { keyAt s.keys.recs p with
          state := .idle, debounce := 0, excursion := 0, stuckSince := none
          l16 := 16 * (keyAt s.keys.recs p).f } } }.latch .stuckKey)) ∧
    ((keyAt s.keys.recs p).state = .idle → (keyAt s.keys.recs p).excursion = 8 →
      halfFree s.keys.recs (isLeft p) = true →
      exec (.excursionReseed p) s = .next { s with keys := { s.keys with
        recs := s.keys.recs.set p { keyAt s.keys.recs p with
          l16 := 16 * (keyAt s.keys.recs p).f, excursion := 0 } } })

/-! ### Identity, attend mode and power -/

/-- The attend timer's 10 minutes make the station UNATTENDED (R93); 30 s of rest take it from ACTIVE to QUIET with
its motors off and its manual leader discarded (R96, R143, R190); 5 minutes of QUIET and UNATTENDED take it to
DORMANT, or straight on to ACTIVE when the store indicates work (R97, R98). Every command keeps it so that the rest
measure runs exactly in ACTIVE with the rest condition, the dormancy measure exactly in QUIET with UNATTENDED, and
the station is ACTIVE while the store indicates work; from such a state a measure starts only at the command that
makes its condition hold, and the rest measure again at a press (R96, R97, R98). The model's choices in it: logs 2,
5. -/
def Obligations.AttendAndPowerTimersExpire : Prop :=
  (∀ c s t, s.MeasuresRun → exec c s = .next t → t.MeasuresRun) ∧
  (∀ c s t, s.MeasuresRun → exec c s = .next t →
    (∀ x, t.answer.rest = some x →
      s.answer.rest = some x ∨ (x = t.now ∧ (s.answer.rest = none ∨ isPressCommand c = true))) ∧
    (∀ x, t.answer.dormancy = some x →
      s.answer.dormancy = some x ∨ (x = t.now ∧ s.answer.dormancy = none))) ∧
  (∀ s : State, s.restCondition = true ↔ s.store.printWork = false ∧ s.store.punchWork = false ∧
    (∀ c ∈ s.interp.comps, c.state ≠ .openAddressing ∧ c.state ≠ .openText ∧ c.state ≠ .ready) ∧
    s.sender.state = .idle ∧ s.diag.starting = false) ∧
  ∀ s : State, s.powered = true →
    (∃ t, exec .attendTimerExpiry s = .next t ∧
      FollowUp { s.reach (s.answer.attendSince + ms 600000) with
        answer := { s.answer with attend := .unattended } } t) ∧
    (∀ since, s.answer.rest = some since → s.answer.power = .active → s.restCondition = true →
      ∃ t, exec .restMeasureExpiry s = .next t ∧ t.now = max s.now (since + ms 30000) ∧
        t.answer.power = .quiet ∧ t.answer.attend = s.answer.attend ∧ t.store = s.store ∧ t.interp = s.interp ∧
        t.sender = s.sender ∧ t.diag.latched = s.diag.latched ∧ t.punch.state = s.punch.state ∧
        t.punch.manual = 0 ∧ (∀ r, t.punch.row = some r → r.stage ≠ .waiting) ∧
        t.printer.state = (match s.printer.state with
          | .starting | .ready | .printing | .off => .off
          | .paperOut => .paperOut
          | .fault => .fault)) ∧
    (∀ since, s.answer.dormancy = some since → s.answer.power = .quiet → s.answer.attend = .unattended →
      ∃ t, exec .dormancyMeasureExpiry s = .next t ∧ t.now = max s.now (since + ms 300000) ∧
        t.answer.attend = .unattended ∧ t.answer.dormancy = none ∧
        t.answer.power = (if s.store.printWork ∨ s.store.punchWork then .active else .dormant))

/-- A write cycle writes one character a 20 ms step, then the length and the valid marker, and clears the open-cycle
mark (R87); a lock cycle sets the lock mark and nothing of the text (R88). At its end an IDENT block that waited is
started if the line is still QUIET (R71). CTRL+HERE opens an empty draft, and CTRL+LOCAL begins a lock cycle from an
open one, under the conditions of R85 and R88; each is refused with the bell otherwise, and nothing else changes.
The model's choices in it: logs 2, 5, 13, 30, 32, 37. -/
def Obligations.IdentityIsWrittenAndLocked : Prop :=
  (∀ (s : State) (lastMark : Bool), s.powered = true →
    (∀ text step since c, s.answer.cycle = .write text step since → 1 ≤ step → text[step - 1]? = some c →
      exec (.writeCycleStep lastMark) s = .next { s.reach (since + 5280) with
        answer := { s.answer with
          memory := { s.answer.memory with text := s.answer.memory.text.set (step - 1) c }
          cycle := .write text (step + 1) (max s.now (since + 5280)) } }) ∧
    (∀ text since u, s.answer.cycle = .write text (text.length + 1) since →
      u = { s.reach (since + 5280) with answer := { s.answer with
        memory := { s.answer.memory with length := text.length, valid := true, openCycle := false }
        cycle := .idle } } →
      ∃ t, exec (.writeCycleStep lastMark) s = .next t ∧
        FollowUp (if s.sender.state = .deferring ∧ s.sender.spanReached = true ∧ s.line.condition = .quiet
          then u.orderStart lastMark else u) t) ∧
    (∀ since u, s.answer.cycle = .lock since →
      u = { s.reach (since + 5280) with answer := { s.answer with
        memory := { s.answer.memory with lock := true, openCycle := false }, cycle := .idle } } →
      ∃ t, exec (.lockCycleEnd lastMark) s = .next t ∧
        FollowUp (if s.sender.state = .deferring ∧ s.sender.spanReached = true ∧ s.line.condition = .quiet
          then u.orderStart lastMark else u) t)) ∧
  (∀ (s : State) (p : Press) (rest : List Press), s.Takes p rest → p.ctrl = true →
    (p.position = 52 → exec .ctrlHere s = .next
      (if s.straps.setup = true ∧ s.answer.memory.lock = false ∧ s.answer.cycle = .idle ∧ s.answer.draft = none
      then { s.took rest with answer := { s.answer with draft := some [], writeLatch := true } }
      else (s.took rest).bell)) ∧
    (p.position = 53 → exec .ctrlLocal s = .next
      (if s.straps.setup = true ∧ s.answer.memory.lock = false ∧ s.answer.writeLatch = true ∧
          s.answer.cycle = .idle ∧ s.answer.memory.openCycle = false
      then { s.took rest with answer := { s.answer with
        draft := none, writeLatch := false, cycle := .lock s.now
        memory := { s.answer.memory with openCycle := true } } }
      else (s.took rest).bell)))

/-- The identity text in use (R83, R84) and the status character, the first of its four that applies (R91). -/
def Obligations.IdentityContentIsChosen : Prop :=
  ∀ s : State,
    (s.answer.memory.valid = true → s.answer.memory.openCycle = false → s.answer.memory.length ≠ 0 →
      s.identityText = s.answer.memory.text.take s.answer.memory.length) ∧
    (s.answer.memory.valid = false ∨ s.answer.memory.openCycle = true ∨ s.answer.memory.length = 0 →
      s.identityText = [0x53#7, 0x54#7, 0x41#7, 0x54#7, 0x49#7, 0x4F#7, 0x4E#7, 0x20#7,
        BitVec.ofNat 7 (0x30 + s.straps.code.toNat / 10), BitVec.ofNat 7 (0x30 + s.straps.code.toNat % 10)]) ∧
    s.identityContent = s.identityText ++ [s.statusChar] ∧
    s.statusChar = (if s.store.free ≤ 256 ∨ s.store.freeRecs ≤ 2 then 0x46#7
      else if s.printer.state = .paperOut ∨ s.printer.state = .fault then 0x53#7
      else if s.answer.attend = .attended then 0x41#7 else 0x55#7)

/-! ### The keyboard -/

/-- A character key's press (R86, R126, R128, R130, R139): to the draft when one is open; refused when it gives no
character; to the OPEN composition's list or text; to a LOCAL record in LOCAL mode; refused in LINE mode. What a
press makes of the OPEN composition takes its place among the compositions, every other kept, and the refusal bell
rings when the press is refused (R128 to R131). The character each of the 46 keys gives, with SHIFT and with CTRL
(R121, R122). The model's choices in it: logs 5, 13. -/
def Obligations.CharacterKeyIsTaken : Prop :=
  (∀ (s : State) (l l' : List Comp) (o : Comp), s.interp.comps = l ++ o :: l' →
    o.state = .openAddressing ∨ o.state = .openText →
    (∀ x ∈ l ++ l', x.state ≠ .openAddressing ∧ x.state ≠ .openText) →
    s.interp.openComp = some o ∧
    (∀ g : Comp → Comp, s.interp.onOpen g = { s.interp with comps := l ++ g o :: l' }) ∧
    (∀ f : Comp → Comp × Bool, s.editOpen o f = { s with
      bells := s.bells + (if (f o).2 = true then 1 else 0)
      interp := { s.interp with comps := l ++ (f o).1 :: l' } })) ∧
  (∀ i : Interp,
    (i.openComp = none ↔ ∀ x ∈ i.comps, x.state ≠ .openAddressing ∧ x.state ≠ .openText) ∧
    i.usedCells = (i.comps.map fun c => (c.text.map fun
      | .char _ => 1
      | .lineEnd => 2).sum).sum) ∧
  (∀ s : State, s.bell = { s with bells := s.bells + 1 }) ∧
  (∀ (c : Code) (d : Nat), digitOf c = some d ↔ d ≤ 9 ∧ c = BitVec.ofNat 7 (0x30 + d)) ∧
  (∀ ch : Char, codeOf ch = BitVec.ofNat 7 ch.toNat) ∧
  (∀ (s : State) (p : Press) (rest : List Press), s.Takes p rest → isCharacterKey p.position = true →
    (∀ d, s.answer.draft = some d →
      (p.ctrl = true → exec .characterKey s = .next (s.took rest).bell) ∧
      (∀ c, p.ctrl = false → p.char = some c →
        exec .characterKey s = .next (if d.length < 20
          then { s.took rest with answer := { s.answer with draft := some (d ++ [c]) } }
          else (s.took rest).bell))) ∧
    (s.answer.draft = none →
      (p.char = none → exec .characterKey s = .next (s.took rest).bell) ∧
      (∀ c o, p.char = some c → s.interp.openComp = some o → o.state = .openAddressing →
        ∃ t, exec .characterKey s = .next t ∧
          FollowUp ((s.took rest).editOpen o fun x => x.address c) t) ∧
      (∀ c o, p.char = some c → s.interp.openComp = some o → o.state = .openText →
        ∃ t, exec .characterKey s = .next t ∧
          FollowUp (if s.interp.usedCells < 1024 then { s.took rest with
            interp := (s.took rest).interp.onOpen fun x => { x with text := x.text ++ [.char c] } }
            else (s.took rest).bell) t) ∧
      (∀ c, p.char = some c → s.interp.openComp = none → ∃ t, exec .characterKey s = .next t ∧
        FollowUp (if s.interp.mode = .localMode then (s.took rest).localRequest p [c]
          else (s.took rest).bell) t))) ∧
  (∀ (o : Comp) (ch : Code) (l : List Station),
    (o.dests = .all → ∀ d, digitOf ch = some d → o.address ch = (o, true)) ∧
    (∀ d, o.dests = .codes l → o.pendingDigit = none → digitOf ch = some d →
      o.address ch = if l.length < 4 then ({ o with pendingDigit := some d }, false) else (o, true)) ∧
    (∀ a d, o.dests = .codes l → o.pendingDigit = some a → digitOf ch = some d →
      o.address ch = if 10 * a + d ≤ 31 ∧ BitVec.ofNat 5 (10 * a + d) ∉ l
        then ({ o with pendingDigit := none, dests := .codes (l ++ [BitVec.ofNat 5 (10 * a + d)]) }, false)
        else ({ o with pendingDigit := none }, true)) ∧
    (o.address chStar = if o.dests = .codes [] ∧ o.pendingDigit = none then ({ o with dests := .all }, false)
      else (o, true)) ∧
    (digitOf ch = none → ch ≠ chStar → o.address ch = (o, true))) ∧
  (∀ p, isCharacterKey p = true ↔ p < 48 ∧ p ≠ 0 ∧ p ≠ 7) ∧
  (∀ (p : Press) (key : Char), isCharacterKey p.position = true →
    (keysOnLines0To5.toList[if p.position < 7 then p.position - 1 else p.position - 2]? = some key) →
    (p.ctrl = true → p.char = if key = 'G' then some 0x07#7 else none) ∧
    (p.ctrl = false → p.shift = false → p.char = some (codeOf key)) ∧
    (p.ctrl = false → p.shift = true →
      p.char = some (codeOf (((keysThatShift.toList.zip whatTheyShiftTo.toList).lookup key).getD key))))

/-- RETURN (R86, R87, R129) commits a draft, completes a destination list, gives a line end of two cells, or sends
CR LF to a LOCAL record; RUBOUT (R86, R131) takes back the last thing entered. The model's choices in it: logs 5,
13. -/
def Obligations.ReturnAndRuboutAreTaken : Prop :=
  ∀ (s : State) (p : Press) (rest : List Press), s.Takes p rest →
    (p.position = 58 →
      (∀ d, s.answer.draft = some d → exec .returnKey s = .next { s.took rest with answer := { s.answer with
        draft := none, writeLatch := false, cycle := .write d 1 s.now
        memory := { s.answer.memory with openCycle := true } } }) ∧
      (∀ o, s.answer.draft = none → s.interp.openComp = some o → o.state = .openAddressing →
        ∃ t, exec .returnKey s = .next t ∧
          FollowUp (if o.dests ≠ .codes [] ∧ o.pendingDigit = none then { s.took rest with
            interp := (s.took rest).interp.onOpen fun x => { x with state := .openText } }
            else (s.took rest).bell) t) ∧
      (∀ o, s.answer.draft = none → s.interp.openComp = some o → o.state = .openText →
        ∃ t, exec .returnKey s = .next t ∧
          FollowUp (if s.interp.usedCells + 2 ≤ 1024 then { s.took rest with
            interp := (s.took rest).interp.onOpen fun x => { x with text := x.text ++ [.lineEnd] } }
            else (s.took rest).bell) t) ∧
      (s.answer.draft = none → s.interp.openComp = none → ∃ t, exec .returnKey s = .next t ∧
        FollowUp (if s.interp.mode = .localMode then (s.took rest).localRequest p [0x0D#7, 0x0A#7]
          else (s.took rest).bell) t)) ∧
    (p.position = 59 →
      (∀ d, s.answer.draft = some d → exec .ruboutKey s = .next (if d = [] then (s.took rest).bell
        else { s.took rest with answer := { s.answer with draft := some d.dropLast } })) ∧
      (s.answer.draft = none → s.interp.openComp = none → exec .ruboutKey s = .next (s.took rest).bell) ∧
      (∀ o, s.answer.draft = none → s.interp.openComp = some o →
        exec .ruboutKey s = .next ((s.took rest).editOpen o Comp.rubout))) ∧
    (∀ o : Comp,
      (o.state = .openText → o.rubout =
        if o.text = [] then (o, true) else ({ o with text := o.text.dropLast }, false)) ∧
      (o.state = .openAddressing → ∀ d, o.pendingDigit = some d →
        o.rubout = ({ o with pendingDigit := none }, false)) ∧
      (o.state = .openAddressing → o.pendingDigit = none → o.rubout = (match o.dests with
        | .all => ({ o with dests := .codes [] }, false)
        | .codes [] => (o, true)
        | .codes (d :: l) => ({ o with dests := .codes (d :: l).dropLast }, false))))

/-- SHIFT, CTRL and REPEAT do nothing outside a draft (R126); CALL opens a composition when none is OPEN and fewer
than 4 exist (R127); HERE makes one that is READY (R92); ATTEND toggles the attend mode (R93); LOCAL toggles the
mode and closes an OPEN LOCAL record COMPLETE (R138). A draft refuses CALL, HERE, LOCAL and REPEAT (R86). The
model's choices in it: logs 5, 13, 29, 31. -/
def Obligations.ModeAndCompositionKeysAreTaken : Prop :=
  ∀ (s : State) (p : Press) (rest : List Press), s.Takes p rest →
    (p.position = 56 ∨ p.position = 57 ∨ p.position = 62 → exec .modifierKey s = .next
      (if s.answer.draft ≠ none ∧ p.position = 62 then (s.took rest).bell else s.took rest)) ∧
    (p.position = 49 →
      (s.answer.draft ≠ none ∨ s.interp.openComp ≠ none ∨ 4 ≤ s.interp.comps.length →
        exec .callKey s = .next (s.took rest).bell) ∧
      (s.answer.draft = none → s.interp.openComp = none → s.interp.comps.length < 4 →
        ∃ t, exec .callKey s = .next t ∧ FollowUp { s.took rest with interp := { (s.took rest).interp with
          nextSerial := s.interp.nextSerial + 1
          comps := s.interp.comps ++ [({
            serial := s.interp.nextSerial, kind := .message, dests := .codes [], pendingDigit := none
            text := [], yields := 0, state := .openAddressing } : Comp)] } } t)) ∧
    (p.position = 52 → p.ctrl = false →
      (s.answer.draft ≠ none ∨ 4 ≤ s.interp.comps.length → exec .hereKey s = .next (s.took rest).bell) ∧
      (s.answer.draft = none → s.interp.comps.length < 4 → ∃ t, exec .hereKey s = .next t ∧
        t.answer.power = .active ∧ FollowUp ({ s.took rest with interp := { (s.took rest).interp with
          nextSerial := s.interp.nextSerial + 1
          comps := s.interp.comps ++ [({
            serial := s.interp.nextSerial, kind := .here, dests := .all, pendingDigit := none
            text := [], yields := 0, state := .ready } : Comp)] } }.compReady) t)) ∧
    (p.position = 54 → ∃ t, exec .attendKey s = .next t ∧ FollowUp { s.took rest with
      answer := { s.answer with
        attend := if s.answer.attend = .attended then .unattended else .attended } } t) ∧
    (p.position = 53 → p.ctrl = false →
      (s.answer.draft ≠ none → exec .localKey s = .next (s.took rest).bell) ∧
      (s.answer.draft = none → s.interp.mode = .line → exec .localKey s = .next { s.took rest with
        interp := { (s.took rest).interp with mode := .localMode } }) ∧
      (∀ u, s.answer.draft = none → s.interp.mode = .localMode →
        u = (if s.interp.localOpen = true then (s.took rest).closeRecord .complete else s.took rest) →
        ∃ t, exec .localKey s = .next t ∧
          FollowUp { u with interp := { u.interp with mode := .line, localOpen := false } } t))

/-- SEND makes the OPEN-TEXT composition READY, or releases the oldest HELD one (R132); QUERY turns a list of one
code into a query (R133). Both wake the station, an OFF printer beginning its spin-up (R98, R143). An IDLE Sender
not STARTING takes up the oldest READY composition (R62, R64) with its span drawn on a QUIET line (R66, R67); any
other Sender is not touched. A draft refuses them (R86). The model's choices in it: logs 5, 13. -/
def Obligations.SendAndQueryAreTaken : Prop :=
  (∀ s : State,
    s.compReady.answer.power = .active ∧
    (s.sender.state ≠ .idle → s.compReady.sender = s.sender) ∧
    (s.sender.state = .idle → s.compReady.sender = s.chooseNext.sender) ∧
    (∀ (c : Comp) (d : Nat), s.sender.state = .idle → s.diag.starting = false → s.sender.replies = [] →
      s.maySendComp = true → s.interp.oldestReady = some c →
      d = s.sender.generator.toNat % 2 ^ (3 - s.interp.yieldsOf c.serial) →
      (s.line.condition = .quiet → s.compReady.sender = { s.sender with
        state := .deferring, source := .comp c.serial, draw := d, spanReached := false
        span := some (3 + d + if s.sender.courtesy then 4 else 0) }) ∧
      (s.line.condition ≠ .quiet → s.compReady.sender = { s.sender with
        state := .deferring, source := .comp c.serial, span := none, spanReached := false })) ∧
    (s.answer.power = .active → s.compReady = { s with sender := s.compReady.sender }) ∧
    (s.answer.power ≠ .active → s.compReady = { s with
      sender := s.compReady.sender
      answer := { s.answer with power := .active, rest := none, dormancy := none }
      printer := { s.printer with
        spunUp := false
        state := if s.printer.state = .off then .starting else s.printer.state
        spinUp := if s.printer.state = .off then s.now else s.printer.spinUp } })) ∧
  ∀ (s : State) (p : Press) (rest : List Press), s.Takes p rest →
    (p.position = 50 →
      (s.answer.draft ≠ none → exec .sendKey s = .next (s.took rest).bell) ∧
      (∀ o, s.answer.draft = none → s.interp.openComp = some o → o.state = .openText →
        ∃ t, exec .sendKey s = .next t ∧ t.answer.power = .active ∧
          FollowUp ({ s.took rest with
            interp := (s.took rest).interp.onOpen fun x => { x with state := .ready } }.compReady) t) ∧
      (∀ l o l', s.answer.draft = none → s.interp.openComp = none → s.interp.comps = l ++ o :: l' →
        o.state = .held → (∀ x ∈ l, x.state ≠ .held) →
        ∃ t, exec .sendKey s = .next t ∧ t.answer.power = .active ∧
          FollowUp ({ s.took rest with interp := { (s.took rest).interp with
            comps := l ++ { o with state := .ready } :: l' } }.compReady) t) ∧
      (s.answer.draft = none → (∀ o, s.interp.openComp = some o → o.state = .openAddressing) →
        (s.interp.openComp = none → ∀ x ∈ s.interp.comps, x.state ≠ .held) →
        ∃ t, exec .sendKey s = .next t ∧ FollowUp (s.took rest).bell t)) ∧
    (p.position = 51 →
      (s.answer.draft ≠ none → exec .queryKey s = .next (s.took rest).bell) ∧
      (∀ o d, s.answer.draft = none → s.interp.openComp = some o → o.state = .openAddressing →
        o.dests = .codes [d] → o.pendingDigit = none →
        ∃ t, exec .queryKey s = .next t ∧ t.answer.power = .active ∧
          FollowUp ({ s.took rest with interp := (s.took rest).interp.onOpen fun x =>
            { x with kind := .query, state := .ready } }.compReady) t) ∧
      (s.answer.draft = none → (∀ o, s.interp.openComp = some o →
          o.state = .openText ∨ o.pendingDigit ≠ none ∨ ∀ d, o.dests ≠ .codes [d]) →
        ∃ t, exec .queryKey s = .next t ∧ FollowUp (s.took rest).bell t))

/-- CANCEL discards a draft (R86) or the newest composition by its state (R134), abandoning a block being sent (R76)
and stopping a watch without a record (R80); BREAK holds the line at space for 3 Tc, cutting a block being sent, and
is refused while a break runs (R77, R135). A break keeps the source of a deferral, which a CANCEL may still
withdraw, and leaves none of a block it cuts. The model's choices in it: logs 5, 13, 26, 39. -/
def Obligations.CancelAndBreakAreTaken : Prop :=
  ∀ (s : State) (p : Press) (rest : List Press), s.Takes p rest →
    (p.position = 63 →
      (s.answer.draft ≠ none → exec .cancelKey s = .next { s.took rest with
        answer := { s.answer with draft := none, writeLatch := false } }) ∧
      (s.answer.draft = none → s.interp.comps = [] → exec .cancelKey s = .next (s.took rest).bell) ∧
      (∀ l c u, s.answer.draft = none → s.interp.comps = l ++ [c] →
        u = { s.took rest with interp := { (s.took rest).interp with comps := l } } →
        ∃ t, exec .cancelKey s = .next t ∧ t.interp.comps = l ∧
          (c.state = .openAddressing ∨ c.state = .openText ∨ c.state = .held → FollowUp u t) ∧
          (c.state = .ready → FollowUp
            (if s.sender.source = .comp c.serial then
              (match s.sender.state with
                | .deferring => u.chooseNext
                | .breaking => { u with sender := { s.sender with source := .none } }
                | .idle | .sending => u)
            else u) t) ∧
          (c.state = .sending → FollowUp { u with sender := { s.sender with
            abandoning := true
            block := if s.sender.position < s.sender.block.length
              then s.sender.block.take s.sender.position ++ [0x18#7, 0x04#7] else s.sender.block } } t) ∧
          (c.state = .awaiting →
            FollowUp ({ u with sender := { s.sender with watch := .none } }.workAppears) t))) ∧
    (p.position = 48 →
      (s.sender.state = .breaking → exec .breakKey s = .next (s.took rest).bell) ∧
      (s.sender.state ≠ .breaking → ∃ t, exec .breakKey s = .next t ∧
        t.line = { s.line with tx := .holding (s.now + s.charTimes 3) } ∧ t.sender.state = .breaking ∧
        t.sender.span = none ∧ t.sender.watch = s.sender.watch ∧ t.answer.draft = s.answer.draft ∧
        (s.sender.state ≠ .sending → t.interp.comps = s.interp.comps ∧
          t.sender.replies = s.sender.replies ∧ t.sender.courtesy = s.sender.courtesy ∧
          t.sender.source = s.sender.source) ∧
        (s.sender.state = .sending → t.sender.source = .none ∧
          t.interp.comps = s.interp.comps.map (fun x =>
            if x.state = .sending then { x with state := .held } else x) ∧
          t.sender.replies =
            (if s.sender.source = .reply then s.sender.replies.tail else s.sender.replies) ∧
          t.sender.courtesy = (if s.sender.source = .reply then s.sender.courtesy else true))))

/-- STATUS asks for a report when no request is in hand (R202), waiting for a self-check, and abandoning an idle
sweep, whose test under its grant runs on (R197); FEED asks for a line feed, 3 at most (R155; in OFF, which a press
does not find, nothing is done: the model's choice, log 25); CTRL+FEED asks for 20 rows of leader (R188); PUNCH
suspends a RUNNING or IDLE punch, withdrawing a request that waits (R165, R182), and resumes a SUSPENDED one on its
current claim with the leader and position it had, or to IDLE without one (R183). Each is refused with the bell
where its rule says, and by a draft (R86). The model's choices in it: logs 5, 13, 48, 50, 51. -/
def Obligations.RequestKeysAreTaken : Prop :=
  ∀ (s : State) (p : Press) (rest : List Press), s.Takes p rest →
    (p.position = 55 →
      (s.answer.draft ≠ none ∨ s.diag.request ≠ .none → exec .statusKey s = .next (s.took rest).bell) ∧
      (s.answer.draft = none → s.diag.request = .none → ∃ t, exec .statusKey s = .next t ∧
        t.diag.request = .sweeping ∧ t.diag.latched = s.diag.latched ∧ t.interp = (s.took rest).interp ∧
        ((∀ w, s.diag.sweep = some w → w.kind = .idle) →
          ∃ w, t.diag.sweep = some w ∧ w.kind = .status ∧ w.index = 0) ∧
        (∀ w x, s.diag.sweep = some w → w.kind = .idle → s.diag.testing = some x →
          t.diag.testing = some { index := x.index, counts := false }) ∧
        (∀ w, s.diag.sweep = some w → w.kind = .selfCheck → ∃ w', t.diag.sweep = some w' ∧
          w'.kind = .selfCheck ∧ w'.index = w.index ∧ w'.findings = w.findings))) ∧
    (p.position = 60 → p.ctrl = false → s.answer.draft = none →
      (s.printer.state = .starting ∨ s.printer.state = .ready ∨ s.printer.state = .printing →
        s.printer.pendingFeeds < 3 → ∃ t, exec .feedKey s = .next t ∧ FollowUp { s.took rest with
          printer := { s.printer with pendingFeeds := s.printer.pendingFeeds + 1 } } t) ∧
      (s.printer.state ≠ .off → s.printer.state = .paperOut ∨ s.printer.state = .fault ∨
        3 ≤ s.printer.pendingFeeds → exec .feedKey s = .next (s.took rest).bell) ∧
      (s.printer.state = .off → exec .feedKey s = .next (s.took rest))) ∧
    (p.position = 60 → p.ctrl = true → s.answer.draft = none →
      (s.punch.state = .idle ∨ s.punch.state = .suspended → s.punch.manualUnderWay = false →
        ∃ t, exec .ctrlFeed s = .next t ∧
          FollowUp { s.took rest with punch := { s.punch with manual := 20 } } t ∧
          (s.punch.row = none → s.answer.power = .active → s.driversHeld = false →
            ∃ r, t.punch.row = some r ∧ r.content = .manual)) ∧
      ((s.punch.state ≠ .idle ∧ s.punch.state ≠ .suspended) ∨ s.punch.manualUnderWay = true →
        exec .ctrlFeed s = .next (s.took rest).bell)) ∧
    (p.position = 61 → s.answer.draft = none →
      (s.punch.state = .tapeOut ∨ s.punch.state = .fault → ∃ t, exec .punchKey s = .next t ∧
        FollowUp (s.took rest).bell t ∧ s.bells < t.bells ∧ t.punch.state = s.punch.state) ∧
      (s.punch.state = .idle → ∃ t, exec .punchKey s = .next t ∧ t.punch.state = .suspended ∧
        FollowUp { s.took rest with punch := { s.punch with state := .suspended, manual := 0 } } t ∧
        (∀ r, s.punch.row = some r → r.content = .manual → r.stage = .waiting →
          t.punch.row = none ∧ t.arb.waitPunch = false)) ∧
      (s.punch.state = .suspended → s.store.punchCurrent = none → ∃ t, exec .punchKey s = .next t ∧
        t.punch.state = .idle ∧
        FollowUp { s.took rest with punch := { s.punch with state := .idle, manual := 0 } } t ∧
        (∀ r, s.punch.row = some r → r.content = .manual → r.stage = .waiting →
          t.punch.row = none ∧ t.arb.waitPunch = false)) ∧
      (∀ x, s.punch.state = .suspended → s.store.punchCurrent = some x → ∃ t, exec .punchKey s = .next t ∧
        FollowUp { s.took rest with punch := { s.punch with state := .running, manual := 0 } } t ∧
        (∀ r, s.punch.row = some r → r.stage ≠ .waiting →
          t.punch.state = .running ∧ ∃ r', t.punch.row = some r' ∧ r'.content = r.content) ∧
        (s.answer.power = .active → s.driversHeld = false →
          s.punch.row = none ∨ (∃ r, s.punch.row = some r ∧ r.content = .manual ∧ r.stage = .waiting) →
          (s.punch.leader < 10 → t.punch.state = .running ∧ t.punch.leader = s.punch.leader ∧
            ∃ r', t.punch.row = some r' ∧ r'.content = .leader) ∧
          (10 ≤ s.punch.leader → x.punchPos < x.length → t.punch.state = .running ∧
            t.punch.leader = s.punch.leader ∧
            ∃ r', t.punch.row = some r' ∧ r'.content = .cell (s.store.cell (x.start + x.punchPos))))) ∧
      (∀ r, s.punch.state = .running → s.punch.row = some r → r.stage ≠ .waiting →
        ∃ t, exec .punchKey s = .next t ∧
          FollowUp { s.took rest with punch := { s.punch with suspendPending := !s.punch.suspendPending } } t) ∧
      (s.punch.state = .running → s.punch.row = none ∨ (∃ r, s.punch.row = some r ∧ r.stage = .waiting) →
        s.punch.manual = 0 → ∃ t, exec .punchKey s = .next t ∧ t.punch.state = .suspended ∧
          t.punch.row = none ∧ FollowUp { s.took rest with punch := { s.punch with state := .suspended } } t ∧
          (s.punch.row ≠ none → t.arb.waitPunch = false))) ∧
    (s.answer.draft ≠ none →
      (p.position = 60 → p.ctrl = false → exec .feedKey s = .next (s.took rest).bell) ∧
      (p.position = 60 → p.ctrl = true → exec .ctrlFeed s = .next (s.took rest).bell) ∧
      (p.position = 61 → exec .punchKey s = .next (s.took rest).bell))

/-! ### Pacing and the supply -/

/-- The pacing state at a boundary, by the first row that applies (R169), and the latch on each entry into WARM or
HOT (R172). -/
def Obligations.PacingIsDecided : Prop :=
  (∀ (before : Pacing) (h : Nat),
    (46000 ≤ h → decidePacing before h = .hot) ∧
    (before = .hot → h < 20000 → decidePacing before h = .cool) ∧
    (before = .hot → 20000 ≤ h → h ≤ 45999 → decidePacing before h = .hot) ∧
    (before = .cool → 40000 ≤ h → h ≤ 45999 → decidePacing before h = .warm) ∧
    (before = .cool → h < 40000 → decidePacing before h = .cool) ∧
    (before = .warm → h < 32000 → decidePacing before h = .cool) ∧
    (before = .warm → 32000 ≤ h → h ≤ 45999 → decidePacing before h = .warm)) ∧
  (∀ s : State,
    s.coolAndDecide = { s with pacer := s.coolAndDecide.pacer, diag := s.coolAndDecide.diag } ∧
    s.coolAndDecide.pacer = { s.pacer with
      h := s.pacer.h - s.pacer.h / 128, steps := s.pacer.steps + 1
      state := decidePacing s.pacer.state (s.pacer.h - s.pacer.h / 128) } ∧
    (s.pacer.state ≠ .warm → s.coolAndDecide.pacer.state = .warm →
      s.coolAndDecide.diag = (s.latch .warm).diag) ∧
    (s.pacer.state ≠ .hot → s.coolAndDecide.pacer.state = .hot →
      s.coolAndDecide.diag = (s.latch .hot).diag) ∧
    (s.coolAndDecide.pacer.state = .cool ∨ s.coolAndDecide.pacer.state = s.pacer.state →
      s.coolAndDecide.diag = s.diag))

/-- A cooling step between boundaries lowers H alone (R167). A boundary cools, decides, and answers an offer (R168,
R170): HOLD, or no offer, leaves the mark not fired; FIRE sets it, adds 64 a dot to H (R171), and the character asks
for the supply, or steps at once when it strikes no dot (R152). The table of the glyphs, and a fired dot count
without the digits of the excluded needles (R150, R158). The model's choices in it: logs 2, 4. -/
def Obligations.StepsAndSlotsAreTaken : Prop :=
  (∀ n row total, glyphRows[n]? = some row → glyphTotals[n]? = some total →
    (List.range 7).map (fun i => codeOf (Char.ofNat (0x30 + glyphDots (BitVec.ofNat 7 (0x20 + n)) i))) = textOf row ∧
    firedDots (BitVec.ofNat 7 (0x20 + n)) [] = total) ∧
  (∀ (c : Code) (excluded : List Nat),
    (∀ i, i ∈ strikingNeedles c excluded ↔ i < 7 ∧ glyphDots c i ≠ 0 ∧ i ∉ excluded) ∧
    firedDots c excluded = ((List.range 7).map fun i => if i ∈ excluded then 0 else glyphDots c i).sum) ∧
  ∀ (s u : State), s.powered = true →
    ((s.pacer.steps + 1) % 3 ≠ 0 → exec .coolingStep s = .next { s with
      now := max s.now (5280 * (s.pacer.steps + 1))
      pacer := { s.pacer with h := s.pacer.h - s.pacer.h / 128, steps := s.pacer.steps + 1 } }) ∧
    ((s.pacer.steps + 1) % 3 = 0 → u = (s.reach (5280 * (s.pacer.steps + 1))).coolAndDecide →
      (u.offer = none ∨ u.pacer.state = .hot ∨ (u.pacer.state = .warm ∧ u.pacer.lastFired = true) →
        exec .slotBoundary s = .next { u with pacer := { u.pacer with lastFired := false } }) ∧
      (∀ c, u.offer = some c → u.pacer.state = .cool ∨ (u.pacer.state = .warm ∧ u.pacer.lastFired = false) →
        u.arb.waitPrint = false → ∃ t, exec .slotBoundary s = .next t ∧
          t.pacer = { u.pacer with
            lastFired := true, h := min (u.pacer.h + 64 * firedDots c u.printer.excluded) 65535 } ∧
          t.printer.column = u.printer.column ∧ t.store.cells = u.store.cells ∧ t.diag.latched = u.diag.latched ∧
          (∃ k, t.printer.hand = some k ∧ k.char = c ∧ k.dots = firedDots c u.printer.excluded ∧
            k.needles = strikingNeedles c u.printer.excluded ∧
            (k.dots = 0 → k.stage = .stepDue ∨ k.stage = .stepping) ∧
            (k.dots ≠ 0 → u.arb.holder ≠ none ∨ u.arb.supplyLow = true →
              k.stage = .waiting ∧ t.arb.waitPrint = true) ∧
            (k.dots ≠ 0 → u.arb.holder = none → u.arb.supplyLow = false → u.arb.waitTest = false →
              u.arb.waitPunch = false →
              k.stage = .firing ∧ t.arb.holder = some .print ∧ t.arb.until' = t.now + 2112))))

/-- The choice among waiting requests when the supply falls free (R163), and that none is granted while it is held
or low (R162, R164); TEST leaves the last-granted party as it was. The granted character or row fires (R152, R180),
and the channel of the sweep comes under test (R195). -/
def Obligations.SupplyIsGrantedInTurn : Prop :=
  ∀ s : State,
    (s.arb.holder ≠ none ∨ s.arb.supplyLow = true → s.grantIfFree = s) ∧
    (s.arb.holder = none → s.arb.supplyLow = false →
      (s.arb.waitTest = true → s.grantIfFree.arb = { s.arb with
        holder := some .test, waitTest := false, until' := s.now + 528 }) ∧
      (s.arb.waitTest = false → s.arb.waitPrint = true → s.arb.waitPunch = false ∨ s.arb.last = .punch →
        s.grantIfFree.arb = { s.arb with
          holder := some .print, waitPrint := false, until' := s.now + 2112, last := .print }) ∧
      (s.arb.waitTest = false → s.arb.waitPunch = true → s.arb.waitPrint = false ∨ s.arb.last = .print →
        s.grantIfFree.arb = { s.arb with
          holder := some .punch, waitPunch := false, until' := s.now + 2112, last := .punch }) ∧
      (s.arb.waitTest = false → s.arb.waitPrint = false → s.arb.waitPunch = false → s.grantIfFree = s) ∧
      (s.arb.waitTest = true → (s.diag.sweep = none → s.grantIfFree = { s with arb := s.grantIfFree.arb }) ∧
        ∀ w, s.diag.sweep = some w → s.grantIfFree = { s with
          arb := s.grantIfFree.arb
          diag := { s.diag with
            sweep := some { w with stage := .granted }
            testing := some { index := w.index, counts := true } } }) ∧
      (s.grantIfFree.arb.holder = some .print → s.grantIfFree = { s with
        arb := s.grantIfFree.arb
        printer := { s.printer with hand := s.printer.hand.map fun k => { k with stage := .firing } } }) ∧
      (s.grantIfFree.arb.holder = some .punch → s.grantIfFree = { s with
        arb := s.grantIfFree.arb
        punch := { s.punch with row := s.punch.row.map fun r => { r with stage := .firing, since := s.now } } }))

/-- The end of a grant (R152, R180, R189, R195): a fired character's step is due, a fired row's advance is due or
the punch enters FAULT, a test's finding is merged, a failing one latches SELF-CHECK and reaches the channel's owner
(R158, R159, R189, R196). The holder hands the supply back, and a request that waits is granted it (R162, R163). A
test request not granted in 200 ms leaves its channel untested (R195, R198). The sweep goes on to the next channel,
and ends after the 17th (R197): a status sweep makes its request pending, an idle one is over, and a self-check lets
the drivers go and gives place to a status sweep that waited for it. A test that an abandoned idle sweep left
running counts for its channel and moves no sweep on (R197), and 60 s of READY begin an idle sweep. The model's
choices in it: logs 2, 19, 20, 21, 25, 46, 47, 49, 50. -/
def Obligations.GrantsAndTestsEnd : Prop :=
  ∀ s : State, s.powered = true →
    (∀ f k, s.arb.holder = some .print → s.arb.waitPrint = false → s.printer.hand = some k →
      s.printer.state ≠ .fault → ∃ t, exec (.grantEnd f) s = .next t ∧ t.now = max s.now s.arb.until' ∧
        t.pacer = s.pacer ∧ t.diag.codes = s.diag.codes ∧
        t.arb.holder ≠ some .print ∧ t.arb.waitPrint = false ∧
        (s.arb.supplyLow = false → s.arb.waitTest = true →
          t.arb.holder = some .test ∧ t.arb.until' = t.now + 528 ∧ t.arb.last = s.arb.last) ∧
        (s.arb.supplyLow = false → s.arb.waitTest = false → s.arb.waitPunch = true →
          t.arb.holder = some .punch ∧ t.arb.until' = t.now + 2112 ∧ t.arb.last = .punch) ∧
        (s.arb.supplyLow = true → t.arb.holder = none) ∧
        ∃ k', t.printer.hand = some k' ∧ k'.char = k.char ∧ k'.dots = k.dots ∧
          (k'.stage = .stepDue ∨ k'.stage = .stepping) ∧
          (s.printer.state = .printing → s.store.printWork = true → s.printer.motion = .none →
            (k'.stage = .stepping ↔ t.motionBlocked = false))) ∧
    (∀ f r, s.arb.holder = some .punch → s.arb.waitPunch = false → s.punch.row = some r →
      ∃ t, exec (.grantEnd f) s = .next t ∧ t.now = max s.now s.arb.until' ∧
        t.arb.holder ≠ some .punch ∧ t.arb.waitPunch = false ∧
        (s.arb.supplyLow = false → s.arb.waitTest = true →
          t.arb.holder = some .test ∧ t.arb.until' = t.now + 528 ∧ t.arb.last = s.arb.last) ∧
        (s.arb.supplyLow = false → s.arb.waitTest = false → s.arb.waitPrint = true →
          t.arb.holder = some .print ∧ t.arb.until' = t.now + 2112 ∧ t.arb.last = .print) ∧
        (s.arb.supplyLow = true → t.arb.holder = none) ∧
        (s.punch.faultPending = true → t.punch.state = .fault ∧ t.punch.row = none) ∧
        (s.punch.faultPending = false → ∃ r', t.punch.row = some r' ∧ r'.content = r.content ∧
          ((r'.stage = .advanceDue ∧ t.advanceBlocked = true) ∨
            (r'.stage = .advancing ∧ t.advanceBlocked = false)))) ∧
    (∀ f w, s.arb.holder = some .test → s.diag.testing = some { index := w.index, counts := true } →
      s.diag.sweep = some w → w.index < 17 →
      ∃ t, exec (.grantEnd f) s = .next t ∧ t.now = max s.now s.arb.until' ∧
        t.diag.codes = s.diag.codes.modify w.index (mergeCode (findingCode f)) ∧
        (f ≠ .passed → Event.selfCheck ∈ t.diag.latched) ∧
        (f = .passed → t.printer.excluded = s.printer.excluded) ∧
        (f ≠ .passed → w.index < 7 → w.index ∈ t.printer.excluded) ∧
        (f ≠ .passed → w.index < 7 → w.index ∉ s.printer.excluded → s.printer.excluded.length = 2 →
          s.printer.state = .ready → s.printer.motion = .none → t.printer.state = .fault) ∧
        (f ≠ .passed → 7 ≤ w.index → w.index ≤ 15 → (∀ r, s.punch.row = some r → r.stage ≠ .firing) →
          t.punch.state = .fault) ∧
        (f ≠ .passed → w.index = 16 → t.printer.state = .fault ∧ t.printer.column = none ∧
          t.printer.motion = .none) ∧
        (f = .passed → s.arb.waitTest = false → s.arb.supplyLow = false →
          (s.arb.waitPrint = true → s.arb.waitPunch = false ∨ s.arb.last = .punch →
            t.arb.holder = some .print ∧ t.arb.until' = t.now + 2112 ∧ t.arb.last = .print) ∧
          (s.arb.waitPunch = true → s.arb.waitPrint = false ∨ s.arb.last = .print →
            t.arb.holder = some .punch ∧ t.arb.until' = t.now + 2112 ∧ t.arb.last = .punch)) ∧
        (w.index < 16 → ∃ w', t.diag.sweep = some w' ∧ w'.kind = w.kind ∧ w'.index = w.index + 1 ∧
          w'.findings = w.findings.set w.index (some f)) ∧
        (w.index = 16 → w.kind = .status → t.diag.sweep = none ∧ t.diag.request = .pending ∧
          t.diag.findings = w.findings.set 16 (some f) ∧ t.store.requests = s.store.requests ++ [.status]) ∧
        (w.index = 16 → w.kind = .idle → t.diag.sweep = none) ∧
        (w.index = 16 → w.kind = .selfCheck → t.driversHeld = false ∧
          (s.keys.seeding = 16 → t.diag.starting = false) ∧
          (s.diag.request = .sweeping → ∃ w', t.diag.sweep = some w' ∧ w'.kind = .status ∧ w'.index = 0 ∧
            w'.findings = List.replicate 17 none) ∧
          (s.diag.request ≠ .sweeping → t.diag.sweep = none))) ∧
    (∀ f i, s.arb.holder = some .test → s.diag.testing = some { index := i, counts := false } → i < 17 →
      ∃ t, exec (.grantEnd f) s = .next t ∧ t.now = max s.now s.arb.until' ∧
        t.diag.codes = s.diag.codes.modify i (mergeCode (findingCode f)) ∧
        (f ≠ .passed → Event.selfCheck ∈ t.diag.latched) ∧
        (f = .passed → t.printer.excluded = s.printer.excluded) ∧
        (f ≠ .passed → i < 7 → i ∈ t.printer.excluded) ∧
        (f ≠ .passed → 7 ≤ i → i ≤ 15 → (∀ r, s.punch.row = some r → r.stage ≠ .firing) →
          t.punch.state = .fault) ∧
        (f ≠ .passed → i = 16 → t.printer.state = .fault ∧ t.printer.column = none ∧ t.printer.motion = .none) ∧
        t.diag.request = s.diag.request ∧ t.diag.findings = s.diag.findings ∧
        (s.diag.sweep = none → t.diag.sweep = none) ∧
        (∀ w, s.diag.sweep = some w → ∃ w', t.diag.sweep = some w' ∧ w'.kind = w.kind ∧ w'.index = w.index ∧
          w'.findings = w.findings)) ∧
    (∀ w since, s.diag.sweep = some w → w.stage = .waiting since →
      ∃ t, exec .testRequestTimeout s = .next t ∧ t.now = max s.now (since + 52800) ∧
        t.diag.codes = s.diag.codes ∧ (w.kind = .selfCheck → Event.selfCheck ∈ t.diag.latched) ∧
        (w.index < 16 → ∃ w', t.diag.sweep = some w' ∧ w'.kind = w.kind ∧ w'.index = w.index + 1 ∧
          w'.findings = w.findings.set w.index none) ∧
        (w.index = 16 → w.kind = .status → t.diag.sweep = none ∧ t.diag.request = .pending ∧
          t.diag.findings = w.findings.set 16 none ∧ t.store.requests = s.store.requests ++ [.status]) ∧
        (w.index = 16 → w.kind = .idle → t.diag.sweep = none ∧ t.diag.request = s.diag.request) ∧
        (w.index = 16 → w.kind = .selfCheck → t.driversHeld = false ∧
          (s.keys.seeding = 16 → t.diag.starting = false) ∧
          (s.diag.request = .sweeping → ∃ w', t.diag.sweep = some w' ∧ w'.kind = .status ∧ w'.index = 0 ∧
            w'.findings = List.replicate 17 none) ∧
          (s.diag.request ≠ .sweeping → t.diag.sweep = none))) ∧
    (∀ since, s.diag.idleSince = some since → s.printer.state = .ready →
      (∀ w, s.diag.sweep = some w → exec .idleSweep s = .next { s.reach (since + ms 60000) with
        diag := { s.diag with idleSince := some (max s.now (since + ms 60000)) } }) ∧
      (s.diag.sweep = none → ∃ t, exec .idleSweep s = .next t ∧ t.now = max s.now (since + ms 60000) ∧
        ∃ w, t.diag.sweep = some w ∧ w.kind = .idle ∧ w.index = 0 ∧ t.diag.latched = s.diag.latched))

/-- The channels in their fixed order and when each is driven (R179, R193), and the worse of two findings (R193). An
overcurrent finding on a driven channel becomes its code and reaches its owner (R158, R159, R189, R193, R194, R196),
and latches nothing: a row FIRING runs its grant before the punch enters FAULT, and an advance is cut at once; a
channel not driven gives none. A needle joins the excluded set once, and the third puts the printer in FAULT, at
once or after the firing, step or motion in hand (R158, R159). SUPPLY LOW is latched and holds grants back until its
end (R164); a report of the level it has already changes nothing (log 3). The model's choices in it: logs 3, 25, 40,
41, 42, 47, 49, 50, 51. -/
def Obligations.OvercurrentAndSupplyLow : Prop :=
  ((∀ i : Fin 7, channelIndex (.needle i) = i.val) ∧ (∀ i : Fin 8, channelIndex (.track i) = 7 + i.val) ∧
    channelIndex .tapeAdvance = 15 ∧ channelIndex .motion = 16 ∧
    findingCode .passed = .passed ∧ findingCode .opened = .opened ∧ findingCode .shorted = .shorted ∧
    ∀ new old : ChanCode, mergeCode new old = (
      if new = .overcurrent ∨ old = .overcurrent then .overcurrent
      else if new = .shorted ∨ old = .shorted then .shorted
      else if new = .opened ∨ old = .opened then .opened
      else if new = .passed ∨ old = .passed then .passed else .notTested)) ∧
  (∀ s v : State,
    (s.printer.hand = none → v = s) →
    (∀ k, s.printer.hand = some k → (k.stage = .firing → v = s) ∧
      (k.stage = .waiting → v = { s with
        arb := { s.arb with waitPrint := false }, printer := { s.printer with hand := none } }) ∧
      (k.stage = .stepDue ∨ k.stage = .stepping → v = { s with printer := { s.printer with hand := none } })) →
    s.enterPrinterFault = { v with
      printer := { v.printer with state := .fault, pendingFeeds := 0, stop := .none, paperMeasure := none }
      diag := { s.diag with idleSince := none } }) ∧
  (∀ (s u : State) (n : Nat), u = { s with printer := { s.printer with excluded := s.printer.excluded ++ [n] } } →
    (n ∈ s.printer.excluded → s.excludeNeedle n = s) ∧
    (n ∉ s.printer.excluded → s.printer.excluded.length ≠ 2 ∨ s.printer.state = .fault → s.excludeNeedle n = u) ∧
    (n ∉ s.printer.excluded → s.printer.excluded.length = 2 → s.printer.state ≠ .fault →
      (s.printer.motion ≠ .none ∨
          (s.printer.state = .printing ∧ ∃ k, s.printer.hand = some k ∧ k.stage ≠ .waiting) →
        s.excludeNeedle n = { u with printer := { u.printer with stop := .fault } }) ∧
      (s.printer.motion = .none → s.printer.state ≠ .printing ∨ s.printer.hand = none →
        (s.excludeNeedle n).printer.state = .fault ∧ (s.excludeNeedle n).printer.excluded = u.printer.excluded ∧
        (s.excludeNeedle n).printer.pendingFeeds = 0 ∧ (s.excludeNeedle n).printer.stop = .none ∧
        s.excludeNeedle n = u.enterPrinterFault) ∧
      (∀ k, s.printer.motion = .none → s.printer.hand = some k → k.stage = .waiting →
        (s.excludeNeedle n).printer.state = .fault ∧ (s.excludeNeedle n).printer.hand = none ∧
        (s.excludeNeedle n).arb = { s.arb with waitPrint := false }))) ∧
  ∀ s : State, s.powered = true →
    (∀ ch, s.drives ch = false → exec (.overcurrentFinding ch) s = .next s) ∧
    (∀ ch, s.drives ch = true → s.diag.codes.length = 17 →
      ∃ t, exec (.overcurrentFinding ch) s = .next t ∧
        t.diag.codes = s.diag.codes.set (channelIndex ch) .overcurrent ∧ t.diag.latched = s.diag.latched ∧
        (∀ i, ch = .needle i → s.printer.excluded.contains i.val = false →
          t.printer.excluded = s.printer.excluded ++ [i.val]) ∧
        ((∃ i, ch = .track i) ∨ ch = .tapeAdvance → t.punch.state = .fault ∨ t.punch.faultPending = true) ∧
        (∀ r, (∃ i, ch = .track i) ∨ ch = .tapeAdvance → s.punch.state ≠ .fault → s.punch.row = some r →
          (r.stage = .firing → t.punch = { s.punch with
            faultPending := true, manual := 0, suspendPending := false, tapeOutPending := false }) ∧
          (r.stage = .advancing → t.punch = { s.punch with
            state := .fault, row := none, manual := 0, suspendPending := false, tapeOutPending := false
            faultPending := false, tapeMeasure := none })) ∧
        (ch = .motion → t.printer.state = .fault ∧ t.printer.motion = .none ∧ t.printer.column = none ∧
          (s.printer.state ≠ .fault → t.printer.pendingFeeds = 0))) ∧
    (∀ i, s.drives (.needle i) = true ↔ s.arb.holder = some .print ∧
      ∃ k, s.printer.hand = some k ∧ k.stage = .firing ∧ i.val ∈ k.needles) ∧
    (∀ i, s.drives (.track i) = true ↔ s.arb.holder = some .punch ∧
      ∃ r, s.punch.row = some r ∧ r.stage = .firing ∧
        (i.val = 7 ∨ ∃ c, r.content = .cell c ∧ c.getLsbD i.val = true)) ∧
    (s.drives .tapeAdvance = true ↔ ∃ r, s.punch.row = some r ∧ r.stage = .advancing) ∧
    (s.drives .motion = true ↔ s.printer.motion ≠ .none) ∧
    (s.arb.supplyLow = false →
      exec .supplyLowOnset s = .next ({ s with arb := { s.arb with supplyLow := true } }.latch .supplyLow) ∧
      exec .supplyLowEnd s = .next s) ∧
    (s.arb.supplyLow = true → exec .supplyLowOnset s = .next s ∧
      exec .supplyLowEnd s = .next ({ s with arb := { s.arb with supplyLow := false } }.grantIfFree))

/-! ### Printing -/

/-- The printer's walk: the phases of a record (R145), its heading and end lines (R146, R147), the name of the end
reason and the dropped count without leading zeros among them, the claim done at their end with its position at the
length, and reclaim (R12, R13), its cells by their codes (R148), the wrap at column 72 (R149), what is offered at a
boundary (R151), and what goes before a record's next piece of work: an owed return, an owed pair, a feed asked for
by key (R153, R155, R157). The motions (R148, R152 to R155): a step raises the column and counts its character, and
so does the return or feed of a CR or LF cell; an end line that is complete owes a pair; a return stops at home, or
fails with JAM and FAULT after its last permitted step; its end puts the carriage at column 0 with no return owed; a
feed leaves the column. A stop that waited for a step or motion takes effect at its end (R156, R159). The current
claim is that of the first record, in store order, whose print claim is not done (R12). No motion begins during the
self-check, under a TEST grant or while the test of MOT waits (R195, R198). The model's choices in it: logs 2, 5,
20, 23, 24, 25, 41. -/
def Obligations.MotionsRun : Prop :=
  (∀ (st : Store) (l l' : List Rec) (r : Rec), st.recs = l ++ r :: l' → (∀ x ∈ l, x.print.done = true) →
    r.print.done = false →
    st.printCurrent = some r ∧ ∀ f, st.onPrint f = { st with recs := l ++ f r :: l' }) ∧
  (∀ st : Store, (st.printCurrent = none ↔ ∀ r ∈ st.recs, r.print.done = true) ∧
    (st.printWork = true ↔ ∃ r ∈ st.recs, r.print.done = false)) ∧
  (∀ (s : State) (l l' : List Rec) (r : Rec), s.store.recs = l ++ r :: l' → (∀ x ∈ l, x.print.done = true) →
    r.print.done = false → s.finishPrint = { s with store := { s.store with recs :=
      (l ++ { r with print := { pos := r.length, done := true } } :: l').dropWhile Rec.reclaimable } }) ∧
  (∀ s : State,
    (s.driversHeld = true ↔ ∃ w, s.diag.sweep = some w ∧ w.kind = .selfCheck) ∧
    (s.motionBlocked = true ↔ s.driversHeld = true ∨ s.arb.holder = some .test ∨
      ∃ w, s.diag.sweep = some w ∧ w.index = 16 ∧ w.stage ≠ .granted)) ∧
  ((∀ t : String, textOf t = t.toList.map fun ch => BitVec.ofNat 7 ch.toNat) ∧
    EndReason.complete.name = [] ∧ EndReason.broken.name = textOf "BROKEN" ∧
    EndReason.stalled.name = textOf "STALLED" ∧ EndReason.abandoned.name = textOf "ABANDONED" ∧
    EndReason.lineLost.name = textOf "LINE LOST" ∧ EndReason.restarted.name = textOf "RESTARTED" ∧
    EndReason.split.name = textOf "SPLIT") ∧
  (∀ n, n ≤ 65535 → ∃ ds : List Nat, plainDecimal n = ds.map (fun d => BitVec.ofNat 7 (0x30 + d)) ∧
    (∀ d ∈ ds, d ≤ 9) ∧ ds.foldl (fun a d => 10 * a + d) 0 = n ∧ ds ≠ [] ∧ (ds.head? = some 0 → ds = [0])) ∧
  (∀ (s : State) (r : Rec),
    (s.printer.phase = .none →
      s.phaseWork r = some { s with printer := { s.printer with phase := .align, index := 0 } }) ∧
    (s.printer.phase = .align → s.phaseWork r = some (if s.printer.column = some 0
      then { s with printer := { s.printer with phase := .heading, index := 0 } }
      else { s with printer := { s.printer with pair := .both } })) ∧
    (s.printer.phase = .heading → s.phaseWork r = if s.printer.index < r.heading.length then s.awaitSlot
      else some { s with printer := { s.printer with phase := .text, index := 0 } }) ∧
    (s.printer.phase = .text → r.print.pos < r.length →
      s.phaseWork r = s.takeCell (s.store.cell (r.start + r.print.pos))) ∧
    (s.printer.phase = .text → r.length ≤ r.print.pos → s.phaseWork r = if r.isOpen = true then none
      else some { s with printer := { s.printer with phase := .closing, index := 0 } }) ∧
    (s.printer.phase = .closing → s.phaseWork r = some (if s.printer.column = some 0
      then { s with printer := { s.printer with phase := .endLines, index := 0 } }
      else { s with printer := { s.printer with pair := .both } })) ∧
    (s.printer.phase = .endLines → s.phaseWork r = if s.printer.index < r.endLines.length then s.awaitSlot
      else some { s.finishPrint with printer := { s.printer with phase := .none, index := 0 } }) ∧
    s.awaitSlot = (if s.printer.column = some 72 then some { s with printer := { s.printer with pair := .both } }
      else none)) ∧
  (∀ (s : State) (c : Code),
    (0x20 ≤ c.toNat → s.takeCell c = s.awaitSlot) ∧
    s.takeCell 0x0D#7 = s.beginReturn .cell ∧ s.takeCell 0x0A#7 = s.beginFeed .cell ∧
    s.takeCell 0x07#7 = some { s with
      bells := if s.answer.attend = .attended then s.bells + 1 else s.bells
      store := s.store.onPrint fun x => { x with print := { x.print with pos := x.print.pos + 1 } } } ∧
    (c.toNat < 0x20 → c ≠ 0x0D#7 → c ≠ 0x0A#7 → c ≠ 0x07#7 → s.takeCell c = some { s with
      store := s.store.onPrint fun x => { x with print := { x.print with pos := x.print.pos + 1 } } })) ∧
  (∀ r : Rec,
    (∀ d nn, r.peer = some d →
      nn = [BitVec.ofNat 7 (0x30 + d.toNat / 10), BitVec.ofNat 7 (0x30 + d.toNat % 10)] →
      (r.kind = .received → r.heading = nn ++ [0x3E#7, 0x20#7]) ∧
      (r.kind = .overheard → r.heading = nn ++ [0x3A#7, 0x20#7]) ∧
      (r.kind = .sent → r.heading = nn ++ [0x3C#7, 0x20#7]) ∧
      (r.kind = .ident → r.heading = nn ++ [0x20#7, 0x49#7, 0x53#7, 0x20#7])) ∧
    (r.kind = .sent → r.peer = none → r.heading = [0x2A#7, 0x2A#7, 0x3C#7, 0x20#7]) ∧
    (r.kind = .localTyping ∨ r.kind = .confirm ∨ r.kind = .status → r.heading = []) ∧
    r.endLines = r.reasonLine ++ r.truncatedLine ∧
    (r.state = .opened ∨ r.state = .closed .complete → r.reasonLine = []) ∧
    (∀ reason, r.state = .closed reason → r.reasonLine = reason.name) ∧
    (r.truncated = false → r.truncatedLine = []) ∧
    (r.truncated = true → r.truncatedLine = [0x54#7, 0x52#7, 0x55#7, 0x4E#7, 0x43#7, 0x41#7, 0x54#7, 0x45#7, 0x44#7,
      0x20#7] ++ plainDecimal r.dropped)) ∧
  (∀ s : State,
    (s.printer.motion ≠ .none → s.printingWork = none) ∧
    (s.printer.motion = .none → ∀ k, s.printer.hand = some k →
      s.printingWork = if k.stage = .stepDue then s.beginStep k else none) ∧
    (s.printer.motion = .none → s.printer.hand = none →
      (s.printer.returnOwed = true → s.printingWork = s.beginReturn .owed) ∧
      (s.printer.returnOwed = false →
        (s.printer.pair = .both → s.printingWork = s.beginReturn .pair) ∧
        (s.printer.pair = .feedOnly → s.printingWork = s.beginFeed .pair) ∧
        (s.printer.pair = .none → s.printer.pendingFeeds ≠ 0 → s.printingWork = s.beginFeed .feedKey) ∧
        (s.printer.pair = .none → s.printer.pendingFeeds = 0 →
          (s.store.printCurrent = none → s.printingWork = none) ∧
          ∀ r, s.store.printCurrent = some r → s.printingWork = s.phaseWork r))) ∧
    (s.motionBlocked = true → ∀ c k, s.beginReturn c = none ∧ s.beginFeed c = none ∧ s.beginStep k = none) ∧
    (s.motionBlocked = false → ∀ c k,
      (∀ p, (s.printer.column = none → p = 88) → (∀ n, s.printer.column = some n → p = n + 8) →
        s.beginReturn c = some { s with printer := { s.printer with
          pair := .none, motion := .carriage 0 p false s.now c } }) ∧
      s.beginFeed c = some { s with printer := { s.printer with
        pair := .none, selector := .feed, motion := .feed s.now c } } ∧
      s.beginStep k = some { s with printer := { s.printer with
        motion := .step s.now, hand := some { k with stage := .stepping } } }) ∧
    (∀ c, s.offer = some c ↔ s.printer.state = .printing ∧ s.printer.motion = .none ∧ s.printer.hand = none ∧
      s.printer.returnOwed = false ∧ s.printer.pendingFeeds = 0 ∧ s.printer.pair = .none ∧
      s.printer.column ≠ some 72 ∧ s.driversHeld = false ∧ ∃ r, s.store.printCurrent = some r ∧
        ((s.printer.phase = .heading ∧ r.heading[s.printer.index]? = some c) ∨
          (s.printer.phase = .text ∧ r.print.pos < r.length ∧ s.store.cell (r.start + r.print.pos) = c ∧
            0x20 ≤ c.toNat) ∨
          (s.printer.phase = .endLines ∧ r.endLines[s.printer.index]? = some c)))) ∧
  ∀ s : State, s.powered = true →
    (∀ since u v, s.printer.motion = .step since →
      u = { s.reach (since + 2640) with printer := { s.printer with
        motion := .none, hand := none, column := s.printer.column.map (· + 1) } } →
      (s.printer.phase = .text → v = { u with
        store := s.store.onPrint fun x => { x with print := { x.print with pos := x.print.pos + 1 } } }) →
      (s.printer.phase = .heading → v = { u with printer := { u.printer with index := s.printer.index + 1 } }) →
      (s.printer.phase = .endLines → ∃ r, s.store.printCurrent = some r ∧ v = { u with printer := { u.printer with
        index := s.printer.index + 1
        pair := if s.printer.index + 1 = r.reasonLine.length ∨ s.printer.index + 1 = r.endLines.length then .both
          else s.printer.pair } }) →
      (s.printer.phase = .none ∨ s.printer.phase = .align ∨ s.printer.phase = .closing → v = u) →
      ∃ t, exec .stepEnd s = .next t ∧
        (s.printer.stop = .none → FollowUp v t ∧
          (∀ r, s.printer.phase = .heading → s.store.printCurrent = some r →
            s.printer.index + 1 < r.heading.length →
            t.printer.phase = .heading ∧ t.printer.index = s.printer.index + 1) ∧
          (∀ r, s.printer.phase = .endLines → s.store.printCurrent = some r →
            (s.printer.index + 1 < r.endLines.length →
              t.printer.phase = .endLines ∧ t.printer.index = s.printer.index + 1) ∧
            (s.printer.state = .printing → s.printer.returnOwed = false → s.diag.sweep = none →
              s.arb.holder ≠ some .test →
              s.printer.index + 1 = r.reasonLine.length ∨ s.printer.index + 1 = r.endLines.length →
              ∃ p, t.printer.motion = .carriage 0 p false t.now .pair))) ∧
        (s.printer.stop = .paperOut → FollowUp v.enterPaperOut t ∧ t.printer.state = .paperOut ∧
          t.printer.phase = s.printer.phase ∧ t.printer.index = v.printer.index ∧
          t.printer.hand = none ∧ t.printer.motion = .none ∧ Event.paperOut ∈ t.diag.latched) ∧
        (s.printer.stop = .fault → FollowUp v.enterPrinterFault t ∧ t.printer.state = .fault ∧
          t.printer.phase = s.printer.phase ∧ t.printer.index = v.printer.index ∧
          t.printer.hand = none ∧ t.printer.motion = .none)) ∧
    (∀ steps permitted since cause, s.printer.motion = .carriage steps permitted false since cause →
      (steps < permitted →
        exec (.carriageReturnStep true) s = .next { s.reach (since + ms (10 * steps)) with
          printer := { s.printer with motion :=
            (Motion.carriage steps permitted true (max s.now (since + ms (10 * steps))) cause) } } ∧
        exec (.carriageReturnStep false) s = .next { s.reach (since + ms (10 * steps)) with
          printer := { s.printer with motion := (Motion.carriage (steps + 1) permitted false since cause) } }) ∧
      (permitted ≤ steps → ∃ t, exec .jam s = .next t ∧ t.printer.state = .fault ∧
        t.printer.motion = .none ∧ t.printer.pendingFeeds = 0 ∧ t.printer.column = s.printer.column ∧
        t.printer.phase = s.printer.phase ∧ t.printer.index = s.printer.index ∧
        Event.jam ∈ t.diag.latched)) ∧
    (∀ steps permitted since cause u, s.printer.motion = .carriage steps permitted true since cause →
      s.printer.hand = none →
      u = { s.reach (since + 10560) with
        printer := { s.printer with
          motion := .none, column := some 0, returnOwed := false
          pair := if cause = .pair then .feedOnly else s.printer.pair }
        store := if cause = .cell
          then s.store.onPrint fun x => { x with print := { x.print with pos := x.print.pos + 1 } }
          else s.store } →
      ∃ t, exec .carriageReturnEnd s = .next t ∧
        (s.printer.stop = .none → FollowUp u t ∧
          (cause = .pair → s.printer.state = .printing → s.store.printWork = true → s.diag.sweep = none →
            s.arb.holder ≠ some .test → t.printer.motion = .feed t.now .pair ∧ t.printer.selector = .feed)) ∧
        (s.printer.stop = .paperOut → FollowUp u.enterPaperOut t ∧ t.printer.state = .paperOut ∧
          t.printer.column = some 0 ∧ t.printer.returnOwed = false ∧ t.printer.pair = .none ∧
          Event.paperOut ∈ t.diag.latched) ∧
        (s.printer.stop = .fault → FollowUp u.enterPrinterFault t ∧ t.printer.state = .fault ∧
          t.printer.column = some 0)) ∧
    (∀ since cause u, s.printer.motion = .feed since cause → s.printer.hand = none →
      u = { s.reach (since + 18480) with
        printer := { s.printer with
          motion := .none, selector := .carriage
          pendingFeeds := if cause = .feedKey then s.printer.pendingFeeds - 1 else s.printer.pendingFeeds }
        store := if cause = .cell
          then s.store.onPrint fun x => { x with print := { x.print with pos := x.print.pos + 1 } }
          else s.store } →
      ∃ t, exec .lineFeedEnd s = .next t ∧ t.printer.column = s.printer.column ∧
        (s.printer.stop = .none → FollowUp u t) ∧
        (s.printer.stop = .paperOut → FollowUp u.enterPaperOut t ∧ t.printer.state = .paperOut ∧
          t.printer.pendingFeeds = 0 ∧ Event.paperOut ∈ t.diag.latched) ∧
        (s.printer.stop = .fault → FollowUp u.enterPrinterFault t ∧ t.printer.state = .fault ∧
          t.printer.pendingFeeds = 0))

/-- Spin-up, work and paper (R143, R156, R157, R197): a READY printer with work becomes PRINTING and a PRINTING one
without becomes READY, the idle measure started, and every command leaves it so that READY means no work, PRINTING
means work, and the idle measure runs exactly in READY; 400 ms of spin-up make the printer READY, or PRINTING at
once; paper absent makes PAPER OUT, latched, with a return owed unless the column is 0, once what is in hand has
completed, and a character that waits for its grant goes back, its request withdrawn (R165); in PAPER OUT the return
of paper starts the paper measure, which stops while it is absent, and 2 s of it restore the printer. The model's
choices in it: logs 2, 22, 25, 41, 49. -/
def Obligations.SpinUpAndPaperAreTaken : Prop :=
  (∀ c s t, s.StoreShape → s.PrinterAtWork → exec c s = .next t → t.PrinterAtWork) ∧
  (∀ c s t, exec c s = .next t →
    ∀ x, t.diag.idleSince = some x → s.diag.idleSince = some x ∨ x = t.now) ∧
  (∀ s : State,
    (s.printerHasWork = true ↔ s.store.printWork = true ∨ s.printer.pendingFeeds ≠ 0 ∨
      s.printer.returnOwed = true ∨ s.printer.motion ≠ .none) ∧
    (s.printer.state = .ready → s.printerHasWork = true → s.printerOnce = some { s with
      printer := { s.printer with state := .printing }, diag := { s.diag with idleSince := none } }) ∧
    (s.printer.state = .printing → s.printerHasWork = false → s.printerOnce = some { s with
      printer := { s.printer with state := .ready }, diag := { s.diag with idleSince := some s.now } }) ∧
    (s.printer.state = .printing → s.printerHasWork = true → s.printerOnce = s.printingWork) ∧
    (s.printer.state = .ready → s.printerHasWork = false → s.printerOnce = none) ∧
    (s.printer.state ≠ .ready → s.printer.state ≠ .printing → s.printerOnce = none) ∧
    (s.printer.busy = true ↔ s.printer.motion ≠ .none ∨ ∃ k, s.printer.hand = some k ∧ k.stage ≠ .waiting) ∧
    s.enterPaperOut = { s.latch .paperOut with
      printer := { s.printer with
        state := .paperOut, pendingFeeds := 0, stop := .none, pair := .none
        returnOwed := s.printer.returnOwed || s.printer.column != some 0
        paperMeasure := if s.printer.paperAbsent then none else some s.now }
      diag := { (s.latch .paperOut).diag with idleSince := none } }) ∧
  ∀ s : State, s.powered = true →
    (s.printer.state = .starting → s.answer.power = .active → ∃ t, exec .spinUpEnd s = .next t ∧
      t.now = max s.now (s.printer.spinUp + 105600) ∧
      (t.printer.state = .ready ∨ t.printer.state = .printing) ∧ t.printer.spunUp = true ∧
      t.printer.column = s.printer.column ∧ t.diag.latched = s.diag.latched) ∧
    (s.printer.state = .ready ∨ s.printer.state = .starting ∨ s.printer.state = .off ∨
        (s.printer.state = .printing ∧ s.printer.busy = false) →
      s.printer.stop ≠ .fault →
      ∃ t, exec (.paperAbsent true) s = .next t ∧ t.printer.state = .paperOut ∧ Event.paperOut ∈ t.diag.latched ∧
        t.printer.pendingFeeds = 0 ∧ t.printer.paperMeasure = none ∧ t.printer.paperAbsent = true ∧
        (∀ k, s.printer.hand = some k → k.stage = .waiting → t.printer.hand = none ∧ t.arb.waitPrint = false) ∧
        (∀ r r', s.store.printCurrent = some r → t.store.printCurrent = some r' → r'.print.pos = r.print.pos) ∧
        (s.printer.column ≠ some 0 → t.printer.returnOwed = true) ∧
        (s.printer.column = some 0 → t.printer.returnOwed = s.printer.returnOwed) ∧
        t.printer.phase = s.printer.phase ∧ t.printer.index = s.printer.index ∧
        t.printer.column = s.printer.column) ∧
    (s.printer.state = .printing → s.printer.busy = true → s.printer.stop ≠ .fault →
      exec (.paperAbsent true) s = .next { s with
        printer := { s.printer with stop := .paperOut, paperAbsent := true } }) ∧
    (s.printer.state ≠ .fault → s.printer.state ≠ .paperOut →
      (s.printer.stop = .fault →
        exec (.paperAbsent true) s = .next { s with printer := { s.printer with paperAbsent := true } }) ∧
      exec (.paperAbsent false) s = .next { s with printer := { s.printer with paperAbsent := false } }) ∧
    (s.printer.state = .paperOut →
      exec (.paperAbsent true) s = .next { s with
        printer := { s.printer with paperAbsent := true, paperMeasure := none } } ∧
      (s.printer.paperMeasure = none → exec (.paperAbsent false) s = .next { s with
        printer := { s.printer with paperAbsent := false, paperMeasure := some s.now } })) ∧
    (s.printer.state = .fault → ∀ b, exec (.paperAbsent b) s = .next s) ∧
    (s.enterPaperOut.printer.paperMeasure = if s.printer.paperAbsent = true then none else some s.now) ∧
    (∀ since, s.printer.state = .paperOut → s.printer.paperMeasure = some since →
      ∃ t, exec .paperRestored s = .next t ∧ t.now = max s.now (since + 528000) ∧
        t.printer.paperMeasure = none ∧ t.printer.returnOwed = s.printer.returnOwed ∧
        (s.answer.power = .active → s.printer.spunUp = false →
          t.printer.state = .starting ∧ t.printer.spinUp = t.now) ∧
        (s.answer.power = .active → s.printer.spunUp = true →
          t.printer.state = .ready ∨ t.printer.state = .printing) ∧
        (s.answer.power ≠ .active → s.store.printWork = false → s.store.punchWork = false →
          t.printer.state = .off))

/-! ### Punching -/

/-- A claim is taken up by an IDLE punch (R178), with a leader row until ten are made and then the cell at its
position; the current claim being that of the first record, in store order, whose punch claim is neither done nor
skipped (R12, R175); manual leader is under way while rows are left or its last row is in hand (R188); a fired row's
advance begins unless a TEST grant is held or the test of TA waits (R195); it advances for 20 ms and settles for 22
(R180), and is counted at the end of its settling: a leader row, a cell or a row of manual leader. A claim whose
every row is made, its record CLOSED, is finished there (R181), before a TAPE OUT or a suspend that waited for the
row takes effect (R182, R186). The model's choices in it: logs 2, 4, 5, 20, 43, 48, 51. -/
def Obligations.PunchRowsRun : Prop :=
  (∀ (st : Store) (l l' : List Rec) (r : Rec) (p : PunchClaim), st.recs = l ++ r :: l' →
    (∀ x ∈ l, ∀ q, x.punch = some q → q.done = true ∨ q.skipped = true) →
    r.punch = some p → p.done = false → p.skipped = false →
    st.punchCurrent = some r ∧ r.punchPos = p.pos ∧ ∀ f, st.onPunch f = { st with recs := l ++ f r :: l' }) ∧
  (∀ st : Store,
    (st.punchCurrent = none ↔ ∀ r ∈ st.recs, ∀ p, r.punch = some p → p.done = true ∨ p.skipped = true) ∧
    (st.punchWork = true ↔ ∃ r ∈ st.recs, ∃ p, r.punch = some p ∧ p.done = false ∧ p.skipped = false)) ∧
  (∀ s : State,
    (s.advanceBlocked = true ↔ s.arb.holder = some .test ∨
      ∃ w, s.diag.sweep = some w ∧ w.index = 15 ∧ w.stage ≠ .granted) ∧
    (s.punch.manualUnderWay = true ↔ s.punch.manual ≠ 0 ∨ ∃ r, s.punch.row = some r ∧ r.content = .manual) ∧
    (∀ r, s.punch.row = some r → s.punchOnce = if r.stage = .advanceDue ∧ s.advanceBlocked = false
      then some { s with punch := { s.punch with row := some { r with stage := .advancing, since := s.now } } }
      else none) ∧
    (s.punch.row = none →
      (s.answer.power ≠ .active ∨ s.driversHeld = true ∨ s.punch.state = .tapeOut ∨ s.punch.state = .fault →
        s.punchOnce = none) ∧
      (s.answer.power = .active → s.driversHeld = false → ∀ take : RowContent → State,
        (∀ c, take c = { s with
          punch := { s.punch with row := some { content := c, stage := .waiting, since := s.now } }
          arb := { s.arb with waitPunch := true } }.grantIfFree) →
        (s.punch.state = .idle ∨ s.punch.state = .suspended →
          s.punchOnce = if s.punch.manual = 0 then none else some (take .manual)) ∧
        (s.punch.state = .running → s.store.punchCurrent = none →
          s.punchOnce = some { s with punch := { s.punch with state := .idle } }) ∧
        (∀ x, s.punch.state = .running → s.store.punchCurrent = some x →
          (s.punch.leader < 10 → s.punchOnce = some (take .leader)) ∧
          (10 ≤ s.punch.leader → x.punchPos < x.length →
            s.punchOnce = some (take (.cell (s.store.cell (x.start + x.punchPos))))) ∧
          (10 ≤ s.punch.leader → x.length ≤ x.punchPos →
            s.punchOnce = if x.isOpen = true then none else some s.finishEnded))))) ∧
  (∀ s : State,
    (∀ r l, s.punch.state = .running → 10 ≤ s.punch.leader → s.store.punchCurrent = some r →
      r.isOpen = false → r.length ≤ r.punchPos →
      l = (s.store.onPunch fun x =>
        { x with punch := x.punch.map fun p => { p with pos := x.length, done := true } }).recs →
      s.finishEnded = { s with
        punch := { s.punch with leader := 0 }
        store := { s.store with recs := l.dropWhile Rec.reclaimable } }) ∧
    (s.punch.state ≠ .running ∨ s.punch.leader < 10 ∨ s.store.punchCurrent = none ∨
        (∃ r, s.store.punchCurrent = some r ∧ (r.isOpen = true ∨ r.punchPos < r.length)) →
      s.finishEnded = s)) ∧
  ∀ s : State, s.powered = true →
    (∀ x, s.punch.state = .idle → s.store.punchCurrent = some x → s.answer.power = .active →
      s.punch.manualUnderWay = false → s.driversHeld = false →
      ∃ t, exec .takingAClaim s = .next t ∧ FollowUp s t ∧
        (s.punch.row = none → s.punch.leader < 10 → t.punch.state = .running ∧
          t.punch.leader = s.punch.leader ∧ ∃ r, t.punch.row = some r ∧ r.content = .leader) ∧
        (s.punch.row = none → 10 ≤ s.punch.leader → x.punchPos < x.length → t.punch.state = .running ∧
          t.punch.leader = s.punch.leader ∧
          ∃ r, t.punch.row = some r ∧ r.content = .cell (s.store.cell (x.start + x.punchPos)))) ∧
    (∀ r, s.punch.row = some r → r.stage = .advancing → ∃ t, exec .advancingEnd s = .next t ∧
      t.punch.row = some { r with stage := .settling, since := max s.now (r.since + 5280) } ∧
      FollowUp (s.reach (r.since + 5280)) t) ∧
    (∀ r u, s.punch.row = some r → r.stage = .settling →
      (r.content = .leader → u = { s.reach (r.since + 5808) with
        punch := { s.punch with row := none, leader := s.punch.leader + 1 } }) →
      (r.content = .manual → u = { s.reach (r.since + 5808) with
        punch := { s.punch with row := none, manual := s.punch.manual - 1 } }) →
      (∀ c, r.content = .cell c → u = { s.reach (r.since + 5808) with
        punch := { s.punch with row := none }
        store := s.store.onPunch fun x => { x with punch := x.punch.map fun p => { p with pos := p.pos + 1 } } }) →
      ∃ t, exec .rowSettlingEnd s = .next t ∧
        (s.punch.tapeOutPending = false → s.punch.suspendPending = false → FollowUp u.finishEnded t ∧
          (r.content = .leader → s.punch.leader < 9 → t.punch.leader = s.punch.leader + 1) ∧
          (r.content = .leader → s.punch.leader = 9 → ∀ x, s.store.punchCurrent = some x →
            x.isOpen = true ∨ x.punchPos < x.length → t.punch.leader = 10)) ∧
        (s.punch.tapeOutPending = true → FollowUp u.finishEnded.enterTapeOut t ∧ t.punch.state = .tapeOut ∧
          t.punch.row = none ∧ t.punch.manual = 0 ∧ t.punch.leader = u.finishEnded.punch.leader ∧
          Event.tapeOut ∈ t.diag.latched) ∧
        (s.punch.tapeOutPending = false → s.punch.suspendPending = true →
          FollowUp { u.finishEnded with
            punch := { u.finishEnded.punch with state := .suspended, suspendPending := false } } t ∧
          (u.punch.manual = 0 → t.punch.state = .suspended ∧ t.punch.row = none ∧
            t.punch.leader = u.finishEnded.punch.leader)))

/-- Tape (R185, R186, R187): its end takes the punch to TAPE OUT, latched, at once or after the row in its cycle, a
row that waits for its grant given up and its request withdrawn (R165); in TAPE OUT the return of tape starts the
tape measure, which stops while the tape is out, and 2 s of it make the punch SUSPENDED; TAPE LOW only changes its
report. The model's choices in it: logs 2, 22, 47, 50. -/
def Obligations.TapeIsSensed : Prop :=
  (∀ s : State,
    (s.punch.rowInCycle = true ↔ ∃ r, s.punch.row = some r ∧ r.stage ≠ .waiting) ∧
    s.enterTapeOut = { s.latch .tapeOut with punch := { s.punch with
      state := .tapeOut, manual := 0, suspendPending := false, tapeOutPending := false
      tapeMeasure := if s.punch.tapeOutActive then none else some s.now } }) ∧
  ∀ s : State, s.powered = true →
    (s.punch.state = .idle ∨ s.punch.state = .running ∨ s.punch.state = .suspended →
      exec (.tapeOut false) s = .next { s with punch := { s.punch with tapeOutActive := false } } ∧
      (s.punch.rowInCycle = true → exec (.tapeOut true) s = .next { s with
        punch := { s.punch with tapeOutPending := true, tapeOutActive := true } }) ∧
      (s.punch.rowInCycle = false → ∃ t, exec (.tapeOut true) s = .next t ∧ t.punch.state = .tapeOut ∧
        t.punch.row = none ∧ t.punch.manual = 0 ∧ t.punch.suspendPending = false ∧
        t.punch.tapeOutActive = true ∧ t.punch.tapeMeasure = none ∧ t.punch.leader = s.punch.leader ∧
        (∀ r r', s.store.punchCurrent = some r → t.store.punchCurrent = some r' → r'.punchPos = r.punchPos) ∧
        (s.punch.row ≠ none → t.arb.waitPunch = false) ∧ Event.tapeOut ∈ t.diag.latched)) ∧
    (s.punch.state = .tapeOut →
      exec (.tapeOut true) s = .next { s with
        punch := { s.punch with tapeOutActive := true, tapeMeasure := none } } ∧
      (s.punch.tapeMeasure = none → exec (.tapeOut false) s = .next { s with
        punch := { s.punch with tapeOutActive := false, tapeMeasure := some s.now } })) ∧
    (s.punch.state = .fault → ∀ b, exec (.tapeOut b) s = .next s) ∧
    (s.enterTapeOut.punch.tapeMeasure = if s.punch.tapeOutActive = true then none else some s.now) ∧
    (∀ since, s.punch.state = .tapeOut → s.punch.tapeMeasure = some since →
      ∃ t, exec .tapeRestored s = .next t ∧ t.now = max s.now (since + 528000) ∧
        t.punch.state = .suspended ∧ t.punch.leader = s.punch.leader ∧ t.punch.tapeMeasure = none) ∧
    (∀ b, exec (.tapeLow b) s = .next { s with diag := { s.diag with tapeLow := b } })

/-! ### ATTENTION -/

/-- ATTENTION is on while, and only while, one of the conditions of R206 holds; it is off after reset. -/
def Obligations.AttentionFollowsConditions : Prop :=
  State.reset.attention = false ∧ ∀ s : State, s.powered = true →
    (s.attention = true ↔
      (∃ e, e ∈ s.diag.latched ∧ e ≠ .power ∧ e ≠ .restart) ∨
      s.printer.state = .paperOut ∨ s.printer.state = .fault ∨
      s.punch.state = .tapeOut ∨ s.punch.state = .fault ∨ s.diag.tapeLow = true ∨
      s.store.free ≤ 256 ∨ s.store.freeRecs ≤ 2)

end
end

