-- ==== Sys2Proof/Laws/FollowUps.lean ====
section
/-! SUPPORT. The follow-ups of a command (log 5): `settle` changes nothing but what `FollowUp` lets it change. Each
operation that `settle` is made of has its lemma here, and every proof about a command cites `State.settle_followUp`
in place of unfolding the walk of the printer and the punch. -/
namespace Sys2Proof.Machine

/-! ### The relation -/

theorem Rec.Followed.refl (st : Store) (r : Rec) : r.Followed st r where
  body := rfl
  printKept _ := rfl
  printRaised _ := ⟨Nat.le_refl _, fun i h k => absurd k (by omega)⟩
  printDone h k := absurd (h.symm.trans k) (by decide)
  punch := .inl rfl

/-- Two stores read alike. -/
theorem Store.cell_congr {st st' : Store} (h : st'.cells = st.cells) (a : Nat) : st'.cell a = st.cell a := by
  rw [Store.cell, Store.cell, h]

theorem Rec.Followed.trans {st st' : Store} {a b c : Rec} (hc : st'.cells = st.cells)
    (h : a.Followed st b) (k : b.Followed st' c) : a.Followed st c := by
  have hb : b.start = a.start ∧ b.length = a.length := by
    have e := h.body
    simp only [Rec.body, Rec.mk.injEq] at e
    exact ⟨e.2.2.1, e.2.2.2.1⟩
  constructor
  case body => exact k.body.trans h.body
  case printKept =>
    intro d
    have e := h.printKept d
    exact (k.printKept (by rw [e]; exact d)).trans e
  case printRaised =>
    intro d
    have db : b.print.done = false := by
      cases e : b.print.done with
      | false => rfl
      | true => rw [k.printKept e, e] at d; cases d
    obtain ⟨h1, h2⟩ := h.printRaised db
    obtain ⟨k1, k2⟩ := k.printRaised d
    refine ⟨Nat.le_trans h1 k1, fun i hi hi' => ?_⟩
    by_cases hb' : i < b.print.pos
    · exact h2 i hi hb'
    · have := k2 i (by omega) hi'
      rwa [hb.1, Store.cell_congr hc] at this
  case printDone =>
    intro d e
    cases db : b.print.done with
    | true => rw [k.printKept db]; exact h.printDone d db
    | false => rw [k.printDone db e, hb.2]
  case punch =>
    rcases k.punch with e | ⟨p, hp, hd, hs, e⟩
    · rcases h.punch with e' | ⟨p, hp, hd, hs, e'⟩
      · exact .inl (e.trans e')
      · exact .inr ⟨p, hp, hd, hs, e.trans e'⟩
    · rcases h.punch with e' | ⟨p', hp', hd', hs', e'⟩
      · exact .inr ⟨p, e'.symm.trans hp, hd, hs, by rw [e, hb.2]⟩
      · rw [e'] at hp
        cases hp
        cases hd

theorem followedAll_refl (st : Store) (l : List Rec) : followedAll st l l := by
  induction l with
  | nil => trivial
  | cons r l ih => exact ⟨Rec.Followed.refl st r, ih⟩

/-- Records followed, and then all but the first `n` followed again. -/
theorem followedAll_trans {st st' : Store} (hc : st'.cells = st.cells) (n : Nat) (a b c : List Rec)
    (h : followedAll st a b) (k : followedAll st' (b.drop n) c) : followedAll st a (b.take n ++ c) := by
  induction a generalizing b n c with
  | nil =>
    cases b with
    | nil =>
      simp only [List.drop_nil] at k
      cases c with
      | nil => simp only [List.take_nil]; trivial
      | cons => exact k.elim
    | cons => exact h.elim
  | cons r a ih =>
    cases b with
    | nil => exact h.elim
    | cons r' b =>
      cases n with
      | zero =>
        cases c with
        | nil => exact k.elim
        | cons r'' c => exact ⟨h.1.trans hc k.1, by simpa using ih 0 b c h.2 (by simpa using k.2)⟩
      | succ n => exact ⟨h.1, ih n b c h.2 k⟩

/-- The records stand: what most follow-ups leave of the store. -/
theorem recordsStand (st : Store) : ∃ l n, followedAll st st.recs l ∧ st.recs = l.drop n ∧
    ∀ r ∈ l.take n, r.reclaimable = true :=
  ⟨st.recs, 0, followedAll_refl st _, rfl, fun _ h => nomatch h⟩

theorem FollowUp.refl (s : State) : FollowUp s s := by
  constructor <;> first | rfl | exact Nat.le_refl _ | exact recordsStand _ | exact .inl rfl | exact .inl ⟨rfl, rfl⟩

theorem FollowUp.trans {s t u : State} (h : FollowUp s t) (k : FollowUp t u) : FollowUp s u := by
  constructor
  case bells => exact Nat.le_trans h.bells k.bells
  case records =>
    obtain ⟨l, n, hl, ht, hn⟩ := h.records
    obtain ⟨l', m, hl', hu, hm⟩ := k.records
    rw [ht] at hl'
    by_cases hln : n ≤ l.length
    · have ht' : (l.take n).length = n := by rw [List.length_take]; omega
      refine ⟨l.take n ++ l', n + m, followedAll_trans h.cells n _ _ _ hl hl', ?_, ?_⟩
      · rw [List.drop_append, ht', List.drop_eq_nil_of_le (by omega), List.nil_append, hu]
        congr 1
        omega
      · intro r hr
        rw [List.take_append, ht', List.take_of_length_le (by omega), show n + m - n = m by omega] at hr
        rcases List.mem_append.1 hr with hr | hr
        · exact hn r hr
        · exact hm r hr
    · have hd : l.drop n = [] := List.drop_eq_nil_of_le (by omega)
      rw [hd] at hl'
      cases l' with
      | cons => exact hl'.elim
      | nil =>
        refine ⟨l, n, hl, by rw [hu, hd, List.drop_nil], hn⟩
  case power => rcases k.power with e | e
                · rcases h.power with e' | e'
                  · exact .inl (e.trans e')
                  · exact .inr (e.trans e')
                · exact .inr e
  case phase => rcases k.phase with ⟨e, f⟩ | f
                · rcases h.phase with ⟨e', f'⟩ | f'
                  · exact .inl ⟨e.trans e', f.trans f'⟩
                  · exact .inr (f.trans f')
                · exact .inr f
  case leader => rcases k.leader with e | e
                 · rcases h.leader with e' | e'
                   · exact .inl (e.trans e')
                   · exact .inr (e.trans e')
                 · exact .inr e
  all_goals first
    | exact k.now.trans h.now | exact k.powered.trans h.powered | exact k.pending.trans h.pending
    | exact k.straps.trans h.straps | exact k.line.trans h.line | exact k.recv.trans h.recv
    | exact k.sender.trans h.sender | exact k.memory.trans h.memory | exact k.cycle.trans h.cycle
    | exact k.writeLatch.trans h.writeLatch | exact k.draft.trans h.draft | exact k.attend.trans h.attend
    | exact k.attendSince.trans h.attendSince | exact k.cells.trans h.cells | exact k.w.trans h.w
    | exact k.requests.trans h.requests | exact k.keys.trans h.keys | exact k.interp.trans h.interp
    | exact k.pacer.trans h.pacer | exact k.column.trans h.column
    | exact k.paperOut.trans h.paperOut | exact k.printerFault.trans h.printerFault
    | exact k.suspended.trans h.suspended | exact k.tapeOut.trans h.tapeOut
    | exact k.punchFault.trans h.punchFault
    | exact k.pendingFeeds.trans h.pendingFeeds | exact k.returnOwed.trans h.returnOwed
    | exact k.excluded.trans h.excluded | exact k.paperAbsent.trans h.paperAbsent
    | exact k.paperMeasure.trans h.paperMeasure
    | exact k.stop.trans h.stop | exact k.supplyLow.trans h.supplyLow
    | exact k.suspendPending.trans h.suspendPending | exact k.tapeOutPending.trans h.tapeOutPending
    | exact k.faultPending.trans h.faultPending | exact k.manual.trans h.manual
    | exact k.tapeOutActive.trans h.tapeOutActive
    | exact k.tapeMeasure.trans h.tapeMeasure | exact k.codes.trans h.codes
    | exact k.latched.trans h.latched | exact k.again.trans h.again
    | exact k.errorTotal.trans h.errorTotal | exact k.request.trans h.request
    | exact k.findings.trans h.findings | exact k.starting.trans h.starting
    | exact k.tapeLow.trans h.tapeLow

/-- What `repeatWhile` keeps when each of its steps keeps it. -/
theorem repeatWhile_followUp {f : State → Option State}
    (hf : ∀ s t, f s = some t → FollowUp s t) (n : Nat) (s : State) : FollowUp s (repeatWhile f n s) := by
  induction n generalizing s with
  | zero => exact FollowUp.refl s
  | succ n ih =>
    cases h : f s with
    | none => rw [repeatWhile, h]; exact FollowUp.refl s
    | some t => rw [repeatWhile, h]; exact (hf s t h).trans (ih t)

/-! ### The store's part -/

theorem followedAll_updateFirst (st : Store) (p : Rec → Bool) (f : Rec → Rec) (l : List Rec)
    (hf : ∀ r, l.find? p = some r → r.Followed st (f r)) : followedAll st l (updateFirst p f l) := by
  induction l with
  | nil => trivial
  | cons a l ih =>
    unfold updateFirst
    cases h : p a with
    | true => exact ⟨hf a (by rw [List.find?_cons_of_pos h]), followedAll_refl st l⟩
    | false =>
      exact ⟨Rec.Followed.refl st a, ih fun r hr => hf r (by rw [List.find?_cons_of_neg (by simp [h])]; exact hr)⟩

/-- Reclaim removes finished records from the head (R13). -/
theorem reclaim_drops (st : Store) : ∃ n, st.reclaim.recs = st.recs.drop n ∧
    ∀ r ∈ st.recs.take n, r.reclaimable = true := by
  rw [Store.reclaim]
  generalize st.recs = l
  induction l with
  | nil => exact ⟨0, rfl, fun _ h => nomatch h⟩
  | cons a l ih =>
    cases h : a.reclaimable with
    | true =>
      obtain ⟨n, hn, hr⟩ := ih
      refine ⟨n + 1, by simpa [h] using hn, fun r hm => ?_⟩
      rcases List.mem_cons.1 hm with rfl | hm
      · exact h
      · exact hr r hm
    | false => exact ⟨0, by simp [h], fun _ h => nomatch h⟩

/-- The print claim over a cell the printer passes over (R148). -/
theorem State.advancePrint_followUp (s : State) (r : Rec) (hr : s.store.printCurrent = some r)
    (hc : passedOver (s.store.cell (r.start + r.print.pos)) = true) : FollowUp s s.advancePrint := by
  have hd : r.print.done = false := by simpa using List.find?_some hr
  constructor
  case records =>
    refine ⟨_, 0, followedAll_updateFirst s.store _ Rec.stepPrint _ ?_, rfl, fun _ h => nomatch h⟩
    intro x hx
    rw [Store.printCurrent] at hr
    rw [hr] at hx
    cases hx
    constructor
    case body => rfl
    case printKept => intro h; rw [hd] at h; cases h
    case printRaised =>
      intro _
      refine ⟨Nat.le_succ _, fun i h1 h2 => ?_⟩
      have h2 : i < r.print.pos + 1 := h2
      rw [show i = r.print.pos by omega]
      exact hc
    case printDone => intro _ h; exact absurd (hd.symm.trans h) (by decide)
    case punch => exact .inl rfl
  all_goals first | rfl | exact Nat.le_refl _ | exact .inl rfl | exact .inl ⟨rfl, rfl⟩

/-- The print claim done (R145). -/
theorem State.finishPrint_followUp (s : State) : FollowUp s s.finishPrint := by
  constructor
  case records =>
    obtain ⟨n, hn, hr⟩ := reclaim_drops (s.store.onPrint Rec.donePrint)
    refine ⟨_, n, followedAll_updateFirst s.store _ Rec.donePrint _ ?_, hn, hr⟩
    intro x hx
    have hd : x.print.done = false := by simpa using List.find?_some hx
    constructor
    case body => rfl
    case printKept => intro h; rw [hd] at h; cases h
    case printRaised => intro h; cases h
    case printDone => intro _ _; rfl
    case punch => exact .inl rfl
  all_goals first | rfl | exact Nat.le_refl _ | exact .inl rfl | exact .inl ⟨rfl, rfl⟩

/-- The punch claim done (R181). -/
theorem State.finishPunch_followUp (s : State) : FollowUp s s.finishPunch := by
  constructor
  case records =>
    obtain ⟨n, hn, hr⟩ := reclaim_drops (s.store.onPunch Rec.donePunch)
    refine ⟨_, n, followedAll_updateFirst s.store _ Rec.donePunch _ ?_, hn, hr⟩
    intro x hx
    have hl : x.punchLive = true := List.find?_some hx
    rw [Rec.punchLive] at hl
    have hx' := Rec.Followed.refl s.store x
    constructor
    case body => rfl
    case printKept => exact hx'.printKept
    case printRaised => exact hx'.printRaised
    case printDone => exact hx'.printDone
    case punch =>
      cases hp : x.punch with
      | none => rw [hp] at hl; cases hl
      | some p =>
        rw [hp] at hl
        refine .inr ⟨p, rfl, ?_, ?_, ?_⟩
        · cases e : p.done <;> simp_all
        · cases e : p.skipped <;> simp_all
        · rw [Rec.donePunch, hp]; rfl
  case leader => exact .inr rfl
  all_goals first | rfl | exact Nat.le_refl _ | exact .inl rfl | exact .inl ⟨rfl, rfl⟩

/-! ### The supply's part -/

theorem State.giveGrant_followUp (s : State) (p : Party) : FollowUp s (s.giveGrant p) := by
  have hd : ∀ d : Diag, d.granted.codes = d.codes ∧ d.granted.latched = d.latched ∧ d.granted.again = d.again ∧
      d.granted.errorTotal = d.errorTotal ∧ d.granted.request = d.request ∧ d.granted.findings = d.findings ∧
      d.granted.starting = d.starting ∧ d.granted.tapeLow = d.tapeLow := by
    intro d; unfold Diag.granted; split <;> simp
  obtain ⟨h1, h2, h3, h4, h5, h6, h7, h8⟩ := hd s.diag
  cases p <;> constructor <;> first | rfl | exact Nat.le_refl _ | assumption | exact recordsStand _ | exact .inl rfl | exact .inl ⟨rfl, rfl⟩

theorem State.grantIfFree_followUp (s : State) : FollowUp s s.grantIfFree := by
  unfold State.grantIfFree
  split
  · split
    · exact FollowUp.refl s
    · exact s.giveGrant_followUp _
  · exact FollowUp.refl s

theorem State.request_followUp (s : State) (p : Party) : FollowUp s (s.request p) := by
  have h : FollowUp s { s with arb := s.arb.setWait p true } := by
    cases p <;> constructor <;> first | rfl | exact Nat.le_refl _ | exact recordsStand _ | exact .inl rfl | exact .inl ⟨rfl, rfl⟩
  exact h.trans (State.grantIfFree_followUp _)

theorem State.testGo_followUp (s : State) : FollowUp s s.testGo := by
  unfold State.testGo
  split
  · exact FollowUp.refl s
  · split
    · refine FollowUp.trans ?_ (State.request_followUp _ _)
      constructor <;> first | rfl | exact Nat.le_refl _ | exact recordsStand _ | exact .inl rfl | exact .inl ⟨rfl, rfl⟩
    · exact FollowUp.refl s

/-! ### The printer's part -/

theorem State.beginReturn_followUp {s t : State} {c : MotionCause} (h : s.beginReturn c = some t) :
    FollowUp s t := by
  unfold State.beginReturn at h
  split at h
  · cases h
  · cases h; constructor <;> first | rfl | exact Nat.le_refl _ | exact recordsStand _ | exact .inl rfl | exact .inl ⟨rfl, rfl⟩

theorem State.beginFeed_followUp {s t : State} {c : MotionCause} (h : s.beginFeed c = some t) :
    FollowUp s t := by
  unfold State.beginFeed at h
  split at h
  · cases h
  · cases h; constructor <;> first | rfl | exact Nat.le_refl _ | exact recordsStand _ | exact .inl rfl | exact .inl ⟨rfl, rfl⟩

theorem State.beginStep_followUp {s t : State} {k : Hand} (h : s.beginStep k = some t) : FollowUp s t := by
  unfold State.beginStep at h
  split at h
  · cases h
  · cases h; constructor <;> first | rfl | exact Nat.le_refl _ | exact recordsStand _ | exact .inl rfl | exact .inl ⟨rfl, rfl⟩

theorem State.owePair_followUp (s : State) : FollowUp s s.owePair := by
  constructor <;> first | rfl | exact Nat.le_refl _ | exact recordsStand _ | exact .inl rfl | exact .inl ⟨rfl, rfl⟩

theorem State.enterPhase_followUp (s : State) (p : Phase) : FollowUp s (s.enterPhase p) := by
  constructor
  case phase => exact .inr rfl
  all_goals first | rfl | exact Nat.le_refl _ | exact recordsStand _ | exact .inl rfl

theorem State.bell_followUp (s : State) : FollowUp s s.bell := by
  constructor
  case bells => exact Nat.le_succ _
  all_goals first | rfl | exact Nat.le_refl _ | exact recordsStand _ | exact .inl rfl | exact .inl ⟨rfl, rfl⟩

theorem State.alignThen_followUp {s t : State} (h : FollowUp s t) : FollowUp s (s.alignThen t) := by
  unfold State.alignThen
  split
  · exact h
  · exact s.owePair_followUp

theorem State.awaitSlot_followUp {s t : State} (h : s.awaitSlot = some t) : FollowUp s t := by
  unfold State.awaitSlot at h
  split at h
  · cases h; exact s.owePair_followUp
  · cases h

theorem State.takeCell_followUp {s t : State} {c : Code} {r : Rec} (hr : s.store.printCurrent = some r)
    (hc : s.store.cell (r.start + r.print.pos) = c) (h : s.takeCell c = some t) : FollowUp s t := by
  unfold State.takeCell at h
  split at h
  · exact State.awaitSlot_followUp h
  · rename_i hp
    split at h
    · exact State.beginReturn_followUp h
    · rename_i hcr
      split at h
      · exact State.beginFeed_followUp h
      · rename_i hlf
        have hpass : passedOver (s.store.cell (r.start + r.print.pos)) = true := by
          rw [hc]; simp [passedOver, hp, hcr, hlf]
        split at h
        · cases h
          split
          · exact s.bell_followUp.trans (State.advancePrint_followUp _ r hr hpass)
          · exact s.advancePrint_followUp r hr hpass
        · cases h; exact s.advancePrint_followUp r hr hpass

theorem State.phaseWork_followUp {s t : State} {r : Rec} (hr : s.store.printCurrent = some r) (h : s.phaseWork r = some t) : FollowUp s t := by
  unfold State.phaseWork at h
  split at h
  · cases h; exact s.enterPhase_followUp _
  · cases h; exact State.alignThen_followUp (s.enterPhase_followUp _)
  · split at h
    · exact State.awaitSlot_followUp h
    · cases h; exact s.enterPhase_followUp _
  · split at h
    · exact State.takeCell_followUp hr rfl h
    · split at h
      · cases h
      · cases h; exact s.enterPhase_followUp _
  · cases h; exact State.alignThen_followUp (s.enterPhase_followUp _)
  · split at h
    · exact State.awaitSlot_followUp h
    · cases h; exact s.finishPrint_followUp.trans (State.enterPhase_followUp _ _)

theorem State.printingWork_followUp {s t : State} (h : s.printingWork = some t) : FollowUp s t := by
  unfold State.printingWork at h
  split at h
  · cases h
  · split at h
    · split at h
      · exact State.beginStep_followUp h
      · cases h
    · split at h
      · exact State.beginReturn_followUp h
      · split at h
        · exact State.beginReturn_followUp h
        · exact State.beginFeed_followUp h
        · split at h
          · exact State.beginFeed_followUp h
          · split at h
            · cases h
            · exact State.phaseWork_followUp ‹_› h

theorem State.printerOnce_followUp {s t : State} (h : s.printerOnce = some t) : FollowUp s t := by
  unfold State.printerOnce at h
  split at h
  · rename_i hs
    split at h
    · cases h
      constructor
      case paperOut | printerFault => rw [hs]; exact ⟨fun e => (nomatch e), fun e => (nomatch e)⟩
      all_goals first | rfl | exact Nat.le_refl _ | exact recordsStand _ | exact .inl rfl | exact .inl ⟨rfl, rfl⟩
    · cases h
  · rename_i hs
    split at h
    · exact State.printingWork_followUp h
    · cases h
      constructor
      case paperOut | printerFault => rw [hs]; exact ⟨fun e => (nomatch e), fun e => (nomatch e)⟩
      all_goals first | rfl | exact Nat.le_refl _ | exact recordsStand _ | exact .inl rfl | exact .inl ⟨rfl, rfl⟩
  all_goals cases h

theorem State.printerRun_followUp (s : State) : FollowUp s s.printerRun :=
  repeatWhile_followUp (fun _ _ => State.printerOnce_followUp) _ s

/-! ### The punch's part -/

theorem State.takeRow_followUp (s : State) (c : RowContent) : FollowUp s (s.takeRow c) := by
  refine FollowUp.trans ?_ (State.request_followUp _ _)
  constructor <;> first | rfl | exact Nat.le_refl _ | exact recordsStand _ | exact .inl rfl | exact .inl ⟨rfl, rfl⟩

theorem State.runClaim_followUp {s t : State} (hs : s.punch.state = .running) (h : s.runClaim = some t) :
    FollowUp s t := by
  unfold State.runClaim at h
  split at h
  · cases h
    constructor
    case suspended | tapeOut | punchFault => rw [hs]; exact ⟨fun e => (nomatch e), fun e => (nomatch e)⟩
    all_goals first | rfl | exact Nat.le_refl _ | exact recordsStand _ | exact .inl rfl | exact .inl ⟨rfl, rfl⟩
  · split at h
    · cases h; exact s.takeRow_followUp _
    · split at h
      · cases h; exact s.takeRow_followUp _
      · split at h
        · cases h
        · cases h; exact s.finishPunch_followUp

theorem State.punchOnce_followUp {s t : State} (h : s.punchOnce = some t) : FollowUp s t := by
  unfold State.punchOnce at h
  split at h
  · split at h
    · cases h; constructor <;> first | rfl | exact Nat.le_refl _ | exact recordsStand _ | exact .inl rfl | exact .inl ⟨rfl, rfl⟩
    · cases h
  · split at h
    · cases h
    · split at h
      · split at h
        · cases h; exact s.takeRow_followUp _
        · cases h
      · split at h
        · cases h; exact s.takeRow_followUp _
        · cases h
      · exact State.runClaim_followUp ‹_› h
      all_goals cases h

theorem State.punchRun_followUp (s : State) : FollowUp s s.punchRun :=
  repeatWhile_followUp (fun _ _ => State.punchOnce_followUp) _ s

/-! ### Power, and the whole -/

theorem State.enterActive_followUp (s : State) : FollowUp s s.enterActive := by
  constructor
  case power => exact .inr rfl
  case paperOut | printerFault => cases h : s.printer.state <;> simp [State.enterActive, h]
  all_goals first | rfl | exact Nat.le_refl _ | exact recordsStand _ | exact .inl rfl | exact .inl ⟨rfl, rfl⟩

theorem State.wake_followUp (s : State) : FollowUp s s.wake := by
  unfold State.wake
  split
  · exact FollowUp.refl s
  · exact s.enterActive_followUp

theorem State.wakeOnWork_followUp (s : State) : FollowUp s s.wakeOnWork := by
  unfold State.wakeOnWork
  split
  · exact s.wake_followUp
  · exact FollowUp.refl s

theorem State.updateMeasures_followUp (s : State) : FollowUp s s.updateMeasures := by
  constructor <;> first | rfl | exact Nat.le_refl _ | exact recordsStand _ | exact .inl rfl | exact .inl ⟨rfl, rfl⟩

/-- The follow-ups of a command change nothing but what `FollowUp` names. -/
theorem State.settle_followUp (s : State) : FollowUp s s.settle :=
  (((s.wakeOnWork_followUp.trans (State.testGo_followUp _)).trans (State.printerRun_followUp _)).trans
    (State.punchRun_followUp _)).trans (State.updateMeasures_followUp _)

end Sys2Proof.Machine
end

