-- ==== Sys2Proof/Laws/State.lean ====
section
/-! SUPPORT. What the plain updates of the state leave in each field: one lemma per field per update, each true by
unfolding the update once, so that no later proof unfolds a record update. -/
namespace Sys2Proof.Machine

/-! ### `State.reach`: The clock moved (log 2). -/

@[simp] theorem State.reach_now (s : State) (i : Nat) : (s.reach i).now = max s.now i := rfl
@[simp] theorem State.reach_powered (s : State) (i : Nat) : (s.reach i).powered = s.powered := rfl
@[simp] theorem State.reach_pending (s : State) (i : Nat) : (s.reach i).pending = s.pending := rfl
@[simp] theorem State.reach_bells (s : State) (i : Nat) : (s.reach i).bells = s.bells := rfl
@[simp] theorem State.reach_straps (s : State) (i : Nat) : (s.reach i).straps = s.straps := rfl
@[simp] theorem State.reach_line (s : State) (i : Nat) : (s.reach i).line = s.line := rfl
@[simp] theorem State.reach_recv (s : State) (i : Nat) : (s.reach i).recv = s.recv := rfl
@[simp] theorem State.reach_sender (s : State) (i : Nat) : (s.reach i).sender = s.sender := rfl
@[simp] theorem State.reach_answer (s : State) (i : Nat) : (s.reach i).answer = s.answer := rfl
@[simp] theorem State.reach_store (s : State) (i : Nat) : (s.reach i).store = s.store := rfl
@[simp] theorem State.reach_keys (s : State) (i : Nat) : (s.reach i).keys = s.keys := rfl
@[simp] theorem State.reach_interp (s : State) (i : Nat) : (s.reach i).interp = s.interp := rfl
@[simp] theorem State.reach_printer (s : State) (i : Nat) : (s.reach i).printer = s.printer := rfl
@[simp] theorem State.reach_pacer (s : State) (i : Nat) : (s.reach i).pacer = s.pacer := rfl
@[simp] theorem State.reach_arb (s : State) (i : Nat) : (s.reach i).arb = s.arb := rfl
@[simp] theorem State.reach_punch (s : State) (i : Nat) : (s.reach i).punch = s.punch := rfl
@[simp] theorem State.reach_diag (s : State) (i : Nat) : (s.reach i).diag = s.diag := rfl

/-! ### `State.tick`: One tick (log 1). -/

@[simp] theorem State.tick_now (s : State) : (s.tick).now = s.now + 1 := rfl
@[simp] theorem State.tick_powered (s : State) : (s.tick).powered = s.powered := rfl
@[simp] theorem State.tick_pending (s : State) : (s.tick).pending = s.pending := rfl
@[simp] theorem State.tick_bells (s : State) : (s.tick).bells = s.bells := rfl
@[simp] theorem State.tick_straps (s : State) : (s.tick).straps = s.straps := rfl
@[simp] theorem State.tick_line (s : State) : (s.tick).line = s.line := rfl
@[simp] theorem State.tick_recv (s : State) : (s.tick).recv = s.recv := rfl
@[simp] theorem State.tick_sender (s : State) : (s.tick).sender = s.sender := rfl
@[simp] theorem State.tick_answer (s : State) : (s.tick).answer = s.answer := rfl
@[simp] theorem State.tick_store (s : State) : (s.tick).store = s.store := rfl
@[simp] theorem State.tick_keys (s : State) : (s.tick).keys = s.keys := rfl
@[simp] theorem State.tick_interp (s : State) : (s.tick).interp = s.interp := rfl
@[simp] theorem State.tick_printer (s : State) : (s.tick).printer = s.printer := rfl
@[simp] theorem State.tick_pacer (s : State) : (s.tick).pacer = s.pacer := rfl
@[simp] theorem State.tick_arb (s : State) : (s.tick).arb = s.arb := rfl
@[simp] theorem State.tick_punch (s : State) : (s.tick).punch = s.punch := rfl
@[simp] theorem State.tick_diag (s : State) : (s.tick).diag = s.diag := rfl

/-! ### `State.took`: The press at the head taken (R123). -/

@[simp] theorem State.took_now (s : State) (rest : List Press) : (s.took rest).now = s.now := rfl
@[simp] theorem State.took_powered (s : State) (rest : List Press) : (s.took rest).powered = s.powered := rfl
@[simp] theorem State.took_pending (s : State) (rest : List Press) : (s.took rest).pending = s.pending := rfl
@[simp] theorem State.took_bells (s : State) (rest : List Press) : (s.took rest).bells = s.bells := rfl
@[simp] theorem State.took_straps (s : State) (rest : List Press) : (s.took rest).straps = s.straps := rfl
@[simp] theorem State.took_line (s : State) (rest : List Press) : (s.took rest).line = s.line := rfl
@[simp] theorem State.took_recv (s : State) (rest : List Press) : (s.took rest).recv = s.recv := rfl
@[simp] theorem State.took_sender (s : State) (rest : List Press) : (s.took rest).sender = s.sender := rfl
@[simp] theorem State.took_answer (s : State) (rest : List Press) : (s.took rest).answer = s.answer := rfl
@[simp] theorem State.took_store (s : State) (rest : List Press) : (s.took rest).store = s.store := rfl
@[simp] theorem State.took_keys (s : State) (rest : List Press) : (s.took rest).keys = s.keys := rfl
@[simp] theorem State.took_interp_queue (s : State) (rest : List Press) : (s.took rest).interp.queue = rest := rfl
@[simp] theorem State.took_interp_held (s : State) (rest : List Press) :
    (s.took rest).interp.held = s.interp.held := rfl
@[simp] theorem State.took_interp_mode (s : State) (rest : List Press) :
    (s.took rest).interp.mode = s.interp.mode := rfl
@[simp] theorem State.took_interp_localOpen (s : State) (rest : List Press) :
    (s.took rest).interp.localOpen = s.interp.localOpen := rfl
@[simp] theorem State.took_interp_comps (s : State) (rest : List Press) :
    (s.took rest).interp.comps = s.interp.comps := rfl
@[simp] theorem State.took_interp_nextSerial (s : State) (rest : List Press) :
    (s.took rest).interp.nextSerial = s.interp.nextSerial := rfl
@[simp] theorem State.took_printer (s : State) (rest : List Press) : (s.took rest).printer = s.printer := rfl
@[simp] theorem State.took_pacer (s : State) (rest : List Press) : (s.took rest).pacer = s.pacer := rfl
@[simp] theorem State.took_arb (s : State) (rest : List Press) : (s.took rest).arb = s.arb := rfl
@[simp] theorem State.took_punch (s : State) (rest : List Press) : (s.took rest).punch = s.punch := rfl
@[simp] theorem State.took_diag (s : State) (rest : List Press) : (s.took rest).diag = s.diag := rfl

/-! ### `State.bell`: A stroke of the bell. -/

@[simp] theorem State.bell_now (s : State) : (s.bell).now = s.now := rfl
@[simp] theorem State.bell_powered (s : State) : (s.bell).powered = s.powered := rfl
@[simp] theorem State.bell_pending (s : State) : (s.bell).pending = s.pending := rfl
@[simp] theorem State.bell_bells (s : State) : (s.bell).bells = s.bells + 1 := rfl
@[simp] theorem State.bell_straps (s : State) : (s.bell).straps = s.straps := rfl
@[simp] theorem State.bell_line (s : State) : (s.bell).line = s.line := rfl
@[simp] theorem State.bell_recv (s : State) : (s.bell).recv = s.recv := rfl
@[simp] theorem State.bell_sender (s : State) : (s.bell).sender = s.sender := rfl
@[simp] theorem State.bell_answer (s : State) : (s.bell).answer = s.answer := rfl
@[simp] theorem State.bell_store (s : State) : (s.bell).store = s.store := rfl
@[simp] theorem State.bell_keys (s : State) : (s.bell).keys = s.keys := rfl
@[simp] theorem State.bell_interp (s : State) : (s.bell).interp = s.interp := rfl
@[simp] theorem State.bell_printer (s : State) : (s.bell).printer = s.printer := rfl
@[simp] theorem State.bell_pacer (s : State) : (s.bell).pacer = s.pacer := rfl
@[simp] theorem State.bell_arb (s : State) : (s.bell).arb = s.arb := rfl
@[simp] theorem State.bell_punch (s : State) : (s.bell).punch = s.punch := rfl
@[simp] theorem State.bell_diag (s : State) : (s.bell).diag = s.diag := rfl

/-! ### `State.latch`: An event latched (R200). -/

@[simp] theorem State.latch_now (s : State) (e : Event) : (s.latch e).now = s.now := rfl
@[simp] theorem State.latch_powered (s : State) (e : Event) : (s.latch e).powered = s.powered := rfl
@[simp] theorem State.latch_pending (s : State) (e : Event) : (s.latch e).pending = s.pending := rfl
@[simp] theorem State.latch_bells (s : State) (e : Event) : (s.latch e).bells = s.bells := rfl
@[simp] theorem State.latch_straps (s : State) (e : Event) : (s.latch e).straps = s.straps := rfl
@[simp] theorem State.latch_line (s : State) (e : Event) : (s.latch e).line = s.line := rfl
@[simp] theorem State.latch_recv (s : State) (e : Event) : (s.latch e).recv = s.recv := rfl
@[simp] theorem State.latch_sender (s : State) (e : Event) : (s.latch e).sender = s.sender := rfl
@[simp] theorem State.latch_answer (s : State) (e : Event) : (s.latch e).answer = s.answer := rfl
@[simp] theorem State.latch_store (s : State) (e : Event) : (s.latch e).store = s.store := rfl
@[simp] theorem State.latch_keys (s : State) (e : Event) : (s.latch e).keys = s.keys := rfl
@[simp] theorem State.latch_interp (s : State) (e : Event) : (s.latch e).interp = s.interp := rfl
@[simp] theorem State.latch_printer (s : State) (e : Event) : (s.latch e).printer = s.printer := rfl
@[simp] theorem State.latch_pacer (s : State) (e : Event) : (s.latch e).pacer = s.pacer := rfl
@[simp] theorem State.latch_arb (s : State) (e : Event) : (s.latch e).arb = s.arb := rfl
@[simp] theorem State.latch_punch (s : State) (e : Event) : (s.latch e).punch = s.punch := rfl
@[simp] theorem State.latch_diag_codes (s : State) (e : Event) : (s.latch e).diag.codes = s.diag.codes := rfl
@[simp] theorem State.latch_diag_latched (s : State) (e : Event) :
    (s.latch e).diag.latched = if s.diag.latched.contains e then s.diag.latched else e :: s.diag.latched := rfl
@[simp] theorem State.latch_diag_again (s : State) (e : Event) :
    (s.latch e).diag.again = if s.diag.again.contains e then s.diag.again else e :: s.diag.again := rfl
@[simp] theorem State.latch_diag_errorTotal (s : State) (e : Event) :
    (s.latch e).diag.errorTotal = s.diag.errorTotal := rfl
@[simp] theorem State.latch_diag_request (s : State) (e : Event) : (s.latch e).diag.request = s.diag.request := rfl
@[simp] theorem State.latch_diag_sweep (s : State) (e : Event) : (s.latch e).diag.sweep = s.diag.sweep := rfl
@[simp] theorem State.latch_diag_testing (s : State) (e : Event) : (s.latch e).diag.testing = s.diag.testing := rfl
@[simp] theorem State.latch_diag_findings (s : State) (e : Event) : (s.latch e).diag.findings = s.diag.findings := rfl
@[simp] theorem State.latch_diag_idleSince (s : State) (e : Event) :
    (s.latch e).diag.idleSince = s.diag.idleSince := rfl
@[simp] theorem State.latch_diag_starting (s : State) (e : Event) : (s.latch e).diag.starting = s.diag.starting := rfl
@[simp] theorem State.latch_diag_tapeLow (s : State) (e : Event) : (s.latch e).diag.tapeLow = s.diag.tapeLow := rfl

/-! ### `State.countError`: A character in error counted (R201). -/

@[simp] theorem State.countError_now (s : State) : (s.countError).now = s.now := rfl
@[simp] theorem State.countError_powered (s : State) : (s.countError).powered = s.powered := rfl
@[simp] theorem State.countError_pending (s : State) : (s.countError).pending = s.pending := rfl
@[simp] theorem State.countError_bells (s : State) : (s.countError).bells = s.bells := rfl
@[simp] theorem State.countError_straps (s : State) : (s.countError).straps = s.straps := rfl
@[simp] theorem State.countError_line (s : State) : (s.countError).line = s.line := rfl
@[simp] theorem State.countError_recv (s : State) : (s.countError).recv = s.recv := rfl
@[simp] theorem State.countError_sender (s : State) : (s.countError).sender = s.sender := rfl
@[simp] theorem State.countError_answer (s : State) : (s.countError).answer = s.answer := rfl
@[simp] theorem State.countError_store (s : State) : (s.countError).store = s.store := rfl
@[simp] theorem State.countError_keys (s : State) : (s.countError).keys = s.keys := rfl
@[simp] theorem State.countError_interp (s : State) : (s.countError).interp = s.interp := rfl
@[simp] theorem State.countError_printer (s : State) : (s.countError).printer = s.printer := rfl
@[simp] theorem State.countError_pacer (s : State) : (s.countError).pacer = s.pacer := rfl
@[simp] theorem State.countError_arb (s : State) : (s.countError).arb = s.arb := rfl
@[simp] theorem State.countError_punch (s : State) : (s.countError).punch = s.punch := rfl
@[simp] theorem State.countError_diag_codes (s : State) : (s.countError).diag.codes = s.diag.codes := rfl
@[simp] theorem State.countError_diag_latched (s : State) : (s.countError).diag.latched = s.diag.latched := rfl
@[simp] theorem State.countError_diag_again (s : State) : (s.countError).diag.again = s.diag.again := rfl
@[simp] theorem State.countError_diag_errorTotal (s : State) :
    (s.countError).diag.errorTotal = satSucc 255 s.diag.errorTotal := rfl
@[simp] theorem State.countError_diag_request (s : State) : (s.countError).diag.request = s.diag.request := rfl
@[simp] theorem State.countError_diag_sweep (s : State) : (s.countError).diag.sweep = s.diag.sweep := rfl
@[simp] theorem State.countError_diag_testing (s : State) : (s.countError).diag.testing = s.diag.testing := rfl
@[simp] theorem State.countError_diag_findings (s : State) : (s.countError).diag.findings = s.diag.findings := rfl
@[simp] theorem State.countError_diag_idleSince (s : State) : (s.countError).diag.idleSince = s.diag.idleSince := rfl
@[simp] theorem State.countError_diag_starting (s : State) : (s.countError).diag.starting = s.diag.starting := rfl
@[simp] theorem State.countError_diag_tapeLow (s : State) : (s.countError).diag.tapeLow = s.diag.tapeLow := rfl

/-! ### `State.markSnapshot`: The snapshot of a report (R203). -/

@[simp] theorem State.markSnapshot_now (s : State) : (s.markSnapshot).now = s.now := rfl
@[simp] theorem State.markSnapshot_powered (s : State) : (s.markSnapshot).powered = s.powered := rfl
@[simp] theorem State.markSnapshot_pending (s : State) : (s.markSnapshot).pending = s.pending := rfl
@[simp] theorem State.markSnapshot_bells (s : State) : (s.markSnapshot).bells = s.bells := rfl
@[simp] theorem State.markSnapshot_straps (s : State) : (s.markSnapshot).straps = s.straps := rfl
@[simp] theorem State.markSnapshot_line (s : State) : (s.markSnapshot).line = s.line := rfl
@[simp] theorem State.markSnapshot_recv (s : State) : (s.markSnapshot).recv = s.recv := rfl
@[simp] theorem State.markSnapshot_sender (s : State) : (s.markSnapshot).sender = s.sender := rfl
@[simp] theorem State.markSnapshot_answer (s : State) : (s.markSnapshot).answer = s.answer := rfl
@[simp] theorem State.markSnapshot_store (s : State) : (s.markSnapshot).store = s.store := rfl
@[simp] theorem State.markSnapshot_keys (s : State) : (s.markSnapshot).keys = s.keys := rfl
@[simp] theorem State.markSnapshot_interp (s : State) : (s.markSnapshot).interp = s.interp := rfl
@[simp] theorem State.markSnapshot_printer (s : State) : (s.markSnapshot).printer = s.printer := rfl
@[simp] theorem State.markSnapshot_pacer (s : State) : (s.markSnapshot).pacer = s.pacer := rfl
@[simp] theorem State.markSnapshot_arb (s : State) : (s.markSnapshot).arb = s.arb := rfl
@[simp] theorem State.markSnapshot_punch (s : State) : (s.markSnapshot).punch = s.punch := rfl
@[simp] theorem State.markSnapshot_diag_codes (s : State) : (s.markSnapshot).diag.codes = s.diag.codes := rfl
@[simp] theorem State.markSnapshot_diag_latched (s : State) : (s.markSnapshot).diag.latched = s.diag.latched := rfl
@[simp] theorem State.markSnapshot_diag_again (s : State) : (s.markSnapshot).diag.again = [] := rfl
@[simp] theorem State.markSnapshot_diag_errorTotal (s : State) :
    (s.markSnapshot).diag.errorTotal = s.diag.errorTotal := rfl
@[simp] theorem State.markSnapshot_diag_request (s : State) : (s.markSnapshot).diag.request = s.diag.request := rfl
@[simp] theorem State.markSnapshot_diag_sweep (s : State) : (s.markSnapshot).diag.sweep = s.diag.sweep := rfl
@[simp] theorem State.markSnapshot_diag_testing (s : State) : (s.markSnapshot).diag.testing = s.diag.testing := rfl
@[simp] theorem State.markSnapshot_diag_findings (s : State) : (s.markSnapshot).diag.findings = s.diag.findings := rfl
@[simp] theorem State.markSnapshot_diag_idleSince (s : State) :
    (s.markSnapshot).diag.idleSince = s.diag.idleSince := rfl
@[simp] theorem State.markSnapshot_diag_starting (s : State) : (s.markSnapshot).diag.starting = s.diag.starting := rfl
@[simp] theorem State.markSnapshot_diag_tapeLow (s : State) : (s.markSnapshot).diag.tapeLow = s.diag.tapeLow := rfl

/-! ### `State.stepGenerator`: The Sender's generator stepped (R68). -/

@[simp] theorem State.stepGenerator_now (s : State) (n : Nat) : (s.stepGenerator n).now = s.now := rfl
@[simp] theorem State.stepGenerator_powered (s : State) (n : Nat) : (s.stepGenerator n).powered = s.powered := rfl
@[simp] theorem State.stepGenerator_pending (s : State) (n : Nat) : (s.stepGenerator n).pending = s.pending := rfl
@[simp] theorem State.stepGenerator_bells (s : State) (n : Nat) : (s.stepGenerator n).bells = s.bells := rfl
@[simp] theorem State.stepGenerator_straps (s : State) (n : Nat) : (s.stepGenerator n).straps = s.straps := rfl
@[simp] theorem State.stepGenerator_line (s : State) (n : Nat) : (s.stepGenerator n).line = s.line := rfl
@[simp] theorem State.stepGenerator_recv (s : State) (n : Nat) : (s.stepGenerator n).recv = s.recv := rfl
@[simp] theorem State.stepGenerator_sender_state (s : State) (n : Nat) :
    (s.stepGenerator n).sender.state = s.sender.state := rfl
@[simp] theorem State.stepGenerator_sender_replies (s : State) (n : Nat) :
    (s.stepGenerator n).sender.replies = s.sender.replies := rfl
@[simp] theorem State.stepGenerator_sender_source (s : State) (n : Nat) :
    (s.stepGenerator n).sender.source = s.sender.source := rfl
@[simp] theorem State.stepGenerator_sender_span (s : State) (n : Nat) :
    (s.stepGenerator n).sender.span = s.sender.span := rfl
@[simp] theorem State.stepGenerator_sender_draw (s : State) (n : Nat) :
    (s.stepGenerator n).sender.draw = s.sender.draw := rfl
@[simp] theorem State.stepGenerator_sender_courtesy (s : State) (n : Nat) :
    (s.stepGenerator n).sender.courtesy = s.sender.courtesy := rfl
@[simp] theorem State.stepGenerator_sender_block (s : State) (n : Nat) :
    (s.stepGenerator n).sender.block = s.sender.block := rfl
@[simp] theorem State.stepGenerator_sender_position (s : State) (n : Nat) :
    (s.stepGenerator n).sender.position = s.sender.position := rfl
@[simp] theorem State.stepGenerator_sender_headerLength (s : State) (n : Nat) :
    (s.stepGenerator n).sender.headerLength = s.sender.headerLength := rfl
@[simp] theorem State.stepGenerator_sender_abandoning (s : State) (n : Nat) :
    (s.stepGenerator n).sender.abandoning = s.sender.abandoning := rfl
@[simp] theorem State.stepGenerator_sender_watch (s : State) (n : Nat) :
    (s.stepGenerator n).sender.watch = s.sender.watch := rfl
@[simp] theorem State.stepGenerator_sender_generator (s : State) (n : Nat) :
    (s.stepGenerator n).sender.generator = generatorSteps n s.sender.generator := rfl
@[simp] theorem State.stepGenerator_sender_spanReached (s : State) (n : Nat) :
    (s.stepGenerator n).sender.spanReached = s.sender.spanReached := rfl
@[simp] theorem State.stepGenerator_answer (s : State) (n : Nat) : (s.stepGenerator n).answer = s.answer := rfl
@[simp] theorem State.stepGenerator_store (s : State) (n : Nat) : (s.stepGenerator n).store = s.store := rfl
@[simp] theorem State.stepGenerator_keys (s : State) (n : Nat) : (s.stepGenerator n).keys = s.keys := rfl
@[simp] theorem State.stepGenerator_interp (s : State) (n : Nat) : (s.stepGenerator n).interp = s.interp := rfl
@[simp] theorem State.stepGenerator_printer (s : State) (n : Nat) : (s.stepGenerator n).printer = s.printer := rfl
@[simp] theorem State.stepGenerator_pacer (s : State) (n : Nat) : (s.stepGenerator n).pacer = s.pacer := rfl
@[simp] theorem State.stepGenerator_arb (s : State) (n : Nat) : (s.stepGenerator n).arb = s.arb := rfl
@[simp] theorem State.stepGenerator_punch (s : State) (n : Nat) : (s.stepGenerator n).punch = s.punch := rfl
@[simp] theorem State.stepGenerator_diag (s : State) (n : Nat) : (s.stepGenerator n).diag = s.diag := rfl

/-! ### `State.parserTo`: The parser moved. -/

@[simp] theorem State.parserTo_now (s : State) (p : Parser) : (s.parserTo p).now = s.now := rfl
@[simp] theorem State.parserTo_powered (s : State) (p : Parser) : (s.parserTo p).powered = s.powered := rfl
@[simp] theorem State.parserTo_pending (s : State) (p : Parser) : (s.parserTo p).pending = s.pending := rfl
@[simp] theorem State.parserTo_bells (s : State) (p : Parser) : (s.parserTo p).bells = s.bells := rfl
@[simp] theorem State.parserTo_straps (s : State) (p : Parser) : (s.parserTo p).straps = s.straps := rfl
@[simp] theorem State.parserTo_line (s : State) (p : Parser) : (s.parserTo p).line = s.line := rfl
@[simp] theorem State.parserTo_recv_parser (s : State) (p : Parser) : (s.parserTo p).recv.parser = p := rfl
@[simp] theorem State.parserTo_recv_dests (s : State) (p : Parser) : (s.parserTo p).recv.dests = s.recv.dests := rfl
@[simp] theorem State.parserTo_recv_senderCode (s : State) (p : Parser) :
    (s.parserTo p).recv.senderCode = s.recv.senderCode := rfl
@[simp] theorem State.parserTo_recv_kind (s : State) (p : Parser) : (s.parserTo p).recv.kind = s.recv.kind := rfl
@[simp] theorem State.parserTo_recv_disposition (s : State) (p : Parser) :
    (s.parserTo p).recv.disposition = s.recv.disposition := rfl
@[simp] theorem State.parserTo_recv_recordStatus (s : State) (p : Parser) :
    (s.parserTo p).recv.recordStatus = s.recv.recordStatus := rfl
@[simp] theorem State.parserTo_recv_contentCount (s : State) (p : Parser) :
    (s.parserTo p).recv.contentCount = s.recv.contentCount := rfl
@[simp] theorem State.parserTo_recv_contentError (s : State) (p : Parser) :
    (s.parserTo p).recv.contentError = s.recv.contentError := rfl
@[simp] theorem State.parserTo_recv_firstContent (s : State) (p : Parser) :
    (s.parserTo p).recv.firstContent = s.recv.firstContent := rfl
@[simp] theorem State.parserTo_recv_held (s : State) (p : Parser) : (s.parserTo p).recv.held = s.recv.held := rfl
@[simp] theorem State.parserTo_recv_breakPending (s : State) (p : Parser) :
    (s.parserTo p).recv.breakPending = s.recv.breakPending := rfl
@[simp] theorem State.parserTo_recv_stall (s : State) (p : Parser) : (s.parserTo p).recv.stall = s.recv.stall := rfl
@[simp] theorem State.parserTo_recv_lastStart (s : State) (p : Parser) :
    (s.parserTo p).recv.lastStart = s.recv.lastStart := rfl
@[simp] theorem State.parserTo_sender (s : State) (p : Parser) : (s.parserTo p).sender = s.sender := rfl
@[simp] theorem State.parserTo_answer (s : State) (p : Parser) : (s.parserTo p).answer = s.answer := rfl
@[simp] theorem State.parserTo_store (s : State) (p : Parser) : (s.parserTo p).store = s.store := rfl
@[simp] theorem State.parserTo_keys (s : State) (p : Parser) : (s.parserTo p).keys = s.keys := rfl
@[simp] theorem State.parserTo_interp (s : State) (p : Parser) : (s.parserTo p).interp = s.interp := rfl
@[simp] theorem State.parserTo_printer (s : State) (p : Parser) : (s.parserTo p).printer = s.printer := rfl
@[simp] theorem State.parserTo_pacer (s : State) (p : Parser) : (s.parserTo p).pacer = s.pacer := rfl
@[simp] theorem State.parserTo_arb (s : State) (p : Parser) : (s.parserTo p).arb = s.arb := rfl
@[simp] theorem State.parserTo_punch (s : State) (p : Parser) : (s.parserTo p).punch = s.punch := rfl
@[simp] theorem State.parserTo_diag (s : State) (p : Parser) : (s.parserTo p).diag = s.diag := rfl

/-! ### `State.parserIdle`: The parser in IDLE, its stall timer stopped. -/

@[simp] theorem State.parserIdle_now (s : State) : (s.parserIdle).now = s.now := rfl
@[simp] theorem State.parserIdle_powered (s : State) : (s.parserIdle).powered = s.powered := rfl
@[simp] theorem State.parserIdle_pending (s : State) : (s.parserIdle).pending = s.pending := rfl
@[simp] theorem State.parserIdle_bells (s : State) : (s.parserIdle).bells = s.bells := rfl
@[simp] theorem State.parserIdle_straps (s : State) : (s.parserIdle).straps = s.straps := rfl
@[simp] theorem State.parserIdle_line (s : State) : (s.parserIdle).line = s.line := rfl
@[simp] theorem State.parserIdle_recv_parser (s : State) : (s.parserIdle).recv.parser = .idle := rfl
@[simp] theorem State.parserIdle_recv_dests (s : State) : (s.parserIdle).recv.dests = s.recv.dests := rfl
@[simp] theorem State.parserIdle_recv_senderCode (s : State) :
    (s.parserIdle).recv.senderCode = s.recv.senderCode := rfl
@[simp] theorem State.parserIdle_recv_kind (s : State) : (s.parserIdle).recv.kind = s.recv.kind := rfl
@[simp] theorem State.parserIdle_recv_disposition (s : State) :
    (s.parserIdle).recv.disposition = s.recv.disposition := rfl
@[simp] theorem State.parserIdle_recv_recordStatus (s : State) :
    (s.parserIdle).recv.recordStatus = s.recv.recordStatus := rfl
@[simp] theorem State.parserIdle_recv_contentCount (s : State) :
    (s.parserIdle).recv.contentCount = s.recv.contentCount := rfl
@[simp] theorem State.parserIdle_recv_contentError (s : State) :
    (s.parserIdle).recv.contentError = s.recv.contentError := rfl
@[simp] theorem State.parserIdle_recv_firstContent (s : State) :
    (s.parserIdle).recv.firstContent = s.recv.firstContent := rfl
@[simp] theorem State.parserIdle_recv_held (s : State) : (s.parserIdle).recv.held = s.recv.held := rfl
@[simp] theorem State.parserIdle_recv_breakPending (s : State) :
    (s.parserIdle).recv.breakPending = s.recv.breakPending := rfl
@[simp] theorem State.parserIdle_recv_stall (s : State) : (s.parserIdle).recv.stall = none := rfl
@[simp] theorem State.parserIdle_recv_lastStart (s : State) : (s.parserIdle).recv.lastStart = s.recv.lastStart := rfl
@[simp] theorem State.parserIdle_sender (s : State) : (s.parserIdle).sender = s.sender := rfl
@[simp] theorem State.parserIdle_answer (s : State) : (s.parserIdle).answer = s.answer := rfl
@[simp] theorem State.parserIdle_store (s : State) : (s.parserIdle).store = s.store := rfl
@[simp] theorem State.parserIdle_keys (s : State) : (s.parserIdle).keys = s.keys := rfl
@[simp] theorem State.parserIdle_interp (s : State) : (s.parserIdle).interp = s.interp := rfl
@[simp] theorem State.parserIdle_printer (s : State) : (s.parserIdle).printer = s.printer := rfl
@[simp] theorem State.parserIdle_pacer (s : State) : (s.parserIdle).pacer = s.pacer := rfl
@[simp] theorem State.parserIdle_arb (s : State) : (s.parserIdle).arb = s.arb := rfl
@[simp] theorem State.parserIdle_punch (s : State) : (s.parserIdle).punch = s.punch := rfl
@[simp] theorem State.parserIdle_diag (s : State) : (s.parserIdle).diag = s.diag := rfl

/-! ### `State.closeRecord`: The OPEN record closed (R9). -/

@[simp] theorem State.closeRecord_now (s : State) (e : EndReason) : (s.closeRecord e).now = s.now := rfl
@[simp] theorem State.closeRecord_powered (s : State) (e : EndReason) : (s.closeRecord e).powered = s.powered := rfl
@[simp] theorem State.closeRecord_pending (s : State) (e : EndReason) : (s.closeRecord e).pending = s.pending := rfl
@[simp] theorem State.closeRecord_bells (s : State) (e : EndReason) : (s.closeRecord e).bells = s.bells := rfl
@[simp] theorem State.closeRecord_straps (s : State) (e : EndReason) : (s.closeRecord e).straps = s.straps := rfl
@[simp] theorem State.closeRecord_line (s : State) (e : EndReason) : (s.closeRecord e).line = s.line := rfl
@[simp] theorem State.closeRecord_recv (s : State) (e : EndReason) : (s.closeRecord e).recv = s.recv := rfl
@[simp] theorem State.closeRecord_sender (s : State) (e : EndReason) : (s.closeRecord e).sender = s.sender := rfl
@[simp] theorem State.closeRecord_answer (s : State) (e : EndReason) : (s.closeRecord e).answer = s.answer := rfl
@[simp] theorem State.closeRecord_store_cells (s : State) (e : EndReason) :
    (s.closeRecord e).store.cells = s.store.cells := rfl
@[simp] theorem State.closeRecord_store_w (s : State) (e : EndReason) : (s.closeRecord e).store.w = s.store.w := rfl
@[simp] theorem State.closeRecord_store_recs (s : State) (e : EndReason) :
    (s.closeRecord e).store.recs = (s.store.updateOpen fun r => { r with state := .closed e }).recs.dropWhile Rec.reclaimable := rfl
@[simp] theorem State.closeRecord_store_requests (s : State) (e : EndReason) :
    (s.closeRecord e).store.requests = s.store.requests := rfl
@[simp] theorem State.closeRecord_keys (s : State) (e : EndReason) : (s.closeRecord e).keys = s.keys := rfl
@[simp] theorem State.closeRecord_interp (s : State) (e : EndReason) : (s.closeRecord e).interp = s.interp := rfl
@[simp] theorem State.closeRecord_printer (s : State) (e : EndReason) : (s.closeRecord e).printer = s.printer := rfl
@[simp] theorem State.closeRecord_pacer (s : State) (e : EndReason) : (s.closeRecord e).pacer = s.pacer := rfl
@[simp] theorem State.closeRecord_arb (s : State) (e : EndReason) : (s.closeRecord e).arb = s.arb := rfl
@[simp] theorem State.closeRecord_punch (s : State) (e : EndReason) : (s.closeRecord e).punch = s.punch := rfl
@[simp] theorem State.closeRecord_diag (s : State) (e : EndReason) : (s.closeRecord e).diag = s.diag := rfl

/-! ### `State.reportError`: An error report (R8). -/

@[simp] theorem State.reportError_now (s : State) : (s.reportError).now = s.now := rfl
@[simp] theorem State.reportError_powered (s : State) : (s.reportError).powered = s.powered := rfl
@[simp] theorem State.reportError_pending (s : State) : (s.reportError).pending = s.pending := rfl
@[simp] theorem State.reportError_bells (s : State) : (s.reportError).bells = s.bells := rfl
@[simp] theorem State.reportError_straps (s : State) : (s.reportError).straps = s.straps := rfl
@[simp] theorem State.reportError_line (s : State) : (s.reportError).line = s.line := rfl
@[simp] theorem State.reportError_recv (s : State) : (s.reportError).recv = s.recv := rfl
@[simp] theorem State.reportError_sender (s : State) : (s.reportError).sender = s.sender := rfl
@[simp] theorem State.reportError_answer (s : State) : (s.reportError).answer = s.answer := rfl
@[simp] theorem State.reportError_store_cells (s : State) : (s.reportError).store.cells = s.store.cells := rfl
@[simp] theorem State.reportError_store_w (s : State) : (s.reportError).store.w = s.store.w := rfl
@[simp] theorem State.reportError_store_recs (s : State) :
    (s.reportError).store.recs = (s.store.updateOpen fun r => { r with errors := satSucc 255 r.errors }).recs := rfl
@[simp] theorem State.reportError_store_requests (s : State) :
    (s.reportError).store.requests = s.store.requests := rfl
@[simp] theorem State.reportError_keys (s : State) : (s.reportError).keys = s.keys := rfl
@[simp] theorem State.reportError_interp (s : State) : (s.reportError).interp = s.interp := rfl
@[simp] theorem State.reportError_printer (s : State) : (s.reportError).printer = s.printer := rfl
@[simp] theorem State.reportError_pacer (s : State) : (s.reportError).pacer = s.pacer := rfl
@[simp] theorem State.reportError_arb (s : State) : (s.reportError).arb = s.arb := rfl
@[simp] theorem State.reportError_punch (s : State) : (s.reportError).punch = s.punch := rfl
@[simp] theorem State.reportError_diag (s : State) : (s.reportError).diag = s.diag := rfl

/-! ### `State.advancePrint`: The print claim raised (R12). -/

@[simp] theorem State.advancePrint_now (s : State) : (s.advancePrint).now = s.now := rfl
@[simp] theorem State.advancePrint_powered (s : State) : (s.advancePrint).powered = s.powered := rfl
@[simp] theorem State.advancePrint_pending (s : State) : (s.advancePrint).pending = s.pending := rfl
@[simp] theorem State.advancePrint_bells (s : State) : (s.advancePrint).bells = s.bells := rfl
@[simp] theorem State.advancePrint_straps (s : State) : (s.advancePrint).straps = s.straps := rfl
@[simp] theorem State.advancePrint_line (s : State) : (s.advancePrint).line = s.line := rfl
@[simp] theorem State.advancePrint_recv (s : State) : (s.advancePrint).recv = s.recv := rfl
@[simp] theorem State.advancePrint_sender (s : State) : (s.advancePrint).sender = s.sender := rfl
@[simp] theorem State.advancePrint_answer (s : State) : (s.advancePrint).answer = s.answer := rfl
@[simp] theorem State.advancePrint_store_cells (s : State) : (s.advancePrint).store.cells = s.store.cells := rfl
@[simp] theorem State.advancePrint_store_w (s : State) : (s.advancePrint).store.w = s.store.w := rfl
@[simp] theorem State.advancePrint_store_recs (s : State) :
    (s.advancePrint).store.recs = updateFirst (fun r => !r.print.done) Rec.stepPrint s.store.recs := rfl
@[simp] theorem State.advancePrint_store_requests (s : State) :
    (s.advancePrint).store.requests = s.store.requests := rfl
@[simp] theorem State.advancePrint_keys (s : State) : (s.advancePrint).keys = s.keys := rfl
@[simp] theorem State.advancePrint_interp (s : State) : (s.advancePrint).interp = s.interp := rfl
@[simp] theorem State.advancePrint_printer (s : State) : (s.advancePrint).printer = s.printer := rfl
@[simp] theorem State.advancePrint_pacer (s : State) : (s.advancePrint).pacer = s.pacer := rfl
@[simp] theorem State.advancePrint_arb (s : State) : (s.advancePrint).arb = s.arb := rfl
@[simp] theorem State.advancePrint_punch (s : State) : (s.advancePrint).punch = s.punch := rfl
@[simp] theorem State.advancePrint_diag (s : State) : (s.advancePrint).diag = s.diag := rfl

/-! ### `State.advancePunch`: The punch claim raised (R12). -/

@[simp] theorem State.advancePunch_now (s : State) : (s.advancePunch).now = s.now := rfl
@[simp] theorem State.advancePunch_powered (s : State) : (s.advancePunch).powered = s.powered := rfl
@[simp] theorem State.advancePunch_pending (s : State) : (s.advancePunch).pending = s.pending := rfl
@[simp] theorem State.advancePunch_bells (s : State) : (s.advancePunch).bells = s.bells := rfl
@[simp] theorem State.advancePunch_straps (s : State) : (s.advancePunch).straps = s.straps := rfl
@[simp] theorem State.advancePunch_line (s : State) : (s.advancePunch).line = s.line := rfl
@[simp] theorem State.advancePunch_recv (s : State) : (s.advancePunch).recv = s.recv := rfl
@[simp] theorem State.advancePunch_sender (s : State) : (s.advancePunch).sender = s.sender := rfl
@[simp] theorem State.advancePunch_answer (s : State) : (s.advancePunch).answer = s.answer := rfl
@[simp] theorem State.advancePunch_store_cells (s : State) : (s.advancePunch).store.cells = s.store.cells := rfl
@[simp] theorem State.advancePunch_store_w (s : State) : (s.advancePunch).store.w = s.store.w := rfl
@[simp] theorem State.advancePunch_store_recs (s : State) :
    (s.advancePunch).store.recs = updateFirst Rec.punchLive Rec.stepPunch s.store.recs := rfl
@[simp] theorem State.advancePunch_store_requests (s : State) :
    (s.advancePunch).store.requests = s.store.requests := rfl
@[simp] theorem State.advancePunch_keys (s : State) : (s.advancePunch).keys = s.keys := rfl
@[simp] theorem State.advancePunch_interp (s : State) : (s.advancePunch).interp = s.interp := rfl
@[simp] theorem State.advancePunch_printer (s : State) : (s.advancePunch).printer = s.printer := rfl
@[simp] theorem State.advancePunch_pacer (s : State) : (s.advancePunch).pacer = s.pacer := rfl
@[simp] theorem State.advancePunch_arb (s : State) : (s.advancePunch).arb = s.arb := rfl
@[simp] theorem State.advancePunch_punch (s : State) : (s.advancePunch).punch = s.punch := rfl
@[simp] theorem State.advancePunch_diag (s : State) : (s.advancePunch).diag = s.diag := rfl

/-! ### `State.owePair`: A return-and-feed pair owed (R153). -/

@[simp] theorem State.owePair_now (s : State) : (s.owePair).now = s.now := rfl
@[simp] theorem State.owePair_powered (s : State) : (s.owePair).powered = s.powered := rfl
@[simp] theorem State.owePair_pending (s : State) : (s.owePair).pending = s.pending := rfl
@[simp] theorem State.owePair_bells (s : State) : (s.owePair).bells = s.bells := rfl
@[simp] theorem State.owePair_straps (s : State) : (s.owePair).straps = s.straps := rfl
@[simp] theorem State.owePair_line (s : State) : (s.owePair).line = s.line := rfl
@[simp] theorem State.owePair_recv (s : State) : (s.owePair).recv = s.recv := rfl
@[simp] theorem State.owePair_sender (s : State) : (s.owePair).sender = s.sender := rfl
@[simp] theorem State.owePair_answer (s : State) : (s.owePair).answer = s.answer := rfl
@[simp] theorem State.owePair_store (s : State) : (s.owePair).store = s.store := rfl
@[simp] theorem State.owePair_keys (s : State) : (s.owePair).keys = s.keys := rfl
@[simp] theorem State.owePair_interp (s : State) : (s.owePair).interp = s.interp := rfl
@[simp] theorem State.owePair_printer_state (s : State) : (s.owePair).printer.state = s.printer.state := rfl
@[simp] theorem State.owePair_printer_column (s : State) : (s.owePair).printer.column = s.printer.column := rfl
@[simp] theorem State.owePair_printer_phase (s : State) : (s.owePair).printer.phase = s.printer.phase := rfl
@[simp] theorem State.owePair_printer_index (s : State) : (s.owePair).printer.index = s.printer.index := rfl
@[simp] theorem State.owePair_printer_hand (s : State) : (s.owePair).printer.hand = s.printer.hand := rfl
@[simp] theorem State.owePair_printer_motion (s : State) : (s.owePair).printer.motion = s.printer.motion := rfl
@[simp] theorem State.owePair_printer_selector (s : State) : (s.owePair).printer.selector = s.printer.selector := rfl
@[simp] theorem State.owePair_printer_pair (s : State) : (s.owePair).printer.pair = .both := rfl
@[simp] theorem State.owePair_printer_pendingFeeds (s : State) :
    (s.owePair).printer.pendingFeeds = s.printer.pendingFeeds := rfl
@[simp] theorem State.owePair_printer_returnOwed (s : State) :
    (s.owePair).printer.returnOwed = s.printer.returnOwed := rfl
@[simp] theorem State.owePair_printer_excluded (s : State) : (s.owePair).printer.excluded = s.printer.excluded := rfl
@[simp] theorem State.owePair_printer_paperAbsent (s : State) :
    (s.owePair).printer.paperAbsent = s.printer.paperAbsent := rfl
@[simp] theorem State.owePair_printer_paperMeasure (s : State) :
    (s.owePair).printer.paperMeasure = s.printer.paperMeasure := rfl
@[simp] theorem State.owePair_printer_spinUp (s : State) : (s.owePair).printer.spinUp = s.printer.spinUp := rfl
@[simp] theorem State.owePair_printer_spunUp (s : State) : (s.owePair).printer.spunUp = s.printer.spunUp := rfl
@[simp] theorem State.owePair_printer_stop (s : State) : (s.owePair).printer.stop = s.printer.stop := rfl
@[simp] theorem State.owePair_pacer (s : State) : (s.owePair).pacer = s.pacer := rfl
@[simp] theorem State.owePair_arb (s : State) : (s.owePair).arb = s.arb := rfl
@[simp] theorem State.owePair_punch (s : State) : (s.owePair).punch = s.punch := rfl
@[simp] theorem State.owePair_diag (s : State) : (s.owePair).diag = s.diag := rfl

/-! ### `State.enterPhase`: A record phase entered (R145). -/

@[simp] theorem State.enterPhase_now (s : State) (p : Phase) : (s.enterPhase p).now = s.now := rfl
@[simp] theorem State.enterPhase_powered (s : State) (p : Phase) : (s.enterPhase p).powered = s.powered := rfl
@[simp] theorem State.enterPhase_pending (s : State) (p : Phase) : (s.enterPhase p).pending = s.pending := rfl
@[simp] theorem State.enterPhase_bells (s : State) (p : Phase) : (s.enterPhase p).bells = s.bells := rfl
@[simp] theorem State.enterPhase_straps (s : State) (p : Phase) : (s.enterPhase p).straps = s.straps := rfl
@[simp] theorem State.enterPhase_line (s : State) (p : Phase) : (s.enterPhase p).line = s.line := rfl
@[simp] theorem State.enterPhase_recv (s : State) (p : Phase) : (s.enterPhase p).recv = s.recv := rfl
@[simp] theorem State.enterPhase_sender (s : State) (p : Phase) : (s.enterPhase p).sender = s.sender := rfl
@[simp] theorem State.enterPhase_answer (s : State) (p : Phase) : (s.enterPhase p).answer = s.answer := rfl
@[simp] theorem State.enterPhase_store (s : State) (p : Phase) : (s.enterPhase p).store = s.store := rfl
@[simp] theorem State.enterPhase_keys (s : State) (p : Phase) : (s.enterPhase p).keys = s.keys := rfl
@[simp] theorem State.enterPhase_interp (s : State) (p : Phase) : (s.enterPhase p).interp = s.interp := rfl
@[simp] theorem State.enterPhase_printer_state (s : State) (p : Phase) :
    (s.enterPhase p).printer.state = s.printer.state := rfl
@[simp] theorem State.enterPhase_printer_column (s : State) (p : Phase) :
    (s.enterPhase p).printer.column = s.printer.column := rfl
@[simp] theorem State.enterPhase_printer_phase (s : State) (p : Phase) : (s.enterPhase p).printer.phase = p := rfl
@[simp] theorem State.enterPhase_printer_index (s : State) (p : Phase) : (s.enterPhase p).printer.index = 0 := rfl
@[simp] theorem State.enterPhase_printer_hand (s : State) (p : Phase) :
    (s.enterPhase p).printer.hand = s.printer.hand := rfl
@[simp] theorem State.enterPhase_printer_motion (s : State) (p : Phase) :
    (s.enterPhase p).printer.motion = s.printer.motion := rfl
@[simp] theorem State.enterPhase_printer_selector (s : State) (p : Phase) :
    (s.enterPhase p).printer.selector = s.printer.selector := rfl
@[simp] theorem State.enterPhase_printer_pair (s : State) (p : Phase) :
    (s.enterPhase p).printer.pair = s.printer.pair := rfl
@[simp] theorem State.enterPhase_printer_pendingFeeds (s : State) (p : Phase) :
    (s.enterPhase p).printer.pendingFeeds = s.printer.pendingFeeds := rfl
@[simp] theorem State.enterPhase_printer_returnOwed (s : State) (p : Phase) :
    (s.enterPhase p).printer.returnOwed = s.printer.returnOwed := rfl
@[simp] theorem State.enterPhase_printer_excluded (s : State) (p : Phase) :
    (s.enterPhase p).printer.excluded = s.printer.excluded := rfl
@[simp] theorem State.enterPhase_printer_paperAbsent (s : State) (p : Phase) :
    (s.enterPhase p).printer.paperAbsent = s.printer.paperAbsent := rfl
@[simp] theorem State.enterPhase_printer_paperMeasure (s : State) (p : Phase) :
    (s.enterPhase p).printer.paperMeasure = s.printer.paperMeasure := rfl
@[simp] theorem State.enterPhase_printer_spinUp (s : State) (p : Phase) :
    (s.enterPhase p).printer.spinUp = s.printer.spinUp := rfl
@[simp] theorem State.enterPhase_printer_spunUp (s : State) (p : Phase) :
    (s.enterPhase p).printer.spunUp = s.printer.spunUp := rfl
@[simp] theorem State.enterPhase_printer_stop (s : State) (p : Phase) :
    (s.enterPhase p).printer.stop = s.printer.stop := rfl
@[simp] theorem State.enterPhase_pacer (s : State) (p : Phase) : (s.enterPhase p).pacer = s.pacer := rfl
@[simp] theorem State.enterPhase_arb (s : State) (p : Phase) : (s.enterPhase p).arb = s.arb := rfl
@[simp] theorem State.enterPhase_punch (s : State) (p : Phase) : (s.enterPhase p).punch = s.punch := rfl
@[simp] theorem State.enterPhase_diag (s : State) (p : Phase) : (s.enterPhase p).diag = s.diag := rfl

/-! ### `State.enterActive`: Entry into ACTIVE (R98). -/

@[simp] theorem State.enterActive_now (s : State) : (s.enterActive).now = s.now := rfl
@[simp] theorem State.enterActive_powered (s : State) : (s.enterActive).powered = s.powered := rfl
@[simp] theorem State.enterActive_pending (s : State) : (s.enterActive).pending = s.pending := rfl
@[simp] theorem State.enterActive_bells (s : State) : (s.enterActive).bells = s.bells := rfl
@[simp] theorem State.enterActive_straps (s : State) : (s.enterActive).straps = s.straps := rfl
@[simp] theorem State.enterActive_line (s : State) : (s.enterActive).line = s.line := rfl
@[simp] theorem State.enterActive_recv (s : State) : (s.enterActive).recv = s.recv := rfl
@[simp] theorem State.enterActive_sender (s : State) : (s.enterActive).sender = s.sender := rfl
@[simp] theorem State.enterActive_answer_memory (s : State) : (s.enterActive).answer.memory = s.answer.memory := rfl
@[simp] theorem State.enterActive_answer_cycle (s : State) : (s.enterActive).answer.cycle = s.answer.cycle := rfl
@[simp] theorem State.enterActive_answer_writeLatch (s : State) :
    (s.enterActive).answer.writeLatch = s.answer.writeLatch := rfl
@[simp] theorem State.enterActive_answer_draft (s : State) : (s.enterActive).answer.draft = s.answer.draft := rfl
@[simp] theorem State.enterActive_answer_attend (s : State) : (s.enterActive).answer.attend = s.answer.attend := rfl
@[simp] theorem State.enterActive_answer_attendSince (s : State) :
    (s.enterActive).answer.attendSince = s.answer.attendSince := rfl
@[simp] theorem State.enterActive_answer_power (s : State) : (s.enterActive).answer.power = .active := rfl
@[simp] theorem State.enterActive_answer_rest (s : State) : (s.enterActive).answer.rest = none := rfl
@[simp] theorem State.enterActive_answer_dormancy (s : State) : (s.enterActive).answer.dormancy = none := rfl
@[simp] theorem State.enterActive_store (s : State) : (s.enterActive).store = s.store := rfl
@[simp] theorem State.enterActive_keys (s : State) : (s.enterActive).keys = s.keys := rfl
@[simp] theorem State.enterActive_interp (s : State) : (s.enterActive).interp = s.interp := rfl
@[simp] theorem State.enterActive_printer_state (s : State) :
    (s.enterActive).printer.state = if s.printer.state == .off then .starting else s.printer.state := rfl
@[simp] theorem State.enterActive_printer_column (s : State) :
    (s.enterActive).printer.column = s.printer.column := rfl
@[simp] theorem State.enterActive_printer_phase (s : State) : (s.enterActive).printer.phase = s.printer.phase := rfl
@[simp] theorem State.enterActive_printer_index (s : State) : (s.enterActive).printer.index = s.printer.index := rfl
@[simp] theorem State.enterActive_printer_hand (s : State) : (s.enterActive).printer.hand = s.printer.hand := rfl
@[simp] theorem State.enterActive_printer_motion (s : State) :
    (s.enterActive).printer.motion = s.printer.motion := rfl
@[simp] theorem State.enterActive_printer_selector (s : State) :
    (s.enterActive).printer.selector = s.printer.selector := rfl
@[simp] theorem State.enterActive_printer_pair (s : State) : (s.enterActive).printer.pair = s.printer.pair := rfl
@[simp] theorem State.enterActive_printer_pendingFeeds (s : State) :
    (s.enterActive).printer.pendingFeeds = s.printer.pendingFeeds := rfl
@[simp] theorem State.enterActive_printer_returnOwed (s : State) :
    (s.enterActive).printer.returnOwed = s.printer.returnOwed := rfl
@[simp] theorem State.enterActive_printer_excluded (s : State) :
    (s.enterActive).printer.excluded = s.printer.excluded := rfl
@[simp] theorem State.enterActive_printer_paperAbsent (s : State) :
    (s.enterActive).printer.paperAbsent = s.printer.paperAbsent := rfl
@[simp] theorem State.enterActive_printer_paperMeasure (s : State) :
    (s.enterActive).printer.paperMeasure = s.printer.paperMeasure := rfl
@[simp] theorem State.enterActive_printer_spinUp (s : State) :
    (s.enterActive).printer.spinUp = if s.printer.state == .off then s.now else s.printer.spinUp := rfl
@[simp] theorem State.enterActive_printer_spunUp (s : State) : (s.enterActive).printer.spunUp = false := rfl
@[simp] theorem State.enterActive_printer_stop (s : State) : (s.enterActive).printer.stop = s.printer.stop := rfl
@[simp] theorem State.enterActive_pacer (s : State) : (s.enterActive).pacer = s.pacer := rfl
@[simp] theorem State.enterActive_arb (s : State) : (s.enterActive).arb = s.arb := rfl
@[simp] theorem State.enterActive_punch (s : State) : (s.enterActive).punch = s.punch := rfl
@[simp] theorem State.enterActive_diag (s : State) : (s.enterActive).diag = s.diag := rfl

/-! ### `State.withdraw`: A waiting request withdrawn (R165). -/

@[simp] theorem State.withdraw_now (s : State) (p : Party) : (s.withdraw p).now = s.now := rfl
@[simp] theorem State.withdraw_powered (s : State) (p : Party) : (s.withdraw p).powered = s.powered := rfl
@[simp] theorem State.withdraw_pending (s : State) (p : Party) : (s.withdraw p).pending = s.pending := rfl
@[simp] theorem State.withdraw_bells (s : State) (p : Party) : (s.withdraw p).bells = s.bells := rfl
@[simp] theorem State.withdraw_straps (s : State) (p : Party) : (s.withdraw p).straps = s.straps := rfl
@[simp] theorem State.withdraw_line (s : State) (p : Party) : (s.withdraw p).line = s.line := rfl
@[simp] theorem State.withdraw_recv (s : State) (p : Party) : (s.withdraw p).recv = s.recv := rfl
@[simp] theorem State.withdraw_sender (s : State) (p : Party) : (s.withdraw p).sender = s.sender := rfl
@[simp] theorem State.withdraw_answer (s : State) (p : Party) : (s.withdraw p).answer = s.answer := rfl
@[simp] theorem State.withdraw_store (s : State) (p : Party) : (s.withdraw p).store = s.store := rfl
@[simp] theorem State.withdraw_keys (s : State) (p : Party) : (s.withdraw p).keys = s.keys := rfl
@[simp] theorem State.withdraw_interp (s : State) (p : Party) : (s.withdraw p).interp = s.interp := rfl
@[simp] theorem State.withdraw_printer (s : State) (p : Party) : (s.withdraw p).printer = s.printer := rfl
@[simp] theorem State.withdraw_pacer (s : State) (p : Party) : (s.withdraw p).pacer = s.pacer := rfl
@[simp] theorem State.withdraw_arb (s : State) (p : Party) : (s.withdraw p).arb = s.arb.setWait p false := rfl
@[simp] theorem State.withdraw_punch (s : State) (p : Party) : (s.withdraw p).punch = s.punch := rfl
@[simp] theorem State.withdraw_diag (s : State) (p : Party) : (s.withdraw p).diag = s.diag := rfl

/-! ### `State.beginSweep`: A sweep begun (R197). -/

@[simp] theorem State.beginSweep_now (s : State) (k : SweepKind) : (s.beginSweep k).now = s.now := rfl
@[simp] theorem State.beginSweep_powered (s : State) (k : SweepKind) : (s.beginSweep k).powered = s.powered := rfl
@[simp] theorem State.beginSweep_pending (s : State) (k : SweepKind) : (s.beginSweep k).pending = s.pending := rfl
@[simp] theorem State.beginSweep_bells (s : State) (k : SweepKind) : (s.beginSweep k).bells = s.bells := rfl
@[simp] theorem State.beginSweep_straps (s : State) (k : SweepKind) : (s.beginSweep k).straps = s.straps := rfl
@[simp] theorem State.beginSweep_line (s : State) (k : SweepKind) : (s.beginSweep k).line = s.line := rfl
@[simp] theorem State.beginSweep_recv (s : State) (k : SweepKind) : (s.beginSweep k).recv = s.recv := rfl
@[simp] theorem State.beginSweep_sender (s : State) (k : SweepKind) : (s.beginSweep k).sender = s.sender := rfl
@[simp] theorem State.beginSweep_answer (s : State) (k : SweepKind) : (s.beginSweep k).answer = s.answer := rfl
@[simp] theorem State.beginSweep_store (s : State) (k : SweepKind) : (s.beginSweep k).store = s.store := rfl
@[simp] theorem State.beginSweep_keys (s : State) (k : SweepKind) : (s.beginSweep k).keys = s.keys := rfl
@[simp] theorem State.beginSweep_interp (s : State) (k : SweepKind) : (s.beginSweep k).interp = s.interp := rfl
@[simp] theorem State.beginSweep_printer (s : State) (k : SweepKind) : (s.beginSweep k).printer = s.printer := rfl
@[simp] theorem State.beginSweep_pacer (s : State) (k : SweepKind) : (s.beginSweep k).pacer = s.pacer := rfl
@[simp] theorem State.beginSweep_arb (s : State) (k : SweepKind) : (s.beginSweep k).arb = s.arb := rfl
@[simp] theorem State.beginSweep_punch (s : State) (k : SweepKind) : (s.beginSweep k).punch = s.punch := rfl
@[simp] theorem State.beginSweep_diag_codes (s : State) (k : SweepKind) :
    (s.beginSweep k).diag.codes = s.diag.codes := rfl
@[simp] theorem State.beginSweep_diag_latched (s : State) (k : SweepKind) :
    (s.beginSweep k).diag.latched = s.diag.latched := rfl
@[simp] theorem State.beginSweep_diag_again (s : State) (k : SweepKind) :
    (s.beginSweep k).diag.again = s.diag.again := rfl
@[simp] theorem State.beginSweep_diag_errorTotal (s : State) (k : SweepKind) :
    (s.beginSweep k).diag.errorTotal = s.diag.errorTotal := rfl
@[simp] theorem State.beginSweep_diag_request (s : State) (k : SweepKind) :
    (s.beginSweep k).diag.request = s.diag.request := rfl
@[simp] theorem State.beginSweep_diag_sweep (s : State) (k : SweepKind) :
    (s.beginSweep k).diag.sweep = some { kind := k, index := 0, findings := List.replicate 17 none, stage := .due } := rfl
@[simp] theorem State.beginSweep_diag_testing (s : State) (k : SweepKind) :
    (s.beginSweep k).diag.testing = s.diag.testing := rfl
@[simp] theorem State.beginSweep_diag_findings (s : State) (k : SweepKind) :
    (s.beginSweep k).diag.findings = s.diag.findings := rfl
@[simp] theorem State.beginSweep_diag_idleSince (s : State) (k : SweepKind) :
    (s.beginSweep k).diag.idleSince = s.diag.idleSince := rfl
@[simp] theorem State.beginSweep_diag_starting (s : State) (k : SweepKind) :
    (s.beginSweep k).diag.starting = s.diag.starting := rfl
@[simp] theorem State.beginSweep_diag_tapeLow (s : State) (k : SweepKind) :
    (s.beginSweep k).diag.tapeLow = s.diag.tapeLow := rfl

/-! ### `State.cutMotion`: The motion cut and the column UNKNOWN (R159). -/

@[simp] theorem State.cutMotion_now (s : State) : s.cutMotion.now = s.now := rfl
@[simp] theorem State.cutMotion_powered (s : State) : s.cutMotion.powered = s.powered := rfl
@[simp] theorem State.cutMotion_pending (s : State) : s.cutMotion.pending = s.pending := rfl
@[simp] theorem State.cutMotion_bells (s : State) : s.cutMotion.bells = s.bells := rfl
@[simp] theorem State.cutMotion_straps (s : State) : s.cutMotion.straps = s.straps := rfl
@[simp] theorem State.cutMotion_line (s : State) : s.cutMotion.line = s.line := rfl
@[simp] theorem State.cutMotion_recv (s : State) : s.cutMotion.recv = s.recv := rfl
@[simp] theorem State.cutMotion_sender (s : State) : s.cutMotion.sender = s.sender := rfl
@[simp] theorem State.cutMotion_answer (s : State) : s.cutMotion.answer = s.answer := rfl
@[simp] theorem State.cutMotion_store (s : State) : s.cutMotion.store = s.store := rfl
@[simp] theorem State.cutMotion_keys (s : State) : s.cutMotion.keys = s.keys := rfl
@[simp] theorem State.cutMotion_interp (s : State) : s.cutMotion.interp = s.interp := rfl
@[simp] theorem State.cutMotion_pacer (s : State) : s.cutMotion.pacer = s.pacer := rfl
@[simp] theorem State.cutMotion_arb (s : State) : s.cutMotion.arb = s.arb := rfl
@[simp] theorem State.cutMotion_punch (s : State) : s.cutMotion.punch = s.punch := rfl
@[simp] theorem State.cutMotion_diag (s : State) : s.cutMotion.diag = s.diag := rfl
@[simp] theorem State.cutMotion_printer_state (s : State) : s.cutMotion.printer.state = s.printer.state := rfl
@[simp] theorem State.cutMotion_printer_column (s : State) : s.cutMotion.printer.column = none := rfl
@[simp] theorem State.cutMotion_printer_phase (s : State) : s.cutMotion.printer.phase = s.printer.phase := rfl
@[simp] theorem State.cutMotion_printer_index (s : State) : s.cutMotion.printer.index = s.printer.index := rfl
@[simp] theorem State.cutMotion_printer_hand (s : State) : s.cutMotion.printer.hand = s.printer.hand := rfl
@[simp] theorem State.cutMotion_printer_motion (s : State) : s.cutMotion.printer.motion = .none := rfl
@[simp] theorem State.cutMotion_printer_selector (s : State) :
    s.cutMotion.printer.selector = s.printer.selector := rfl
@[simp] theorem State.cutMotion_printer_pair (s : State) : s.cutMotion.printer.pair = s.printer.pair := rfl
@[simp] theorem State.cutMotion_printer_pendingFeeds (s : State) :
    s.cutMotion.printer.pendingFeeds = s.printer.pendingFeeds := rfl
@[simp] theorem State.cutMotion_printer_returnOwed (s : State) :
    s.cutMotion.printer.returnOwed = s.printer.returnOwed := rfl
@[simp] theorem State.cutMotion_printer_excluded (s : State) :
    s.cutMotion.printer.excluded = s.printer.excluded := rfl
@[simp] theorem State.cutMotion_printer_paperAbsent (s : State) :
    s.cutMotion.printer.paperAbsent = s.printer.paperAbsent := rfl
@[simp] theorem State.cutMotion_printer_paperMeasure (s : State) :
    s.cutMotion.printer.paperMeasure = s.printer.paperMeasure := rfl
@[simp] theorem State.cutMotion_printer_spinUp (s : State) : s.cutMotion.printer.spinUp = s.printer.spinUp := rfl
@[simp] theorem State.cutMotion_printer_spunUp (s : State) : s.cutMotion.printer.spunUp = s.printer.spunUp := rfl
@[simp] theorem State.cutMotion_printer_stop (s : State) : s.cutMotion.printer.stop = s.printer.stop := rfl

end Sys2Proof.Machine
end

