-- ==== Sys2Proof/Laws/Commands.lean ====
section
/-! SUPPORT. What the frames of a command and the Sender's shared operations can do, said once each. -/
namespace Sys2Proof.Machine

/-! ### The frame of a command -/

@[simp] theorem whenPowered_of_powered {s : State} (h : s.powered = true) (f : State → State) :
    whenPowered s f = .next (f s) := by
  simp [whenPowered, h]

@[simp] theorem whenPowered_of_not_powered {s : State} (h : s.powered = false) (f : State → State) :
    whenPowered s f = .next s := by
  simp [whenPowered, h]

/-- A press that is taken leaves the queue and has its meaning (R123). -/
theorem withKey_of_takes {s : State} {p : Press} {rest : List Press} (h : s.Takes p rest) {sel : Press → Bool}
    (hp : sel p = true) (f : Press → State → State) : withKey s sel f = .next (f p (s.took rest)) := by
  simp [withKey, h.powered, h.queue, h.unheld, hp, State.took]

/-- A function key's press with no draft open (R126). -/
theorem withFunctionKey_of_takes {s : State} {p : Press} {rest : List Press} (h : s.Takes p rest)
    {sel : Press → Bool} (hp : sel p = true) (hd : s.answer.draft = none) (f : State → State) :
    withFunctionKey s sel f = .next (f (s.took rest)) := by
  rw [withFunctionKey, withKey_of_takes h hp]
  simp [hd]

/-- A function key's press that a draft refuses (R86). -/
theorem withFunctionKey_of_draft {s : State} {p : Press} {rest : List Press} (h : s.Takes p rest)
    {sel : Press → Bool} (hp : sel p = true) (hd : s.answer.draft ≠ none) (f : State → State) :
    withFunctionKey s sel f = .next (s.took rest).bell := by
  rw [withFunctionKey, withKey_of_takes h hp]
  simp [Option.isSome_iff_ne_none, hd]

/-! ### The Sender's choice -/

/-- Choosing a source changes the Sender alone, and of it no reply, watch, courtesy mark, block or generator (R64). -/
theorem State.chooseNext_frame (s : State) :
    ∃ r : Sender, s.chooseNext = { s with sender := r } ∧ r.replies = s.sender.replies ∧
      r.watch = s.sender.watch ∧ r.courtesy = s.sender.courtesy ∧ r.block = s.sender.block ∧
      r.position = s.sender.position ∧ r.headerLength = s.sender.headerLength ∧
      r.abandoning = s.sender.abandoning ∧ r.generator = s.sender.generator ∧
      (r.state = .idle ∨ r.state = .deferring) := by
  unfold State.chooseNext
  split
  · exact ⟨_, rfl, rfl, rfl, rfl, rfl, rfl, rfl, rfl, rfl, .inl rfl⟩
  · split
    · exact ⟨_, rfl, rfl, rfl, rfl, rfl, rfl, rfl, rfl, rfl, .inl rfl⟩
    · rename_i src h
      unfold State.beginSpan
      split
      · unfold State.startSpan
        split <;> exact ⟨_, rfl, rfl, rfl, rfl, rfl, rfl, rfl, rfl, rfl, .inr rfl⟩
      · exact ⟨_, rfl, rfl, rfl, rfl, rfl, rfl, rfl, rfl, rfl, .inr rfl⟩

/-- Work that appears is taken up by an IDLE Sender alone (R62). -/
theorem State.workAppears_of_busy {s : State} (h : s.sender.state ≠ .idle) : s.workAppears = s := by
  unfold State.workAppears
  rw [if_neg (by simpa using h)]

/-! ### The next sample instant and START -/

theorem sampleTicks_pos (speed : BitVec 3) : 0 < sampleTicks speed := by
  unfold sampleTicks
  split <;> decide

theorem State.samples_eq (s : State) (n : Nat) : s.samples n = n * s.samples 1 := by
  simp [State.samples]

/-- The next sample instant lies within one sample interval after the present one, whole intervals after QUIET (R35). -/
theorem State.nextSample_spec {s : State} (h : s.line.quietSince ≤ s.now) :
    s.now < s.nextSample ∧ s.nextSample ≤ s.now + s.samples 1 ∧
      ∃ k, s.nextSample = s.line.quietSince + s.samples k := by
  have hp : 0 < s.samples 1 := by simpa [State.samples] using sampleTicks_pos s.straps.speed
  have hd := Nat.div_add_mod' (s.now - s.line.quietSince) (s.samples 1)
  have hm := Nat.mod_lt (s.now - s.line.quietSince) hp
  have he : s.nextSample = s.line.quietSince +
      ((s.now - s.line.quietSince) / s.samples 1 * s.samples 1 + s.samples 1) := by
    rw [State.nextSample, State.samples_eq, Nat.succ_mul]
  exact ⟨by omega, by omega, _, rfl⟩

/-- An order START moves the clock to the next sample instant, and there refuses, begins the block, or finds none to
begin (R35, R70, R72). -/
theorem State.orderStart_cases (s : State) (lastMark : Bool) :
    (lastMark = false ∧ s.orderStart lastMark =
      { s.reach s.nextSample with sender := s.sender.noSpan }) ∨
    (lastMark = true ∧ (s.reach s.nextSample).buildBlock = none ∧
      s.orderStart lastMark = s.reach s.nextSample) ∨
    (lastMark = true ∧ ∃ header block, (s.reach s.nextSample).buildBlock = some (header, block) ∧
      s.orderStart lastMark = (s.reach s.nextSample).beginBlock header block) := by
  cases lastMark with
  | false => exact .inl ⟨rfl, rfl⟩
  | true =>
    cases h : (s.reach s.nextSample).buildBlock with
    | none => exact .inr (.inl ⟨rfl, rfl, by simp [State.orderStart, h]⟩)
    | some b => exact .inr (.inr ⟨rfl, b.1, b.2, rfl, by simp [State.orderStart, h]⟩)

/-! ### Paper and rows -/

/-- A MOT finding cuts the motion and loses the column in every state, and enters FAULT from any other (R159). -/
theorem State.motionFault_cases (s : State) :
    (s.printer.state = .fault ∧ s.motionFault = s.cutMotion) ∨
    (s.printer.state ≠ .fault ∧ s.motionFault = s.cutMotion.enterPrinterFault) := by
  unfold State.motionFault
  split
  · rename_i h
    exact .inl ⟨by simpa using h, rfl⟩
  · rename_i h
    exact .inr ⟨by simpa using h, rfl⟩


/-- The loss of paper gives way to a FAULT that waits, waits itself for what is in hand, or is PAPER OUT (R156). -/
theorem State.losePaper_cases (s : State) :
    (s.printer.stop = .fault ∧ s.losePaper = s) ∨
    (s.printer.state = .printing ∧ s.printer.busy = true ∧
      s.losePaper = { s with printer := { s.printer with stop := .paperOut } }) ∨
    (¬(s.printer.state = .printing ∧ s.printer.busy = true) ∧
      s.losePaper = s.dropHand.enterPaperOut.settle) := by
  unfold State.losePaper
  split
  · rename_i h
    exact .inl ⟨by simpa using h, rfl⟩
  · split
    · rename_i h
      rw [Bool.and_eq_true, beq_iff_eq] at h
      exact .inr (.inl ⟨h.1, h.2, rfl⟩)
    · rename_i h
      exact .inr (.inr ⟨by simpa using h, rfl⟩)

/-- A claim is finished at the end of a row when its record is CLOSED with every row made, and only then (R181). -/
theorem State.finishEnded_cases (s : State) :
    s.finishEnded = s ∨ (s.punch.state = .running ∧ 10 ≤ s.punch.leader ∧ s.finishEnded = s.finishPunch ∧
      ∃ r, s.store.punchCurrent = some r ∧ r.isOpen = false ∧ r.length ≤ r.punchPos) := by
  unfold State.finishEnded
  split
  · rename_i h
    unfold State.claimEnded at h
    split at h
    · simp at h
    · rename_i r hr
      simp only [Bool.and_eq_true, beq_iff_eq, decide_eq_true_eq, Bool.not_eq_true'] at h
      exact .inr ⟨h.1.1, h.1.2, rfl, r, hr, h.2.1, h.2.2⟩
  · exact .inl rfl

/-! ### The generator -/

/-- A step never takes the generator to 0 from anywhere else (R68). -/
theorem generatorStep_ne_zero {g : BitVec 16} (h : g ≠ 0#16) : generatorStep g ≠ 0#16 := by
  intro k
  apply h
  have hshift : g >>> 1 = 0#16 := by
    refine BitVec.eq_of_getLsbD_eq fun i hi => ?_
    have := congrArg (fun x => x.getLsbD i) k
    simp only [generatorStep, BitVec.getLsbD_or, BitVec.getLsbD_zero, Bool.or_eq_false_iff] at this
    simpa using this.1
  have hbit : ∀ i, 1 ≤ i → g.getLsbD i = false := by
    intro i hi
    have := congrArg (fun x => x.getLsbD (i - 1)) hshift
    simpa [show 1 + (i - 1) = i by omega] using this
  have htop : g.getLsbD 0 = false := by
    cases h0 : g.getLsbD 0 with
    | false => rfl
    | true =>
      have := congrArg (fun x => x.getLsbD 15) k
      simp only [generatorStep, h0, hbit 2 (by omega), hbit 3 (by omega), hbit 5 (by omega), hshift] at this
      exact absurd this (by decide)
  refine BitVec.eq_of_getLsbD_eq fun i hi => ?_
  cases i with
  | zero => simpa using htop
  | succ i => simpa using hbit (i + 1) (by omega)

theorem generatorSteps_ne_zero {g : BitVec 16} (h : g ≠ 0#16) (n : Nat) : generatorSteps n g ≠ 0#16 := by
  induction n generalizing g with
  | zero => exact h
  | succ n ih => exact ih (generatorStep_ne_zero h)

end Sys2Proof.Machine
end

