-- ==== Sys2Proof/Laws/Memory.lean ====
section
/-! SUPPORT. The cell memory (R1): its canonical form is kept by every operation on it, and the memory after reset
has it. -/
namespace Sys2Proof.Machine

theorem Memory.wf_iff (m : List Host.Cell) :
    Memory.wf m = true ↔ m.Pairwise (fun x y => x.1 < y.1) ∧ ∀ c ∈ m, c.2 ≠ Memory.unlisted := by
  simp [Memory.wf]

theorem Memory.wf_nil : Memory.wf [] = true := rfl

/-- A write brings in no address but the one written. -/
theorem Memory.mem_write {m : List Host.Cell} {a : Nat} {v : BitVec 8} {c : Host.Cell}
    (h : c ∈ Memory.write m a v) : c ∈ m ∨ (c = (a, v) ∧ v ≠ Memory.unlisted) := by
  induction m with
  | nil =>
    unfold Memory.write at h
    split at h <;> simp_all
  | cons x m ih =>
    obtain ⟨b, y⟩ := x
    unfold Memory.write at h
    split at h
    · split at h
      · exact .inl h
      · rcases List.mem_cons.1 h with h | h
        · exact .inr ⟨h, ‹_›⟩
        · exact .inl h
    · split at h
      · split at h
        · exact .inl (List.mem_cons_of_mem _ h)
        · rcases List.mem_cons.1 h with h | h
          · exact .inr ⟨h, ‹_›⟩
          · exact .inl (List.mem_cons_of_mem _ h)
      · rcases List.mem_cons.1 h with h | h
        · exact .inl (h ▸ List.mem_cons_self)
        · exact (ih h).imp_left (List.mem_cons_of_mem _)

/-- Writing a cell keeps the canonical form. -/
theorem Memory.write_wf {m : List Host.Cell} (h : Memory.wf m = true) (a : Nat) (v : BitVec 8) :
    Memory.wf (Memory.write m a v) = true := by
  rw [Memory.wf_iff] at h ⊢
  refine ⟨?_, fun c hc => ?_⟩
  · obtain ⟨h, -⟩ := h
    induction m with
    | nil => unfold Memory.write; split <;> simp
    | cons x m ih =>
      obtain ⟨b, y⟩ := x
      obtain ⟨hb, hm⟩ := List.pairwise_cons.1 h
      unfold Memory.write
      split
      · rename_i hab
        split
        · exact h
        · refine List.pairwise_cons.2 ⟨fun c hc => ?_, h⟩
          rcases List.mem_cons.1 hc with rfl | hc
          · exact hab
          · exact Nat.lt_trans hab (hb c hc)
      · split
        · rename_i hab
          subst hab
          split
          · exact hm
          · exact List.pairwise_cons.2 ⟨hb, hm⟩
        · refine List.pairwise_cons.2 ⟨fun c hc => ?_, ih hm⟩
          rcases Memory.mem_write hc with hc | ⟨rfl, -⟩
          · exact hb c hc
          · show b < a
            omega
  · rcases Memory.mem_write hc with hc | ⟨rfl, hv⟩
    · exact h.2 c hc
    · exact hv

/-- Storing a character at W keeps the canonical form (R1). -/
theorem Store.put_wf {st : Store} (h : Memory.wf st.cells = true) (c : Code) :
    Memory.wf (st.put c).cells = true :=
  Memory.write_wf h _ _

/-- So does storing a generated record's characters one after another (R11). -/
theorem Store.put_all_wf {st : Store} (h : Memory.wf st.cells = true) (cs : List Code) :
    Memory.wf (cs.foldl Store.put st).cells = true := by
  induction cs generalizing st with
  | nil => exact h
  | cons c cs ih => exact ih (Store.put_wf h c)

/-- So does storing a character in the OPEN record (R8). -/
theorem Store.storeChar_wf {st : Store} (h : Memory.wf st.cells = true) (c : Code) :
    Memory.wf (st.storeChar c).cells = true :=
  Store.put_wf h c

/-- The memory after power-on reset lists nothing. -/
theorem State.reset_wf : Memory.wf State.reset.store.cells = true := rfl

end Sys2Proof.Machine
end

