-- ==== Sys2Proof/Laws/Printing.lean ====
section
/-! SUPPORT. The printer's walk ends: every step of it leaves less to walk, and the fuel of `printerRun` is enough in a
store of sound shape. So after the follow-ups of a command a READY printer has no work and a PRINTING one has some
(R143), and the measures of the Answer Unit run exactly while their conditions hold (R96, R97). -/
namespace Sys2Proof.Machine

/-! ### What is left to walk -/

/-- The cells a record still has to print, and room for its phases. -/
def Rec.leftToPrint (r : Rec) : Nat := if r.print.done then 0 else r.length - r.print.pos + 7

/-- What the records still have to print. -/
def Store.leftToPrint (st : Store) : Nat := (st.recs.map Rec.leftToPrint).sum

/-- How far a phase stands in a record (R145). -/
def Phase.rank : Phase → Nat
  | .none => 0
  | .align => 1
  | .heading => 2
  | .text => 3
  | .closing => 4
  | .endLines => 5

/-- The part of `State.walkLeft` that the records and the phase have no share in. -/
def State.walkTail (s : State) : Nat :=
    (if s.printer.motion = .none then (if s.printer.pair = .none then 2 else 1) else 0) +
    match s.printer.state with
    | .printing => 1
    | .ready => if s.printerHasWork then 2 else 0
    | .off | .starting | .paperOut | .fault => 0

/-- The steps the printer can still walk before it must wait. -/
def State.walkLeft (s : State) : Nat := (s.store.leftToPrint - s.printer.phase.rank) + s.walkTail

/-! ### The records -/

/-- An update of the first record that satisfies `p` changes the sum by what it changes in that record. -/
theorem sum_updateFirst (p : Rec → Bool) (f : Rec → Rec) (l : List Rec) (r : Rec) (h : l.find? p = some r) :
    ((updateFirst p f l).map Rec.leftToPrint).sum + r.leftToPrint =
      (l.map Rec.leftToPrint).sum + (f r).leftToPrint := by
  induction l with
  | nil => cases h
  | cons a l ih =>
    unfold updateFirst
    cases e : p a with
    | true =>
      rw [List.find?_cons_of_pos e] at h
      cases h
      simp only [if_true, List.map_cons, List.sum_cons]
      omega
    | false =>
      rw [List.find?_cons_of_neg (by simp [e])] at h
      simp only [Bool.false_eq_true, if_false, List.map_cons, List.sum_cons]
      have := ih h
      omega

/-- Reclaim removes records that have nothing left to print. -/
theorem leftToPrint_reclaim (st : Store) : st.reclaim.leftToPrint = st.leftToPrint := by
  rw [Store.leftToPrint, Store.leftToPrint, Store.reclaim]
  show ((st.recs.dropWhile Rec.reclaimable).map Rec.leftToPrint).sum = _
  induction st.recs with
  | nil => rfl
  | cons a l ih =>
    cases e : a.reclaimable with
    | false => simp [e]
    | true =>
      have d : a.print.done = true := by
        simp only [Rec.reclaimable, Bool.and_eq_true] at e
        exact e.1.2
      simp [e, ih, Rec.leftToPrint, d]

/-- A current record has room for its phases left. -/
theorem leftToPrint_current {st : Store} {r : Rec} (h : st.printCurrent = some r) :
    r.leftToPrint = r.length - r.print.pos + 7 ∧ r.leftToPrint ≤ st.leftToPrint := by
  have d : r.print.done = false := by simpa using List.find?_some h
  refine ⟨by simp [Rec.leftToPrint, d], ?_⟩
  have := sum_updateFirst _ (fun x => { x with print := { x.print with done := true } }) _ _ h
  simp only [Rec.leftToPrint, if_true] at this
  rw [Store.leftToPrint]
  simp only [Rec.leftToPrint]
  omega

theorem leftToPrint_advance {s : State} {r : Rec} (h : s.store.printCurrent = some r)
    (hp : r.print.pos < r.length) : s.advancePrint.store.leftToPrint + 1 = s.store.leftToPrint := by
  have d : r.print.done = false := by simpa using List.find?_some h
  have := sum_updateFirst _ Rec.stepPrint _ _ h
  simp only [Rec.leftToPrint, Rec.stepPrint, d, Bool.false_eq_true, if_false] at this
  show (s.store.onPrint Rec.stepPrint).leftToPrint + 1 = _
  rw [Store.leftToPrint, Store.leftToPrint, Store.onPrint]
  show ((updateFirst _ Rec.stepPrint s.store.recs).map Rec.leftToPrint).sum + 1 = _
  omega

theorem leftToPrint_finish {s : State} {r : Rec} (h : s.store.printCurrent = some r) :
    s.finishPrint.store.leftToPrint + 7 ≤ s.store.leftToPrint := by
  have e := leftToPrint_current h
  have := sum_updateFirst _ Rec.donePrint _ _ h
  show (s.store.onPrint Rec.donePrint).reclaim.leftToPrint + 7 ≤ _
  rw [leftToPrint_reclaim, Store.leftToPrint, Store.leftToPrint, Store.onPrint]
  have z : r.donePrint.leftToPrint = 0 := by simp [Rec.leftToPrint, Rec.donePrint]
  simp only [z] at this
  show ((updateFirst _ Rec.donePrint s.store.recs).map Rec.leftToPrint).sum + 7 ≤ _
  omega

/-! ### The walk -/

/-- A PRINTING printer with no motion that begins one has less to walk. -/
theorem walkLeft_motion {s t : State} (hs : s.printer.state = .printing) (hm : s.printer.motion = .none)
    (ht : t.printer.state = .printing) (hn : t.printer.motion ≠ .none) (hst : t.store = s.store)
    (hp : t.printer.phase = s.printer.phase) : t.walkLeft < s.walkLeft := by
  simp only [State.walkLeft, State.walkTail, hs, hm, ht, hn, hst, hp, if_true, if_false]
  split <;> omega

theorem walkLeft_owePair {s : State} (hm : s.printer.motion = .none) (hp : s.printer.pair = .none) :
    s.owePair.walkLeft < s.walkLeft := by
  simp only [State.walkLeft, State.walkTail, State.owePair, State.printerHasWork, hm, hp, if_true, reduceCtorEq, if_false]
  omega

/-- A phase entered leaves less to walk. -/
theorem walkLeft_enterPhase {s : State} {r : Rec} (h : s.store.printCurrent = some r) (p : Phase)
    (hp : s.printer.phase.rank < p.rank) : (s.enterPhase p).walkLeft < s.walkLeft := by
  have e := leftToPrint_current h
  have b : s.printer.phase.rank ≤ 5 := by cases s.printer.phase <;> decide
  have k : (s.enterPhase p).walkTail = s.walkTail := rfl
  rw [State.walkLeft, State.walkLeft, k]
  show s.store.leftToPrint - p.rank + _ < _
  omega

theorem walkLeft_awaitSlot {s t : State} (hm : s.printer.motion = .none) (hp : s.printer.pair = .none)
    (h : s.awaitSlot = some t) : t.walkLeft < s.walkLeft := by
  unfold State.awaitSlot at h
  split at h
  · cases h; exact walkLeft_owePair hm hp
  · cases h

theorem walkLeft_alignThen {s t : State} (hm : s.printer.motion = .none) (hp : s.printer.pair = .none)
    (h : t.walkLeft < s.walkLeft) : (s.alignThen t).walkLeft < s.walkLeft := by
  unfold State.alignThen
  split
  · exact h
  · exact walkLeft_owePair hm hp

theorem walkLeft_beginReturn {s t : State} {c : MotionCause} (hs : s.printer.state = .printing)
    (hm : s.printer.motion = .none) (h : s.beginReturn c = some t) : t.walkLeft < s.walkLeft := by
  unfold State.beginReturn at h
  split at h
  · cases h
  · cases h; exact walkLeft_motion hs hm hs (by simp) rfl rfl

theorem walkLeft_beginFeed {s t : State} {c : MotionCause} (hs : s.printer.state = .printing)
    (hm : s.printer.motion = .none) (h : s.beginFeed c = some t) : t.walkLeft < s.walkLeft := by
  unfold State.beginFeed at h
  split at h
  · cases h
  · cases h; exact walkLeft_motion hs hm hs (by simp) rfl rfl

theorem walkLeft_beginStep {s t : State} {k : Hand} (hs : s.printer.state = .printing)
    (hm : s.printer.motion = .none) (h : s.beginStep k = some t) : t.walkLeft < s.walkLeft := by
  unfold State.beginStep at h
  split at h
  · cases h
  · cases h; exact walkLeft_motion hs hm hs (by simp) rfl rfl

/-- A cell counted in TEXT leaves less to walk. -/
theorem walkLeft_advance {s t : State} {r : Rec} (h : s.store.printCurrent = some r)
    (hpos : r.print.pos < r.length) (hs : s.printer.state = .printing) (hph : s.printer.phase = .text)
    (ht : t.store = s.advancePrint.store) (hpr : t.printer = s.printer) : t.walkLeft < s.walkLeft := by
  have e := leftToPrint_current h
  have a := leftToPrint_advance h hpos
  simp only [State.walkLeft, State.walkTail, ht, hpr, hs, hph, Phase.rank]
  omega

theorem walkLeft_takeCell {s t : State} {r : Rec} {c : Code} (hr : s.store.printCurrent = some r)
    (hpos : r.print.pos < r.length) (hs : s.printer.state = .printing) (hph : s.printer.phase = .text)
    (hm : s.printer.motion = .none) (hp : s.printer.pair = .none) (h : s.takeCell c = some t) :
    t.walkLeft < s.walkLeft := by
  unfold State.takeCell at h
  split at h
  · exact walkLeft_awaitSlot hm hp h
  · split at h
    · exact walkLeft_beginReturn hs hm h
    · split at h
      · exact walkLeft_beginFeed hs hm h
      · split at h
        · cases h
          split <;> exact walkLeft_advance hr hpos hs hph rfl rfl
        · cases h
          exact walkLeft_advance hr hpos hs hph rfl rfl

theorem walkLeft_phaseWork {s t : State} {r : Rec} (hr : s.store.printCurrent = some r)
    (hs : s.printer.state = .printing) (hm : s.printer.motion = .none) (hp : s.printer.pair = .none)
    (h : s.phaseWork r = some t) : t.walkLeft < s.walkLeft := by
  unfold State.phaseWork at h
  split at h
  · rename_i ph
    cases h; exact walkLeft_enterPhase hr _ (by rw [ph]; decide)
  · rename_i ph
    cases h; exact walkLeft_alignThen hm hp (walkLeft_enterPhase hr _ (by rw [ph]; decide))
  · rename_i ph
    split at h
    · exact walkLeft_awaitSlot hm hp h
    · cases h; exact walkLeft_enterPhase hr _ (by rw [ph]; decide)
  · rename_i ph
    split at h
    · rename_i pos
      exact walkLeft_takeCell hr pos hs ph hm hp h
    · split at h
      · cases h
      · cases h; exact walkLeft_enterPhase hr _ (by rw [ph]; decide)
  · rename_i ph
    cases h; exact walkLeft_alignThen hm hp (walkLeft_enterPhase hr _ (by rw [ph]; decide))
  · rename_i ph
    split at h
    · exact walkLeft_awaitSlot hm hp h
    · cases h
      have e := leftToPrint_finish hr
      simp only [State.walkLeft, State.walkTail, State.enterPhase, State.finishPrint, hs, hm, hp, ph, Phase.rank] at e ⊢
      omega

theorem walkLeft_printingWork {s t : State} (hs : s.printer.state = .printing) (h : s.printingWork = some t) :
    t.walkLeft < s.walkLeft := by
  unfold State.printingWork at h
  split at h
  · cases h
  · rename_i hm
    have hm : s.printer.motion = .none := by simpa using hm
    split at h
    · split at h
      · exact walkLeft_beginStep hs hm h
      · cases h
    · split at h
      · exact walkLeft_beginReturn hs hm h
      · split at h
        · exact walkLeft_beginReturn hs hm h
        · exact walkLeft_beginFeed hs hm h
        · rename_i hp
          split at h
          · exact walkLeft_beginFeed hs hm h
          · split at h
            · cases h
            · rename_i r hr
              exact walkLeft_phaseWork hr hs hm hp h

/-- Every step of the walk leaves less to walk (R143, R145). -/
theorem walkLeft_printerOnce {s t : State} (h : s.printerOnce = some t) : t.walkLeft < s.walkLeft := by
  unfold State.printerOnce at h
  split at h
  · rename_i hs
    split at h
    · rename_i hw
      cases h
      simp only [State.walkLeft, State.walkTail, hs, hw, if_true]
      omega
    · cases h
  · rename_i hs
    split at h
    · exact walkLeft_printingWork hs h
    · rename_i hw
      cases h
      have hw : s.printerHasWork = false := by simpa using hw
      have hw' : ∀ p d, State.printerHasWork { s with printer := { s.printer with state := p }, diag := d } = false :=
        fun _ _ => hw
      simp only [State.walkLeft, State.walkTail, hs, hw', Bool.false_eq_true, if_false]
      omega
  all_goals cases h

/-- With fuel for every step the walk ends where the printer must wait. -/
theorem repeatWhile_rests (n : Nat) (s : State) (h : s.walkLeft ≤ n) :
    (repeatWhile State.printerOnce n s).printerOnce = none := by
  induction n generalizing s with
  | zero =>
    cases e : s.printerOnce with
    | none => exact e
    | some t => have := walkLeft_printerOnce e; omega
  | succ n ih =>
    cases e : s.printerOnce with
    | none => rw [repeatWhile, e]; exact e
    | some t =>
      rw [repeatWhile, e]
      exact ih t (by have := walkLeft_printerOnce e; omega)

theorem leftToPrint_le (st : Store) : st.leftToPrint ≤ st.used + 7 * st.recs.length := by
  rw [Store.leftToPrint, Store.used]
  induction st.recs with
  | nil => exact Nat.le_refl _
  | cons a l ih =>
    simp only [List.map_cons, List.sum_cons, List.length_cons]
    have : a.leftToPrint ≤ a.length + 7 := by unfold Rec.leftToPrint; split <;> omega
    omega

/-- The printer's walk ends where the printer must wait (R143, R145), in any store no larger than the part's. -/
theorem State.printerRun_rests (s : State) (hn : s.store.recs.length ≤ maxRecords) (hu : s.store.used ≤ storeCells) :
    s.printerRun.printerOnce = none := by
  refine repeatWhile_rests _ _ ?_
  have e := leftToPrint_le s.store
  have : s.walkLeft ≤ s.store.leftToPrint + 4 := by
    unfold State.walkLeft State.walkTail
    split <;> split <;> (try split) <;> (try split) <;> omega
  simp only [maxRecords, storeCells, printerFuel] at *
  omega

/-- Where the printer must wait, READY means no work and PRINTING means work (R143). -/
theorem State.work_of_waiting {s : State} (h : s.printerOnce = none) :
    (s.printer.state = .ready → s.printerHasWork = false) ∧
    (s.printer.state = .printing → s.printerHasWork = true) := by
  unfold State.printerOnce at h
  constructor <;> intro hs <;> rw [hs] at h
  · cases w : s.printerHasWork with
    | false => rfl
    | true => simp [w] at h
  · cases w : s.printerHasWork with
    | true => rfl
    | false => simp [w] at h

/-! ### What the other follow-ups leave of it -/

/-- What the work of the printer and its idle measure are read from stands (R143, R197). -/
structure PrinterAlike (s t : State) : Prop where
  state : t.printer.state = s.printer.state
  motion : t.printer.motion = s.printer.motion
  feeds : t.printer.pendingFeeds = s.printer.pendingFeeds
  returnOwed : t.printer.returnOwed = s.printer.returnOwed
  idle : t.diag.idleSince = s.diag.idleSince
  work : t.store.printWork = s.store.printWork

theorem PrinterAlike.refl (s : State) : PrinterAlike s s := ⟨rfl, rfl, rfl, rfl, rfl, rfl⟩

theorem PrinterAlike.trans {s t u : State} (h : PrinterAlike s t) (k : PrinterAlike t u) : PrinterAlike s u :=
  ⟨k.state.trans h.state, k.motion.trans h.motion, k.feeds.trans h.feeds, k.returnOwed.trans h.returnOwed,
    k.idle.trans h.idle, k.work.trans h.work⟩

theorem PrinterAlike.hasWork {s t : State} (h : PrinterAlike s t) : t.printerHasWork = s.printerHasWork := by
  simp only [State.printerHasWork, h.work, h.feeds, h.returnOwed, h.motion]

theorem PrinterAlike.atWork {s t : State} (h : PrinterAlike s t) (k : s.PrinterAtWork) : t.PrinterAtWork := by
  constructor
  · intro e; rw [h.hasWork]; exact k.ready (h.state.symm.trans e)
  · intro e; rw [h.hasWork]; exact k.printing (h.state.symm.trans e)
  · rw [h.idle, h.state]; exact k.idle

theorem State.grantIfFree_alike (s : State) : PrinterAlike s s.grantIfFree := by
  have hd : s.diag.granted.idleSince = s.diag.idleSince := by unfold Diag.granted; split <;> rfl
  unfold State.grantIfFree
  split
  · split
    · exact PrinterAlike.refl s
    · rename_i p _
      cases p <;> exact ⟨rfl, rfl, rfl, rfl, by first | rfl | exact hd, rfl⟩
  · exact PrinterAlike.refl s

theorem State.request_alike (s : State) (p : Party) : PrinterAlike s (s.request p) :=
  PrinterAlike.trans (t := { s with arb := s.arb.setWait p true }) ⟨rfl, rfl, rfl, rfl, rfl, rfl⟩
    (State.grantIfFree_alike _)

theorem State.testGo_alike (s : State) : PrinterAlike s s.testGo := by
  unfold State.testGo
  split
  · exact PrinterAlike.refl s
  · split
    · refine PrinterAlike.trans ?_ (State.request_alike _ _)
      exact ⟨rfl, rfl, rfl, rfl, rfl, rfl⟩
    · exact PrinterAlike.refl s

theorem State.takeRow_alike (s : State) (c : RowContent) : PrinterAlike s (s.takeRow c) := by
  refine PrinterAlike.trans ?_ (State.request_alike _ _)
  exact ⟨rfl, rfl, rfl, rfl, rfl, rfl⟩

/-- A punch claim done and reclaimed leaves the print claims (R12, R13). -/
theorem State.finishPunch_alike (s : State) : PrinterAlike s s.finishPunch := by
  refine ⟨rfl, rfl, rfl, rfl, rfl, ?_⟩
  show ((updateFirst Rec.punchLive Rec.donePunch s.store.recs).dropWhile Rec.reclaimable).any _ =
    s.store.recs.any _
  have hu : ∀ l : List Rec, (updateFirst Rec.punchLive Rec.donePunch l).any (fun r => !r.print.done) =
      l.any fun r => !r.print.done := by
    intro l
    induction l with
    | nil => rfl
    | cons a l ih => unfold updateFirst; split <;> simp [Rec.donePunch, ih]
  rw [← hu s.store.recs]
  induction updateFirst Rec.punchLive Rec.donePunch s.store.recs with
  | nil => rfl
  | cons a l ih =>
    cases e : a.reclaimable with
    | false => simp [e]
    | true =>
      have d : a.print.done = true := by
        simp only [Rec.reclaimable, Bool.and_eq_true] at e
        exact e.1.2
      simp [e, ih, d]

theorem State.punchOnce_alike {s t : State} (h : s.punchOnce = some t) : PrinterAlike s t := by
  unfold State.punchOnce at h
  split at h
  · split at h
    · cases h; exact ⟨rfl, rfl, rfl, rfl, rfl, rfl⟩
    · cases h
  · split at h
    · cases h
    · split at h
      · split at h
        · cases h; exact s.takeRow_alike _
        · cases h
      · split at h
        · cases h; exact s.takeRow_alike _
        · cases h
      · unfold State.runClaim at h
        split at h
        · cases h; exact ⟨rfl, rfl, rfl, rfl, rfl, rfl⟩
        · split at h
          · cases h; exact s.takeRow_alike _
          · split at h
            · cases h; exact s.takeRow_alike _
            · split at h
              · cases h
              · cases h; exact s.finishPunch_alike
      all_goals cases h

theorem State.punchRun_alike (s : State) : PrinterAlike s s.punchRun := by
  rw [State.punchRun]
  generalize punchFuel = n
  induction n generalizing s with
  | zero => exact PrinterAlike.refl s
  | succ n ih =>
    cases e : s.punchOnce with
    | none => rw [repeatWhile, e]; exact PrinterAlike.refl s
    | some t => rw [repeatWhile, e]; exact (State.punchOnce_alike e).trans (ih t)

/-! ### The idle measure along the walk -/

/-- The idle measure runs exactly in READY (R197). -/
def State.IdleInReady (s : State) : Prop := s.diag.idleSince ≠ none ↔ s.printer.state = .ready

/-- The work of a PRINTING printer leaves it PRINTING and its idle measure as it was. -/
theorem State.printingWork_keeps {s t : State} (h : s.printingWork = some t) :
    t.printer.state = s.printer.state ∧ t.diag.idleSince = s.diag.idleSince := by
  have hr : ∀ {t : State} {c}, s.beginReturn c = some t →
      t.printer.state = s.printer.state ∧ t.diag.idleSince = s.diag.idleSince := by
    intro t c h; unfold State.beginReturn at h; split at h <;> cases h; exact ⟨rfl, rfl⟩
  have hf : ∀ {t : State} {c}, s.beginFeed c = some t →
      t.printer.state = s.printer.state ∧ t.diag.idleSince = s.diag.idleSince := by
    intro t c h; unfold State.beginFeed at h; split at h <;> cases h; exact ⟨rfl, rfl⟩
  have hb : ∀ {t : State} {c}, s.beginStep c = some t →
      t.printer.state = s.printer.state ∧ t.diag.idleSince = s.diag.idleSince := by
    intro t c h; unfold State.beginStep at h; split at h <;> cases h; exact ⟨rfl, rfl⟩
  have ha : ∀ {t : State}, s.awaitSlot = some t →
      t.printer.state = s.printer.state ∧ t.diag.idleSince = s.diag.idleSince := by
    intro t h; unfold State.awaitSlot at h; split at h <;> cases h; exact ⟨rfl, rfl⟩
  have hal : ∀ p, (s.alignThen (s.enterPhase p)).printer.state = s.printer.state ∧
      (s.alignThen (s.enterPhase p)).diag.idleSince = s.diag.idleSince := by
    intro p; unfold State.alignThen; split <;> exact ⟨rfl, rfl⟩
  have hc : ∀ {t : State} {c}, s.takeCell c = some t →
      t.printer.state = s.printer.state ∧ t.diag.idleSince = s.diag.idleSince := by
    intro t c h
    unfold State.takeCell at h
    split at h
    · exact ha h
    · split at h
      · exact hr h
      · split at h
        · exact hf h
        · split at h
          · cases h; split <;> exact ⟨rfl, rfl⟩
          · cases h; exact ⟨rfl, rfl⟩
  have hp : ∀ {t : State} {r}, s.phaseWork r = some t →
      t.printer.state = s.printer.state ∧ t.diag.idleSince = s.diag.idleSince := by
    intro t r h
    unfold State.phaseWork at h
    split at h
    · cases h; exact ⟨rfl, rfl⟩
    · cases h; exact hal _
    · split at h
      · exact ha h
      · cases h; exact ⟨rfl, rfl⟩
    · split at h
      · exact hc h
      · split at h
        · cases h
        · cases h; exact ⟨rfl, rfl⟩
    · cases h; exact hal _
    · split at h
      · exact ha h
      · cases h; exact ⟨rfl, rfl⟩
  unfold State.printingWork at h
  split at h
  · cases h
  · split at h
    · split at h
      · exact hb h
      · cases h
    · split at h
      · exact hr h
      · split at h
        · exact hr h
        · exact hf h
        · split at h
          · exact hf h
          · split at h
            · cases h
            · exact hp h

theorem State.printerOnce_idle {s t : State} (h : s.printerOnce = some t) (hi : s.IdleInReady) : t.IdleInReady := by
  unfold State.printerOnce at h
  split at h
  · split at h
    · cases h; simp [State.IdleInReady]
    · cases h
  · rename_i hs
    split at h
    · obtain ⟨e, f⟩ := State.printingWork_keeps h
      rw [State.IdleInReady, e, f]
      exact hi
    · cases h; simp [State.IdleInReady]
  all_goals cases h

theorem State.printerRun_idle {s : State} (hi : s.IdleInReady) : s.printerRun.IdleInReady := by
  rw [State.printerRun]
  generalize printerFuel = n
  induction n generalizing s with
  | zero => exact hi
  | succ n ih =>
    cases e : s.printerOnce with
    | none => rw [repeatWhile, e]; exact hi
    | some t => rw [repeatWhile, e]; exact ih (State.printerOnce_idle e hi)

/-- A wake leaves the store and the idle measure, and makes no printer READY. -/
theorem State.wakeOnWork_keeps (s : State) : s.wakeOnWork.store = s.store ∧
    s.wakeOnWork.diag = s.diag ∧ (s.wakeOnWork.printer.state = .ready ↔ s.printer.state = .ready) := by
  unfold State.wakeOnWork State.wake
  split
  · split
    · exact ⟨rfl, rfl, Iff.rfl⟩
    · refine ⟨rfl, rfl, ?_⟩
      cases h : s.printer.state <;> simp [State.enterActive, h]
  · exact ⟨rfl, rfl, Iff.rfl⟩

theorem State.testGo_store (s : State) : s.testGo.store = s.store := by
  have hg : ∀ u : State, u.grantIfFree.store = u.store := by
    intro u; unfold State.grantIfFree; split
    · split
      · rfl
      · rename_i p _; cases p <;> rfl
    · rfl
  unfold State.testGo
  split
  · rfl
  · split
    · exact hg _
    · rfl

/-- After the follow-ups of a command a READY printer has no work, a PRINTING one has some, and the idle measure runs
exactly in READY (R143, R197). -/
theorem State.settle_printerAtWork {s : State} (hn : s.store.recs.length ≤ maxRecords)
    (hu : s.store.used ≤ storeCells) (hi : s.IdleInReady) : s.settle.PrinterAtWork := by
  obtain ⟨hst, hd, hr⟩ := s.wakeOnWork_keeps
  have ht := State.testGo_alike s.wakeOnWork
  have hts : s.wakeOnWork.testGo.store = s.store := (State.testGo_store _).trans hst
  have hi' : s.wakeOnWork.testGo.IdleInReady := by
    rw [State.IdleInReady, ht.idle, ht.state, hd, hr]; exact hi
  have hw := State.work_of_waiting (s.wakeOnWork.testGo.printerRun_rests (by rw [hts]; exact hn) (by rw [hts]; exact hu))
  have hp : s.wakeOnWork.testGo.printerRun.PrinterAtWork := ⟨hw.1, hw.2, State.printerRun_idle hi'⟩
  exact PrinterAlike.atWork ((State.punchRun_alike _).trans ⟨rfl, rfl, rfl, rfl, rfl, rfl⟩) hp

/-! ### The measures of the Answer Unit -/

/-- The follow-ups raise no work in the store (R12, R19). -/
theorem FollowUp.work {s t : State} (h : FollowUp s t) :
    (t.store.printWork = true → s.store.printWork = true) ∧
    (t.store.punchWork = true → s.store.punchWork = true) := by
  obtain ⟨l, n, hl, ht, -⟩ := h.records
  have hk : ∀ a b : List Rec, followedAll s.store a b →
      (b.any (fun r => !r.print.done) = true → a.any (fun r => !r.print.done) = true) ∧
      (b.any Rec.punchLive = true → a.any Rec.punchLive = true) := by
    intro a
    induction a with
    | nil => intro b hb; cases b with
      | nil => exact ⟨id, id⟩
      | cons => exact hb.elim
    | cons r a ih =>
      intro b hb
      cases b with
      | nil => exact hb.elim
      | cons r' b =>
        obtain ⟨h1, h2⟩ := hb
        obtain ⟨i1, i2⟩ := ih b h2
        simp only [List.any_cons, Bool.or_eq_true]
        refine ⟨fun k => k.imp (fun k => ?_) i1, fun k => k.imp (fun k => ?_) i2⟩
        · cases d : r.print.done with
          | false => rfl
          | true => rw [h1.printKept d, d] at k; exact k
        · rcases h1.punch with e | ⟨p, hp, hd, hs, e⟩
          · rw [Rec.punchLive, e] at k; exact k
          · rw [Rec.punchLive, e] at k; simp at k
  have hdrop : ∀ p : Rec → Bool, (l.drop n).any p = true → l.any p = true := by
    intro p h
    rw [List.any_eq_true] at h ⊢
    obtain ⟨x, hx, hp⟩ := h
    exact ⟨x, List.mem_of_mem_drop hx, hp⟩
  obtain ⟨k1, k2⟩ := hk _ _ hl
  rw [Store.printWork, Store.punchWork, Store.printWork, Store.punchWork, ht]
  exact ⟨fun x => k1 (hdrop _ x), fun x => k2 (hdrop _ x)⟩

/-- After the follow-ups of a command the measures run exactly while their conditions hold, and no work stands outside
ACTIVE (R96, R97, R98). -/
theorem State.settle_measuresRun (s : State) : s.settle.MeasuresRun := by
  have hm : ∀ u : State, (u.updateMeasures.answer.rest ≠ none ↔
        u.answer.power = .active ∧ u.restCondition = true) ∧
      (u.updateMeasures.answer.dormancy ≠ none ↔ u.answer.power = .quiet ∧ u.answer.attend = .unattended) := by
    intro u
    constructor <;> simp only [State.updateMeasures] <;> split <;> simp_all
  refine ⟨(hm _).1, (hm _).2, fun hw => ?_⟩
  have hf : FollowUp s.wakeOnWork s.settle :=
    (((State.testGo_followUp _).trans (State.printerRun_followUp _)).trans (State.punchRun_followUp _)).trans
      (State.updateMeasures_followUp _)
  have hs : s.wakeOnWork.store.printWork = true ∨ s.wakeOnWork.store.punchWork = true :=
    hw.imp hf.work.1 hf.work.2
  have ha : s.wakeOnWork.answer.power = .active := by
    rw [s.wakeOnWork_keeps.1] at hs
    unfold State.wakeOnWork State.wake
    rw [if_pos (by simpa using hs)]
    split
    · rename_i h; simpa using h
    · rfl
  rcases hf.power with e | e
  · exact e.trans ha
  · exact e

end Sys2Proof.Machine
end

