-- ==== Sys2Proof/Laws/Store.lean ====
section
/-! SUPPORT. What the shared operations of the Message Store can do, said once each: the space steps, opening a record,
appending, and writing a generated record. -/
namespace Sys2Proof.Machine

/-! ### One element of a list -/

/-- `updateFirst` at the first element that satisfies its test (R12). -/
theorem updateFirst_append_cons {α : Type} {p : α → Bool} (f : α → α) {l : List α} {a : α} (l' : List α)
    (hl : ∀ x ∈ l, p x = false) (ha : p a = true) :
    updateFirst p f (l ++ a :: l') = l ++ f a :: l' := by
  induction l with
  | nil => simp [updateFirst, ha]
  | cons x l ih =>
    simp only [List.mem_cons, forall_eq_or_imp] at hl
    simp [updateFirst, hl.1, ih hl.2]

/-- A change of the elements that satisfy a test, where one alone does: of the OPEN record (R6) or composition (R124). -/
theorem map_ite_append_cons {α : Type} {p : α → Bool} (f : α → α) {l l' : List α} {a : α}
    (hl : ∀ x ∈ l ++ l', p x = false) (ha : p a = true) :
    (l ++ a :: l').map (fun x => if p x then f x else x) = l ++ f a :: l' := by
  have id_on : ∀ k : List α, (∀ x ∈ k, p x = false) → k.map (fun x => if p x then f x else x) = k := fun k hk =>
    (List.map_congr_left (g := id) fun x hx => by simp [hk x hx]).trans (List.map_id k)
  simp [id_on l fun x hx => hl x (by simp [hx]), id_on l' fun x hx => hl x (by simp [hx]), ha]

/-- The first element that satisfies a test. -/
theorem find?_append_cons {α : Type} {p : α → Bool} {l : List α} {a : α} (l' : List α)
    (hl : ∀ x ∈ l, p x = false) (ha : p a = true) : (l ++ a :: l').find? p = some a := by
  induction l with
  | nil => simp [ha]
  | cons x l ih =>
    simp only [List.mem_cons, forall_eq_or_imp] at hl
    simpa [hl.1] using ih hl.2

/-! ### Reports -/

/-- The latched event set after a latch (R200). -/
@[simp] theorem State.mem_latch (s : State) (e e' : Event) :
    e' ∈ (s.latch e).diag.latched ↔ e' = e ∨ e' ∈ s.diag.latched := by
  by_cases h : s.diag.latched.contains e
  · simp only [State.latch_diag_latched, h, if_true]
    refine ⟨.inr, fun k => k.elim (fun k => ?_) id⟩
    subst k
    simpa using h
  · simp only [State.latch_diag_latched, h]
    simp

/-- The events latched again since the last snapshot, after a latch (R200). -/
@[simp] theorem State.mem_latch_again (s : State) (e e' : Event) :
    e' ∈ (s.latch e).diag.again ↔ e' = e ∨ e' ∈ s.diag.again := by
  by_cases h : s.diag.again.contains e
  · simp only [State.latch_diag_again, h, if_true]
    refine ⟨.inr, fun k => k.elim (fun k => ?_) id⟩
    subst k
    simpa using h
  · simp only [State.latch_diag_again, h]
    simp

/-! ### Reclaim and the space steps -/

/-- What the space steps may change (R14, R15): records leave the head, none of them OPEN; PUNCH SKIPPED may be
latched, and the punch may lose its place. -/
structure SpaceSteps (s t : State) : Prop where
  frame : t = { s with
    store := { s.store with recs := t.store.recs }
    punch := { s.punch with leader := t.punch.leader }
    diag := { s.diag with latched := t.diag.latched, again := t.diag.again } }
  recs : ∃ n, t.store.recs = s.store.recs.drop n ∧ ∀ r ∈ s.store.recs.take n, r.isOpen = false
  latched : ∀ e, e ∈ t.diag.latched → e = .punchSkipped ∨ e ∈ s.diag.latched
  kept : ∀ e, e ∈ s.diag.latched → e ∈ t.diag.latched

theorem SpaceSteps.refl (s : State) : SpaceSteps s s :=
  ⟨rfl, ⟨0, rfl, by simp⟩, fun _ h => .inr h, fun _ h => h⟩

theorem SpaceSteps.trans {s t u : State} (h : SpaceSteps s t) (k : SpaceSteps t u) : SpaceSteps s u := by
  refine ⟨?_, ?_, fun e he => (k.latched e he).elim .inl (h.latched e), fun e he => k.kept e (h.kept e he)⟩
  · have hf := h.frame
    have kf := k.frame
    rw [kf]
    generalize u.store.recs = a, u.punch.leader = b, u.diag.latched = c, u.diag.again = d
    rw [hf]
  · obtain ⟨m, hm, hm'⟩ := h.recs
    obtain ⟨n, hn, hn'⟩ := k.recs
    refine ⟨m + n, by rw [hn, hm, List.drop_drop], fun r hr => ?_⟩
    rw [List.take_add] at hr
    rcases List.mem_append.1 hr with hr | hr
    · exact hm' r hr
    · exact hn' r (hm ▸ hr)

/-- Dropping reclaimable records drops some number of them, none OPEN. -/
theorem dropWhile_reclaimable (l : List Rec) :
    ∃ n, l.dropWhile Rec.reclaimable = l.drop n ∧ ∀ r ∈ l.take n, r.isOpen = false := by
  induction l with
  | nil => exact ⟨0, rfl, by simp⟩
  | cons r l ih =>
    by_cases h : r.reclaimable
    · obtain ⟨n, hn, hn'⟩ := ih
      refine ⟨n + 1, by simp [h, hn], fun x hx => ?_⟩
      rw [List.take_succ_cons, List.mem_cons] at hx
      rcases hx with rfl | hx
      · revert h; simp [Rec.reclaimable]; intro h _ _; exact h
      · exact hn' x hx
    · exact ⟨0, by simp [h], by simp⟩

/-- A head whose claim can be released is released and reclaimed. -/
theorem State.releaseHead_spaceSteps {s : State} (h : s.headReleasable = true) :
    SpaceSteps s s.releaseHead ∧ s.releaseHead.store.recs.length < s.store.recs.length := by
  unfold State.headReleasable at h
  split at h
  · cases h
  · rename_i r l hl
    have hr : r.isOpen = false ∧ r.print.done = true := by
      revert h; simp; intro h1 h2 _ _; exact ⟨h1, h2⟩
    have hs : r.skipPunch.reclaimable = true := by
      simp [Rec.reclaimable, Rec.skipPunch, Rec.punchLive, Rec.isOpen] at hr ⊢
      refine ⟨hr, ?_⟩
      cases r.punch <;> simp
    obtain ⟨n, hn, hn'⟩ := dropWhile_reclaimable l
    have hrecs : s.releaseHead.store.recs = l.drop n := by
      simp [State.releaseHead, Store.reclaim, hl, hs, hn]
    refine ⟨⟨?_, ⟨n + 1, ?_, ?_⟩, ?_, ?_⟩, ?_⟩
    · rfl
    · rw [hrecs, hl]; rfl
    · intro x hx
      rw [hl, List.take_succ_cons, List.mem_cons] at hx
      rcases hx with rfl | hx
      · exact hr.1
      · exact hn' x hx
    · intro e he
      exact (State.mem_latch s .punchSkipped e).1 he
    · intro e he
      exact (State.mem_latch s .punchSkipped e).2 (.inr he)
    · rw [hrecs, hl, List.length_drop, List.length_cons]
      omega

/-- The space steps, taken until the need is met or no head qualifies (R14, R15). -/
theorem State.makeRoom_spaceSteps (met : Store → Bool) (n : Nat) (s : State) :
    SpaceSteps s (s.makeRoom met n) ∧
      (s.store.recs.length ≤ n →
        met (s.makeRoom met n).store = true ∨ (s.makeRoom met n).headReleasable = false) := by
  induction n generalizing s with
  | zero =>
    refine ⟨SpaceSteps.refl s, fun h => .inr ?_⟩
    simp [State.makeRoom, State.headReleasable, List.length_eq_zero_iff.1 (Nat.le_zero.1 h)]
  | succ n ih =>
    unfold State.makeRoom
    split
    · exact ⟨SpaceSteps.refl s, fun _ => .inl ‹_›⟩
    · split
      · rename_i h
        obtain ⟨h1, h2⟩ := State.releaseHead_spaceSteps h
        obtain ⟨k1, k2⟩ := ih s.releaseHead
        exact ⟨h1.trans k1, fun hn => k2 (by omega)⟩
      · rename_i h
        exact ⟨SpaceSteps.refl s, fun _ => .inr (by simpa using h)⟩

/-- Space that is there already is not made. -/
theorem State.makeRoom_of_met {met : Store → Bool} {s : State} (h : met s.store = true) (n : Nat) :
    s.makeRoom met n = s := by
  cases n with
  | zero => rfl
  | succ n => simp [State.makeRoom, h]

/-- Space that cannot be had is not made. -/
theorem State.makeRoom_of_not_releasable {met : Store → Bool} {s : State} (h : s.headReleasable = false)
    (n : Nat) : s.makeRoom met n = s := by
  cases n with
  | zero => rfl
  | succ n => simp [State.makeRoom, h]

/-! ### Opening, appending, writing -/

/-- An open request (R7, R17): the space steps, then a descriptor at the tail, or STORE FULL. -/
theorem State.openRecord_cases (s : State) (k : RecKind) (peer : Option Station) :
    ∃ t, SpaceSteps s t ∧
      ((0 < t.store.freeRecs ∧ s.openRecord k peer = (t.addRec k peer, true)) ∨
        (t.store.freeRecs = 0 ∧ s.openRecord k peer = (t.latch .storeFull, false))) := by
  refine ⟨s.roomForRec, (State.makeRoom_spaceSteps _ _ s).1, ?_⟩
  unfold State.openRecord
  by_cases h : 0 < s.roomForRec.store.freeRecs
  · exact .inl ⟨h, by simp [h]⟩
  · exact .inr ⟨by omega, by simp [h]⟩

/-- An append (R8, R16): nothing with no record OPEN, a dropped character counted in a truncated one, a character
stored where a cell can be had, a truncation where none can. -/
theorem State.append_cases (s : State) (c : Code) :
    (s.store.openRec = none ∧ s.append c = s) ∨
    (∃ r, s.store.openRec = some r ∧
      ((r.truncated = true ∧ s.append c =
          { s with store := s.store.updateOpen fun r => { r with dropped := satSucc 65535 r.dropped } }) ∨
        (r.truncated = false ∧ ∃ t, SpaceSteps s t ∧
          ((0 < t.store.free ∧ s.append c = { t with store := t.store.storeChar c }) ∨
            (t.store.free = 0 ∧ s.append c = t.truncateRecord))))) := by
  unfold State.append
  cases h : s.store.openRec with
  | none => exact .inl ⟨rfl, rfl⟩
  | some r =>
    refine .inr ⟨r, rfl, ?_⟩
    by_cases ht : r.truncated
    · exact .inl ⟨ht, by simp [ht]⟩
    · refine .inr ⟨by simpa using ht, s.roomForCell, (State.makeRoom_spaceSteps _ _ s).1, ?_⟩
      by_cases hf : 0 < s.roomForCell.store.free
      · exact .inl ⟨hf, by simp [ht, hf]⟩
      · exact .inr ⟨by omega, by simp [ht, hf]⟩

/-- An append keeps the memory's canonical form. -/
theorem State.append_wf {s : State} (h : Memory.wf s.store.cells = true) (c : Code) :
    Memory.wf (s.append c).store.cells = true := by
  rcases s.append_cases c with ⟨-, e⟩ | ⟨r, -, ⟨-, e⟩ | ⟨-, t, k, ⟨-, e⟩ | ⟨-, e⟩⟩⟩
  · rw [e]; exact h
  · rw [e]; exact h
  · rw [e]
    refine Store.storeChar_wf ?_ c
    rw [k.frame]; exact h
  · rw [e, State.truncateRecord]
    show Memory.wf t.store.cells = true
    rw [k.frame]; exact h

/-- A generated record (R11): the space steps, then the whole record CLOSED COMPLETE, or nothing. -/
theorem State.writeGenerated_cases (s : State) (k : RecKind) (text : List Code) :
    ∃ t, SpaceSteps s t ∧
      ((0 < t.store.freeRecs ∧ text.length ≤ t.store.free ∧
          s.writeGenerated k text = ({ t with store := Store.reclaim { text.foldl Store.put t.store with
            recs := (text.foldl Store.put t.store).recs ++ [{ newRec t.straps.punchsel k none t.store.w with
              length := text.length, state := .closed .complete }] } }, true)) ∨
        ((t.store.freeRecs = 0 ∨ t.store.free < text.length) ∧ s.writeGenerated k text = (t, false))) := by
  refine ⟨s.roomForText text.length, (State.makeRoom_spaceSteps _ _ s).1, ?_⟩
  unfold State.writeGenerated
  by_cases h : 0 < (s.roomForText text.length).store.freeRecs ∧
      text.length ≤ (s.roomForText text.length).store.free
  · exact .inl ⟨h.1, h.2, by simp [h]⟩
  · refine .inr ⟨by omega, by simp [h]⟩

/-- A record's descriptor and its cells do not depend on storing another record's characters. -/
@[simp] theorem Store.put_all_recs (st : Store) (cs : List Code) :
    (cs.foldl Store.put st).recs = st.recs ∧ (cs.foldl Store.put st).requests = st.requests := by
  induction cs generalizing st with
  | nil => exact ⟨rfl, rfl⟩
  | cons c cs ih => exact ih (st.put c)

end Sys2Proof.Machine
end

