-- ==== Sys2Proof/Tests/Slice0.lean ====
section
/-! SUPPORT. The model's own tests. The `test_` theorems hold the model against figures the manual writes out; a
`witness_` theorem shows, for a statement of Certificates/Slice0/Obligations.lean, a state and operands that meet the
hypotheses of each of its clauses, with a field of what the command then leaves (a value that the command leaves only
where those hypotheses hold). -/
namespace Sys2Proof.Tests
open Sys2Proof Sys2Proof.Machine

/-! ### States -/

/-- The pins of log 6. -/
def pins : Pins :=
  { code := 0, speed := 0, monitor := false, punchsel := 0, setup := false, supplyLow := false, tapeLow := false,
    tapeOut := false, paper := true }

/-- What a command leaves. -/
def after (c : Instr) (s : State) : State :=
  match exec c s with
  | .next t => t
  | .fault _ | .refused _ => s

/-- Station 07 at 150 baud (SPEED 3, R23) at rest: STARTING over, the line QUIET, the printer READY at column 0. -/
def station : State :=
  { State.reset with
    straps := { code := 7, speed := 3, monitor := false, punchsel := 0, setup := true }
    line := { LineIf.reset with sampler := .hunting, condition := .quiet }
    keys := { KeySense.reset with seeding := 16 }
    printer := { Printer.reset with state := .ready, column := some 0, returnOwed := false, spunUp := true }
    arb := Arbiter.reset
    diag := { Diag.reset with latched := [], again := [], starting := false } }

/-- The station with a line condition. -/
def onLine (c : LineCondition) : State := { station with line := { station.line with condition := c } }

/-- The station with its sampler in a state. -/
def sampling (x : SamplerState) (confirmed held : Bool) : State :=
  { station with line := { station.line with
      sampler := x, condition := .busy, startConfirmed := confirmed, nullHeld := held } }

/-- The station hearing a block from station 12 for the own code, its parser in a state. -/
def hearing (p : Parser) : State :=
  { onLine .busy with recv := { Receiver.reset with
      parser := p, dests := .codes [7], senderCode := some 12, stall := some 1000 } }

/-- A received record of `n` cells from cell 0. -/
def record (n : Nat) : Rec :=
  { kind := .received, peer := some 12, start := 0, length := n, state := .closed .complete, errors := 0,
    truncated := false, dropped := 0, print := { pos := 0, done := false }, punch := none }

/-- A state with a store. -/
def storing (s : State) (l : List Rec) (w : Nat) : State := { s with store := { Store.reset with recs := l, w := w } }

/-- A block in TEXT with its record OPEN. -/
def recording (k : RecKind) (r : Rec) : State :=
  let s := storing (hearing .text) [{ r with kind := k, state := .opened }] (r.length % 4096)
  { s with recv := { s.recv with disposition := .recorded k, recordStatus := .opened, kind := some .body } }

/-- A composition. -/
def comp (k : CompKind) (d : Dests) (st : CompState) : Comp :=
  { serial := 0, kind := k, dests := d, pendingDigit := none, text := [.char 0x41], yields := 0, state := st }

/-- A state with compositions. -/
def composing (s : State) (l : List Comp) : State := { s with interp := { s.interp with comps := l } }

/-- The station DEFERRING for a source. -/
def deferring (src : Source) (l : List Reply) : State :=
  { station with sender := { station.sender with state := .deferring, source := src, replies := l } }

/-- The station SENDING, a character in hand. -/
def sending (src : Source) (l : List Reply) (c : Code) (block : List Code) (position header : Nat) : State :=
  { onLine .busy with
    line := { (onLine .busy).line with tx := .shifting c 0 }
    sender := { station.sender with
      state := .sending, source := src, replies := l, block := block, position := position, headerLength := header } }

def press (p : Nat) (ctrl : Bool) : Press := { position := p, shift := false, ctrl := ctrl, repeated := false }

/-- A state whose Interpreter has one press to take. -/
def pressed (s : State) (p : Nat) (ctrl : Bool) : State :=
  { s with interp := { s.interp with queue := [press p ctrl], held := none } }

theorem pressed_takes {s : State} (h : s.powered = true) (p : Nat) (ctrl : Bool) :
    (pressed s p ctrl).Takes (press p ctrl) [] :=
  ⟨h, rfl, rfl⟩

/-- The station with an identity draft open. -/
def drafting (d : List Code) : State := { station with answer := { station.answer with draft := some d } }

/-- The station in LOCAL mode. -/
def local_ : State := { station with interp := { station.interp with mode := .localMode } }

/-- The printer printing a record from its first cell at a column. -/
def printing (r : Rec) (c : Nat) : State :=
  let s := storing station [r] (r.length % 4096)
  { s with
    store := { s.store with cells := [(0, 0x41)] }
    printer := { s.printer with state := .printing, phase := .text, column := some c } }

/-- The station with a motion under way. -/
def moving (m : Motion) (stop : Stop) : State :=
  { station with printer := { station.printer with state := .printing, column := some 5, motion := m, stop := stop } }

/-- The station punching a row of a record. -/
def punching (c : RowContent) (st : RowStage) : State :=
  let s := storing station [{ record 3 with punch := some { pos := 0, done := false, skipped := false } }] 3
  { s with punch := { s.punch with state := .running, leader := 9, row := some { content := c, stage := st, since := 0 } } }

/-- The station with its punch in a state and nothing in hand. -/
def punchIn (p : PunchState) : State := { station with punch := { station.punch with state := p } }

/-- The station with a channel under test in a sweep. -/
def testing (k : SweepKind) (n : Nat) : State :=
  { station with
    arb := { Arbiter.reset with holder := some .test, until' := 528 }
    diag := { station.diag with
      sweep := some { kind := k, index := n, findings := List.replicate 17 none, stage := .granted }
      testing := some { index := n, counts := true } } }

/-- The station with a key in a state. -/
def keyed (p : Nat) (r : KeyRec) : State :=
  { station with keys := { station.keys with recs := station.keys.recs.set p r } }

/-! ### Well-formed commands -/

theorem test_illFormed_keyScan : (Instr.keyScan (List.replicate 63 0)).wellFormed = false := by decide
theorem test_illFormed_seedingScan : (Instr.seedingScan []).wellFormed = false := by decide
theorem test_illFormed_seeded : (Instr.seeded (List.replicate 65 0)).wellFormed = false := by decide
theorem test_illFormed_pressEvent : (Instr.pressEvent 0).wellFormed = false := by decide
theorem test_illFormed_stuckKey : (Instr.stuckKey 7).wellFormed = false := by decide
theorem test_illFormed_excursionReseed : (Instr.excursionReseed 64).wellFormed = false := by decide
theorem test_illFormed_mismatch :
    (Instr.mismatch 0).wellFormed = false ∧ (Instr.mismatch 10).wellFormed = false := by decide

/-! ### Figures the manual writes out -/

/-- Reset (log 6): power-on reset with those pins gives the reset state. -/
theorem test_powerOnReset : after (.powerOnReset pins) State.reset = State.reset := by decide

/-- The seeds of the generator (R68): stations 05 and 31. -/
theorem test_generatorSeed : generatorSeed 5 = 0x8005 ∧ generatorSeed 31 = 0x801F := by decide

/-- Dot counts of the glyph table (R150). -/
theorem test_glyphs : firedDots 0x20 [] = 0 ∧ firedDots 0x40 [] = 18 ∧ firedDots 0x42 [] = 20 ∧
    firedDots 0x27 [] = 3 ∧ firedDots 0x7F [] = 35 ∧ firedDots 0x64 [] = 16 := by decide

/-- The identity as delivered (R84), and a receipt's confirmation (R81). -/
theorem test_texts : station.identityText = textOf "STATION 07" ∧
    confirmText 12 (some .k) = textOf "12 RECEIPT K" ∧ confirmText 3 none = textOf "03 RECEIPT NONE" := by decide

/-- Reference deltas and their corrections (R105). -/
theorem test_correction : correction 10 = 7 ∧ correction (-10) = -7 ∧ correction 1 = 0 ∧ correction (-1) = 0 := by
  decide

/-- Character times in ticks (R23): SPEED 3, 150 baud, has 10 elements of 16 samples of 110 ticks. -/
theorem test_charTime : station.charTimes 1 = 17600 ∧ sampleTicks 0 = 330 ∧ sampleTicks 4 = 55 := by decide

/-- The default content of an IDENT block has 11 characters (R91). -/
theorem test_identContent : station.identityContent = textOf "STATION 07A" := by decide

/-- Headings (R146). -/
theorem test_headings : (record 0).heading = textOf "12> " ∧
    { record 0 with kind := .sent, peer := none }.heading = textOf "**< " ∧
    { record 0 with kind := .ident }.heading = textOf "12 IS " := by decide

/-- The key E over the scans of the worked case of spec/06_key_sensing.md: each count, and whether the half is free. -/
def scansOfE (l : List (Nat × Bool)) : Nat × Nat × KeyState :=
  let r := l.foldl (fun r x => (r.sense 0 18 (filterCount r.f x.1) 7).stage6 18 x.2)
    { KeyRec.reset with f := 1602, l16 := 25600 }
  (r.f, r.l16, r.state)

/-- The worked case's scans 1, 4, 6 and 7. -/
theorem test_pressOfE :
    scansOfE [(1850, true)] = (1726, 25631, .idle) ∧
    scansOfE [(1850, true), (1860, false), (1858, false), (1861, false)] = (1843, 25631, .pressed) ∧
    scansOfE [(1850, true), (1860, false), (1858, false), (1861, false), (1620, false), (1605, false)] =
      (1668, 25631, .leaving) ∧
    scansOfE [(1850, true), (1860, false), (1858, false), (1861, false), (1620, false), (1605, false),
      (1602, true)] = (1635, 25639, .idle) := by decide

/-- The worked case of spec/09_magnet_supply_and_head_pacing.md from B1 to B2: H and the pacing state. -/
theorem test_enteringWarm :
    let b1 := after .slotBoundary { station with pacer := { h := 40600, state := .cool, lastFired := true, steps := 2 } }
    let b2 := after .slotBoundary (after .coolingStep (after .coolingStep b1))
    b1.pacer = { h := 40283, state := .warm, lastFired := false, steps := 3 } ∧ b2.pacer.h = 39348 ∧
      b2.pacer.state = .warm ∧ b2.diag.latched = [.warm] := by decide

/-- The four lines of a report with nothing latched (R203). -/
theorem test_statusText : station.statusText =
    textOf "STATION 07 MODE A FREE 4096 CELLS 24 RECS" ++ crLf ++ textOf "NONE" ++ crLf ++
      textOf "-----------------" ++ crLf ++ textOf "ERRORS 000" ++ crLf := by decide

set_option maxRecDepth 4000 in
/-- A report is 80 characters with nothing latched and 252 with all 18 events latched (R203, counted from its table). -/
theorem test_statusTextLength : station.statusText.length = 80 ∧
    { station with diag := { station.diag with latched := allEvents } }.statusText.length = 252 := by decide

/-! ### Witnesses: the whole machine -/

theorem witness_IdleAndUnpoweredSteps : station.pending = [] ∧ (after .lossOfPower station).powered = false ∧
    (∀ p, Instr.tapeRestored ≠ .powerOnReset p) := by
  refine ⟨rfl, rfl, fun p h => nomatch h⟩

/-- A store of two records and one listed cell, and a command to carry out. -/
def shaped : State :=
  { storing station [{ record 4095 with start := 1 }, { record 1 with start := 0, state := .closed .split }] 1 with
    pending := [.tapeLow true] }

theorem witness_MemoryKeepsCanonicalForm :
    State.memoryCanonical { shaped with store := { shaped.store with cells := [(4095, 1)] } } ∧
    ∃ t, step shaped = .next t :=
  ⟨rfl, _, rfl⟩

theorem witness_StoreKeepsItsShape : shaped.StoreShape ∧ ∃ t, step shaped = .next t := by
  refine ⟨?_, _, rfl⟩
  constructor
  case contiguous => exact ⟨rfl, rfl⟩
  all_goals decide

theorem witness_BlocksStayInRange :
    State.CountersInRange { shaped with
      pacer := { shaped.pacer with h := 65535 }, diag := { shaped.diag with errorTotal := 255 } } ∧
    State.KeysInRange shaped ∧
    State.CompsInBounds (composing shaped (List.replicate 4 { comp .message (.codes [0, 1, 31]) .held with
      pendingDigit := some 9, yields := 3 })) ∧
    State.RecordsInRange (storing station [{ record 1 with errors := 255, dropped := 65535 }] 1) ∧
    State.PrintInRange { printing (record 1) 71 with printer := { (printing (record 1) 71).printer with
      index := 24, motion := .feed 0 .cell } } ∧
    State.PunchInRange (punching .leader .waiting) ∧
    State.PunchInRange { punching (.cell 0x41) .settling with punch := { (punching (.cell 0x41) .settling).punch with
      leader := 10 } } := by
  refine ⟨?_, ?_, ?_, ?_, ?_, ?_, ?_⟩
  · constructor
    case column => intro c h; cases h; decide
    case stepRoom => intro h; cases h
    all_goals decide
  · constructor
    · decide
    · intro r hr
      rw [List.eq_of_mem_replicate hr]
      exact ⟨by decide, by decide, by decide, by decide⟩
  · constructor
    case fields =>
      intro c hc
      rw [List.eq_of_mem_replicate hc]
      constructor
      case number | noRepeat => intro l hl; cases hl; decide
      case digit => intro d hd; cases hd; decide
      case digitRoom => intro l hl _; cases hl; decide
      case yields => decide
    all_goals decide
  · constructor <;> decide
  · constructor
    case positions | index => decide
    case handHas => intro h; exact absurd rfl h
    case stepHas => intro n h; cases h
    case returnHas => intro a b c d e h; cases h
    case feedHas => intro n c _; exact ⟨rfl, fun _ => ⟨_, rfl, by decide⟩⟩
  · constructor
    case positions | leader => decide
    case leaderRow => intro r _ _; decide
    case cellRow => intro r c hr hc; cases hr; cases hc
  · constructor
    case positions | leader => decide
    case leaderRow => intro r hr hc; cases hr; cases hc
    case cellRow => intro r c _ _; exact ⟨rfl, _, rfl, by decide⟩

theorem witness_StrapsHoldUntilReset : (∀ p, Instr.tapeRestored ≠ .powerOnReset p) ∧
    (∀ p, Instr.tapeRestored ≠ .resetPin p) ∧ ∃ t, exec .tapeRestored station = .next t :=
  ⟨fun _ h => (nomatch h), fun _ h => (nomatch h), _, rfl⟩

theorem witness_LockedIdentityNeverChanges :
    State.IdentityLocked { shaped with answer := { shaped.answer with
      memory := { shaped.answer.memory with lock := true } } } :=
  ⟨rfl, rfl, rfl⟩

theorem witness_FaultsAreLeftOnlyByReset : isResetCommand .spinUpEnd = false ∧
    State.PrinterFaulted { station with printer := { station.printer with state := .fault } } ∧
    (punchIn .fault).PunchFaulted :=
  ⟨rfl, ⟨rfl, rfl⟩, rfl, rfl⟩

theorem witness_LatchedEventsStand : Event.jam ∈ (station.latch .jam).diag.latched ∧ Instr.jam ≠ .lossOfPower ∧
    Instr.jam ≠ .generatedRecordTaken ∧ (∃ t, exec .jam (station.latch .jam) = .next t) ∧
    [GenRequest.confirm 3 none].head? ≠ some .status ∧
    Event.jam ∈ (after .generatedRecordTaken { station.latch .jam with store := { station.store with
      requests := [.confirm 3 none] } }).diag.latched :=
  ⟨by decide, by decide, by decide, ⟨_, rfl⟩, by decide, by decide⟩

theorem witness_ResetPinValues : station.powered = true ∧ (after (.resetPin pins) station).pacer.h = 40000 ∧
    (after (.resetPin { pins with supplyLow := true }) station).diag.sweep.map Sweep.stage = some (.waiting 0) ∧
    { record 5 with state := .opened, print := { pos := 5, done := false } }.restart.state = .closed .restarted ∧
    { record 5 with punch := some { pos := 2, done := false, skipped := false } }.restart.punch =
      some { pos := 0, done := false, skipped := false } ∧
    (comp .message .all .openAddressing).restart.pendingDigit = none := by decide

theorem witness_LossOfPowerKeepsIdentityMemory : station.powered = true ∧
    (after .lossOfPower station).powered = false := by decide

/-! ### Witnesses: the line and blocks -/

theorem witness_BecomingQuietStartsSpan : station.sender.state ≠ .deferring ∧
    (deferring .reply [.ident 3]).becomeQuiet.sender.span = some 1 ∧
    (composing (deferring .none []) [comp .message .all .ready]).maySendComp = true ∧
    (composing (deferring .none []) [{ comp .message .all .ready with yields := 3 }]).becomeQuiet.sender.span =
      some 3 ∧
    (deferring .none []).becomeQuiet.sender.state = .idle := by decide

theorem witness_LineReturnsToQuiet :
    (after .settlingEnd (sampling .settling false false)).line.condition = .quiet ∧
    (after .endOfStopElement { sampling .hunting false false with
      line := { (sampling .hunting false false).line with stopEnd := some 9 } }).line.condition = .quiet ∧
    (after .firstMarkSample (sampling .waitingMark false false)).line.condition = .quiet ∧
    (sampling .waitingMark false false).line.spaced = false ∧
    (after .restoration (onLine .lineOpen)).line.condition = .quiet := by decide

/-- Restoration is the 160th consecutive mark sample, 159 intervals of 110 ticks at 150 baud after the first (R33). Out of
BREAK and LINE OPEN a HUNTING sampler takes no first mark sample. -/
theorem witness_MarkMeasure :
    (after .firstMarkSample { onLine .inBreak with now := 500 }).line.markSince = 500 ∧
    (after .restoration (after .firstMarkSample { onLine .inBreak with now := 500 })).line.quietSince = 500 + 17490 ∧
    (after .restoration (after .breakBegun station)).line.quietSince = 35200 + 17490 ∧
    (after .restoration (after .markToSpaceEdge (onLine .inBreak))).line.quietSince = 17600 ∧
    (after .firstMarkSample { sampling .settling false false with now := 9 }).line.markSince = 9 ∧
    after .firstMarkSample station = station := by decide

theorem witness_CharacterBegins :
    station.line.spaced = false ∧ (after .markToSpaceEdge station).line.condition = .busy ∧
    (onLine .inBreak).line.spaced = true ∧
    (after .markToSpaceEdge (onLine .inBreak)).line.sampler = .hunting ∧
    (after (.start 3) (sampling .framing false false)).line.condition = .quiet ∧
    (after (.start 4) (sampling .framing false false)).line.startConfirmed = true := by decide

theorem witness_CharacterIsDelivered :
    isNullFrame 0 = true ∧ (after (.characterReceived 0) (sampling .framing true false)).line.nullHeld = true ∧
    isNullFrame (samplesOf 0) = false ∧
    (after (.characterReceived (samplesOf 0x41)) (sampling .framing true false)).diag.errorTotal = 0 ∧
    isNullFrame 7 = false ∧ framingError 7 = true ∧
    (after (.characterReceived 7) (sampling .framing true false)).diag.errorTotal = 1 ∧
    (after (.characterReceived 7) { sampling .framing true false with
      diag := { station.diag with errorTotal := 255 } }).diag.errorTotal = 255 ∧
    (after .firstMarkSample (sampling .waitingMark false true)).diag.errorTotal = 1 := by decide

theorem witness_SentFrameIsReceived : (∀ e, 1 ≤ e → e ≤ 9 → elementOf (samplesOf 0x7F) e = sentMark 0x7F e) ∧
    ∀ e, 1 ≤ e → e ≤ 9 → elementOf (samplesOf 0) e = sentMark 0 e := by
  have h : ∀ e < 10, 1 ≤ e → elementOf (samplesOf 0x7F) e = sentMark 0x7F e ∧
      elementOf (samplesOf 0) e = sentMark 0 e := by decide
  exact ⟨fun e h1 h9 => (h e (by omega) h1).1, fun e h1 h9 => (h e (by omega) h1).2⟩

theorem witness_BreakBegins : station.line.spaced = false ∧
    Event.breakHeard ∈ (after .breakBegun station).diag.latched ∧
    (after .breakBegun (hearing .text)).recv.breakPending = true := by decide

theorem witness_BreaksAndStallsEndBlocks : (onLine .inBreak).line.condition = .inBreak ∧
    (after .lineOpen (onLine .inBreak)).line.condition = .lineOpen ∧
    (after .restoration (onLine .inBreak)).line.condition = .quiet ∧
    (hearing .text).recv.stall = some 1000 ∧ (after .stall (hearing .text)).recv.parser = .idle ∧
    (after .stall (hearing .kind)).recv.stall = none := by decide

theorem witness_HeaderIsParsed : station.recv.parser = .idle ∧ stationOf 0x5F = some 31 ∧ stationOf 0x60 = none ∧
    ((hearing .sender).takeCharacter 0x5F false).recv.senderCode = some 31 ∧
    ({ hearing .dests with recv := { (hearing .dests).recv with dests := .codes [1, 2, 3, 4] } }.takeCharacter
      0x40 false).recv.parser = .skip ∧
    ({ hearing .dests with recv := { (hearing .dests).recv with dests := .all } }.takeCharacter
      0x40 false).recv.parser = .skip ∧
    ((hearing .kind).takeCharacter 0x41 false).recv.parser = .skip ∧
    ((hearing .kind).takeCharacter 0x03 true).recv.parser = .skip ∧
    ((hearing .kind).takeCharacter 0 false).recv.parser = .kind ∧
    ((hearing .skip).takeCharacter 4 false).recv.parser = .idle := by decide

theorem witness_DispositionIsDecided : kindOf 3 = some .body ∧
    (hearing .kind).dispositionOf .body = .recorded .received ∧
    { hearing .kind with
      recv := { (hearing .kind).recv with senderCode := some 7 }
      sender := { station.sender with state := .sending } }.dispositionOf .body = .recorded .sent ∧
    Event.duplicateCode ∈ ({ hearing .kind with recv := { (hearing .kind).recv with
      senderCode := some 7 } }.takeCharacter 3 false).diag.latched ∧
    { hearing .kind with recv := { (hearing .kind).recv with dests := .all } }.dispositionOf .receipt = .passedOver ∧
    { hearing .kind with recv := { (hearing .kind).recv with dests := .codes [3, 7] } }.dispositionOf .query =
      .passedOver ∧
    ((hearing .kind).takeCharacter 3 false).recv.recordStatus = .opened ∧
    ((storing (hearing .kind) (List.replicate 24 (record 1)) 24).takeCharacter 3 false).recv.recordStatus =
      .noRecord ∧
    { hearing .kind with recv := { (hearing .kind).recv with dests := .codes [3] } }.dispositionOf .body =
      .passedOver := by decide

theorem witness_ContentIsTaken : (hearing .text).recv.recordStatus ≠ .opened ∧ kindOf 0x41 = none ∧
    (recording .received (record 4095)).store.used = 4095 ∧
    ((recording .received (record 4095)).takeCharacter 0x41 false).store.used = 4096 ∧
    ((recording .ident (record 0)).takeCharacter 0x41 false).recv.held = some 0x41 ∧
    ((recording .received (record 0)).takeCharacter 0x41 true).recv.contentError = true ∧
    ((recording .ident (record 0)).takeCharacter 0x41 true).recv.held = some 0x7F ∧
    ((recording .ident (record 0)).takeCharacter 0x41 true).store.recs.map Rec.errors = [1] ∧
    ((recording .ident (record 0)).takeCharacter 0x41 true).store.used = 0 ∧
    ({ recording .ident (record 0) with recv := { (recording .ident (record 0)).recv with
      held := some 0x41 } }.takeCharacter chFrom false).store.used = 1 := by decide

theorem witness_BlockIsClosed : (hearing .text).recv.parser = .text ∧ (hearing .text).recv.held = none ∧
    ({ recording .ident (record 0) with recv := { (recording .ident (record 0)).recv with
      held := some 0x41 } }.closeBlock .complete).store.used = 2 := by decide

/-- The close duties of a block whose disposition and content are given. -/
def closing (d : Disposition) (count : Nat) (first : Option Code) (l : List Reply) : State :=
  { hearing .text with
    sender := { station.sender with replies := l, state := .breaking, watch := .waiting 12 0 0 }
    recv := { (hearing .text).recv with disposition := d, contentCount := count, firstContent := first } }

theorem witness_CloseHandsOn : (hearing .text).recv.senderCode = some 12 ∧
    Event.replyLost ∈ (closing (.recorded .received) 1 none [.ident 1, .ident 2]).closeDuties.diag.latched ∧
    (closing (.recorded .received) 1 none [.ident 1]).closeDuties.sender.replies = [.ident 1, .receipt 12 .x] ∧
    (recording .received (record 1)).store.recs = [] ++ [{ record 1 with state := .opened }] ∧
    (recording .received (record 1)).closeDuties.sender.replies = [.receipt 12 .k] ∧
    (closing .identityQuery 0 none []).closeDuties.sender.replies = [.ident 12] ∧
    (closing .identityQuery 1 none []).closeDuties.sender.replies = [] ∧
    letterOf 0x45 = some .e ∧ (closing .candidateReceipt 1 (some 0x45) []).closeDuties.sender.watch = .none ∧
    letterOf 0x46 = none ∧ (closing .passedOver 2 none []).closeDuties.sender.replies = [] := by decide

theorem witness_RepliesAndReceipts :
    (station.addReply (.ident 3)).sender.span = some 1 ∧
    ((onLine .busy).addReply (.ident 3)).sender.state = .deferring ∧
    (State.reset.addReply (.ident 3)).sender.state = .idle ∧
    ((deferring (.comp 0) []).addReply (.ident 3)).sender.source = .reply ∧
    ((deferring .reply [.ident 1]).addReply (.ident 3)).sender.replies = [.ident 1, .ident 3] ∧
    ((closing .passedOver 0 none []).receiptHeard 12 .k).bells = 0 ∧
    ((closing .passedOver 0 none []).receiptHeard 12 .e).bells = 1 ∧
    ((closing .passedOver 0 none []).receiptHeard 13 .e).sender.watch = .waiting 12 0 0 ∧
    (station.receiptHeard 12 .e) = station := by decide

/-! ### Witnesses: the store -/

theorem witness_CellReadsBackWhatWasWritten : Memory.wf [(4095, 1)] = true ∧
    Memory.read (Memory.write [(4095, 1)] 4095 0) 4095 = 0 := by decide

theorem witness_AppendStoresOrTruncates : (∀ r ∈ station.store.recs, r.isOpen = false) ∧
    (recording .received (record 4095)).store.recs = [] ++ [{ record 4095 with state := .opened }] ∧
    0 < (recording .received (record 4095)).store.free ∧
    ((recording .received (record 4095)).append 0x41).store.w = 0 ∧
    (recording .received (record 4096)).store.free = 0 ∧
    (recording .received (record 4096)).headReleasable = false ∧
    Event.storeFull ∈ ((recording .received (record 4096)).append 0x41).diag.latched ∧
    ({ recording .received (record 0) with store := { (recording .received (record 0)).store with
      recs := [{ record 0 with state := .opened, truncated := true, dropped := 65535 }] } }.append
        0x41).store.recs.map Rec.dropped = [65535] := by decide

/-- A head with its print claim done and its punch claim not. -/
def released : Rec :=
  { record 9 with print := { pos := 9, done := true }, punch := some { pos := 0, done := false, skipped := false } }

/-- The full store of the worked sequence of spec/01_the_message_store.md in small: its head may be released for the
character in hand. -/
def fullStore : State :=
  storing (hearing .text) [released, { record 4087 with start := 9, state := .opened }] 0

theorem witness_SpaceStepsMeetTheNeed : fullStore.store.free = 0 ∧ fullStore.headReleasable = true ∧
    0 < fullStore.releaseHead.store.free ∧ ((fullStore.append 0x41).store.recs.map Rec.length) = [4088] ∧
    Event.punchSkipped ∈ (fullStore.append 0x41).diag.latched ∧
    ((storing station (List.replicate 24 released) 216).openRecord .received none).2 = true ∧
    (fullStore.writeGenerated .confirm [0x41]).2 = true := by decide

theorem witness_RecordsComeAndGo : released.isOpen = false ∧ released.print.done = true ∧
    released.punch = some { pos := 0, done := false, skipped := false } ∧
    (storing station [released] 9).headReleasable = true ∧
    (storing station [released] 9).releaseHead.store.recs = [] ∧
    (storing station (List.replicate 23 (record 1)) 23).store.recs.length < 24 ∧
    (storing station (List.replicate 24 (record 1)) 24).headReleasable = false ∧
    ((storing station (List.replicate 24 (record 1)) 24).openRecord .received none).2 = false ∧
    ((recording .localTyping (record 1)).splitLocal).store.recs.map Rec.state = [.closed .split] := by decide

/-! ### Witnesses: sending -/

theorem witness_BlockIsBuilt : (∀ l, headerOf (.codes l) 7 =
      [0x01#7] ++ l.map (fun d => BitVec.ofNat 7 (0x40 + d.toNat)) ++ [0x02#7, BitVec.ofNat 7 (0x40 + (7#5).toNat)]) ∧
    headerOf .all 7 = [0x01#7, 0x2A#7, 0x02#7, BitVec.ofNat 7 (0x40 + (7#5).toNat)] ∧
    (deferring .reply [.receipt 31 .e]).buildBlock = some (textOf "\x01_\x02G", textOf "\x01_\x02G\x0EE\x04") ∧
    (composing (deferring (.comp 0) []) [comp .message (.codes [0, 31]) .ready]).buildBlock =
      some (textOf "\x01@_\x02G", textOf "\x01@_\x02G\x03A\x04") ∧
    (composing (deferring (.comp 0) []) [comp .query (.codes [3]) .ready]).buildBlock.isSome = true ∧
    (composing (deferring (.comp 0) []) [comp .here .all .ready]).buildBlock.isSome = true := by
  refine ⟨fun l => ?_, ?_⟩
  · simp [headerOf, destChars, stationChar]
  · decide

/-- A deferral whose span is reached. -/
def spanned (r : Reply) (cycle : Cycle) : State :=
  { deferring .reply [r] with
    sender := { (deferring .reply [r]).sender with span := some 1 }
    answer := { station.answer with cycle := cycle } }

/-- The span of 1 Tc ends 17600 ticks after QUIET at 150 baud, and CALL begins a sample interval, 110 ticks, later
(R35, R66). -/
theorem witness_DeferralCompletes : (spanned (.ident 3) (.lock 0)).sourceIsIdent = true ∧
    (after (.deferralComplete true) (spanned (.ident 3) (.lock 0))).sender.spanReached = true ∧
    (after (.deferralComplete false) (spanned (.receipt 3 .k) .idle)).sender.span = none ∧
    (after (.deferralComplete true) (spanned (.receipt 3 .k) .idle)).line.tx = .shifting 0x01 17710 ∧
    (after (.deferralComplete true) (spanned (.receipt 3 .k) .idle)).now = 17710 ∧
    (station.orderStart false).now = 110 ∧ ({ station with now := 109 }.orderStart false).now = 110 ∧
    ({ station with now := 110 }.orderStart false).now = 220 := by decide

theorem witness_CharacterIsSent :
    (after .characterSent (sending .reply [.ident 3] 0x01 [0x01, 0x43] 1 4)).line.tx = .shifting 0x43 17600 ∧
    (after .characterSent (sending .reply [.ident 3] 0x04 [0x04] 1 1)).sender.replies = [] ∧
    (after .characterSent (composing (sending (.comp 0) [] 0x04 [0x04] 1 1)
      [comp .message (.codes [3]) .sending])).sender.watch = .waiting 3 (31 * 17600) 0 ∧
    (after .characterSent (composing (sending (.comp 0) [] 0x04 [0x04] 1 1)
      [comp .message (.codes [3, 4]) .sending])).interp.comps = [] := by decide

theorem witness_MismatchYieldsOrBreaks : sentMark 0x01 1 = true ∧ sentMark 0x01 9 = true ∧
    ((after (.mismatch 1) (composing (sending (.comp 0) [] 0x01 [0x01] 4 4)
      [{ comp .message (.codes [3]) .sending with yields := 3 }])).interp.comps.map Comp.yields) = [3] ∧
    ((after (.mismatch 9) (composing (sending (.comp 0) [] 0x01 [0x01] 5 4)
      [comp .message (.codes [3]) .sending])).interp.comps.map Comp.state) = [.held] := by decide

theorem witness_HoldAndWatchEnd :
    (after .holdEnded { station with line := { station.line with tx := .holding 9 } }).line.tx = .idle ∧
    (after .receiptWatchDeadline { station with sender := { station.sender with
      watch := .waiting 31 9 0 } }).store.requests = [.confirm 31 none] := by decide

theorem witness_GeneratedRecordIsTaken : station.store.blockOpen = false ∧
    (after .generatedRecordTaken { station with store := { station.store with
      requests := [.confirm 3 none] } }).store.recs.map Rec.length = [15] ∧
    (after .generatedRecordTaken { station with store := { station.store with
      requests := [.status] } }).store.recs.map Rec.kind = [.status] ∧
    ((storing station (List.replicate 23 (record 1)) 4095).writeGenerated .confirm [0x41, 0x42]).1.store.w = 1 ∧
    ((storing station (List.replicate 23 (record 1)) 4095).writeGenerated .confirm [0x41, 0x42]).1.store.cell 0 =
      0x42 ∧
    ((storing station (List.replicate 24 (record 1)) 24).writeGenerated .confirm []).2 = false ∧
    (after .generatedRecordTaken { storing station [record 4096] 0 with store := { (storing station [record 4096]
      0).store with requests := [.confirm 3 none] } }).bells = 1 ∧
    ((storing station [record 4096] 0).writeGenerated .status [0x41]).2 = false := by decide

/-- The 18 events are all there are (R200). -/
theorem test_allEvents : allEvents.length = 18 ∧ ∀ e, e ∈ allEvents := ⟨rfl, fun e => by cases e <;> decide⟩

theorem witness_ReportClearsWhatItCaptured : station.diag.codes.length = 17 ∧ station.diag.latched = [] ∧
    ((station.latch .jam).markSnapshot.writeGenerated .status (station.latch .jam).statusText).2 = true ∧
    (station.latch .jam).takeStatus.diag.latched = [] ∧
    ((storing (station.latch .jam) [record 4096] 0).markSnapshot.writeGenerated .status
      (storing (station.latch .jam) [record 4096] 0).statusText).2 = false ∧
    (storing (station.latch .jam) [record 4096] 0).takeStatus.diag.latched = [.jam] := by decide

theorem witness_LocalRequestIsTaken :
    (after .heldEventRetry { local_ with interp := { local_.interp with
      held := some (press 18 false, [0x41]) } }).interp.localOpen = true ∧
    (local_.localRequest (press 18 false) [0x41]).store.used = 1 ∧
    ({ recording .localTyping (record 1) with interp := { local_.interp with localOpen := true } }.localRequest
      (press 18 false) [0x41]).store.used = 2 ∧
    ((recording .received (record 1)).localRequest (press 18 false) [0x41]).interp.held =
      some (press 18 false, [0x41]) ∧
    ((storing local_ (List.replicate 24 (record 1)) 24).localRequest (press 18 false) [0x41]).bells = 1 := by decide

/-- A record printed whose punch claim is not begun. -/
def printedUnpunched : Rec :=
  { record 1 with print := { pos := 1, done := true }, punch := some { pos := 0, done := false, skipped := false } }

/-- With no descriptor free a head whose punch claim may be released gives its own (R15, R139). -/
theorem witness_LocalRequestReleases :
    (storing local_ (printedUnpunched :: List.replicate 23 (record 1)) 24).headReleasable = true ∧
    ((storing local_ (printedUnpunched :: List.replicate 23 (record 1)) 24).localRequest (press 18 false)
      [0x41]).interp.localOpen = true := by decide

/-! ### Witnesses: keys -/

theorem witness_KeyThresholds : isKeyPosition 1 = true ∧ isKeyPosition 48 = true ∧ isKeyPosition 63 = true ∧
    pressThreshold 1 4095 = 319 ∧ pressThreshold 48 4095 = 639 ∧ releaseThreshold 48 4095 = 480 ∧
    pressThreshold 60 0 = 24 ∧ releaseThreshold 60 0 = 18 := by decide

theorem witness_KeyStatesAndBaselinesMove : isKeyPosition 63 = true ∧ halfFree station.keys.recs (isLeft 63) = true ∧
    keyAt (bringForward (keyed 63 { KeyRec.reset with f := 4095, excursion := 8 }).keys.recs) 63 =
      { KeyRec.reset with f := 4095, l16 := 65520 } ∧
    (keyAt (bringForward (keyed 1 { KeyRec.reset with f := 4095 }).keys.recs) 1).l16 = 1023 ∧
    (keyAt (bringForward (keyed 1 { KeyRec.reset with l16 := 65520 }).keys.recs) 1).l16 = 57330 ∧
    (keyAt (bringForward (keyed 0 { KeyRec.reset with f := 4095 }).keys.recs) 0).l16 = 1023 ∧
    keyAt (bringForward (keyed 1 { KeyRec.reset with f := 1, state := .leaving }).keys.recs) 1 =
      { KeyRec.reset with f := 1, state := .leaving } ∧
    KeyRec.reset.down = false ∧
    ({ KeyRec.reset with f := 24, l16 := 384, excursion := 8 }.sense 0 60 0 0).excursion = 8 ∧
    ({ KeyRec.reset with f := 24, l16 := 384, excursion := 7 }.sense 0 60 0 0).excursion = 8 ∧
    ({ KeyRec.reset with f := 24, l16 := 384, excursion := 7 }.sense 0 60 1 0).excursion = 0 ∧
    ({ KeyRec.reset with state := .pressed, stuckSince := some 0 }.sense 6336000 60 9 0).l16 = 144 := by decide

/-- The counts of a touch on E, position 18. -/
def touchE : List Nat := (List.replicate 64 0).set 18 4095

theorem witness_ScansAreTaken : station.keys.seeding = 16 ∧ station.interp.queue.length ≤ 16 ∧ touchE.length = 64 ∧
    (after (.keyScan touchE) station).now = 2640 ∧
    (keyAt (after (.keyScan touchE) station).keys.recs 18).state = .entering ∧
    (after (.keyScan touchE) (keyed 18 { KeyRec.reset with state := .entering, debounce := 2 })).interp.queue =
      [press 18 false] ∧
    (keyAt (after (.seedingScan touchE) State.reset).keys.recs 18).f = 4095 ∧
    (after (.seeded touchE) { State.reset with keys := { KeySense.reset with seeding := 15 } }).keys.seeding = 16 := by
  decide

/-- A key that enters ENTERING wakes a QUIET station (R118), one held 24 s latches STUCK KEY (R112), an ATTEND press
leaves the mode (R93), and a list that is no scan changes nothing (log 3). -/
theorem witness_ScanReports :
    (after (.keyScan touchE) { station with answer := { station.answer with power := .quiet } }).answer.power =
      .active ∧
    Event.stuckKey ∈ (after (.keyScan touchE) { keyed 63 { KeyRec.reset with state := .pressed, stuckSince := some 0 }
      with now := 6336000 }).diag.latched ∧
    (after (.keyScan ((List.replicate 64 0).set 54 4095)) { keyed 54 { KeyRec.reset with
      state := .entering, debounce := 2 } with answer := { station.answer with attend := .unattended } }).answer.attend =
      .unattended ∧
    (after (.keyScan touchE) { keyed 18 { KeyRec.reset with state := .entering, debounce := 2 } with
      answer := { station.answer with attend := .unattended, rest := some 0 } }).answer.rest = some 2640 ∧
    after (.keyScan []) station = station := by decide

theorem witness_PressEventIsMade : (keyed 63 { KeyRec.reset with state := .entering, debounce := 2 }).keys.recs.length = 64 ∧
    (after (.pressEvent 63) (keyed 63 { KeyRec.reset with state := .entering, debounce := 2 })).interp.queue =
      [press 63 false] ∧
    Event.keyOverrun ∈ (after (.pressEvent 1) { keyed 1 { KeyRec.reset with state := .entering, debounce := 2 } with
      interp := { station.interp with queue := List.replicate 16 (press 1 false) } }).diag.latched := by decide

/-- Character key 18 and REPEAT held down together. -/
def repeating : State :=
  { station with keys := { station.keys with
      recs := (station.keys.recs.set 18 { KeyRec.reset with state := .pressed }).set 62
        { KeyRec.reset with state := .pressed }
      repeatMeasure := some (18, 0) } }

theorem witness_RepeatEventIsMade : repeatKey repeating.keys.recs = some 18 ∧
    (after .repeatEvent repeating).interp.queue = [{ press 18 false with repeated := true }] := by decide

theorem witness_KeyIsReseeded :
    (after (.stuckKey 63) (keyed 63 { KeyRec.reset with f := 7, state := .pressed, stuckSince := some 0 })).now =
      6336000 ∧
    (keyAt (after (.excursionReseed 1) (keyed 1 { KeyRec.reset with f := 9, excursion := 8 })).keys.recs 1).l16 =
      144 := by decide

/-! ### Witnesses: identity, attend mode and power -/

/-- The station at rest with its measures running (R96, R197). -/
def atRest : State :=
  { station with answer := { station.answer with rest := some 0 }, diag := { station.diag with idleSince := some 0 } }

theorem witness_MeasuresRun : atRest.MeasuresRun := by constructor <;> decide

/-- A measure under way in ACTIVE alone (R97): a state with both running is none that a run reaches. -/
theorem witness_MeasuresRunInTurn :
    ¬{ atRest with answer := { atRest.answer with attend := .unattended, dormancy := some 0 } }.MeasuresRun ∧
    (after .restMeasureExpiry { atRest with answer := { atRest.answer with attend := .unattended } }).answer.dormancy =
      some 7920000 :=
  ⟨fun h => absurd h.dormancy (by decide), by decide⟩

theorem witness_PrinterAtWork : atRest.PrinterAtWork := by constructor <;> decide

/-- Work in QUIET makes the station ACTIVE (R98), a composition opened stops the rest measure (R96), and the change to
UNATTENDED in QUIET starts the dormancy measure (R97). -/
theorem witness_MeasuresStartAndStop :
    (after .callKey (pressed atRest 49 false)).answer.rest = none ∧
    (after .attendTimerExpiry { atRest with answer := { atRest.answer with
      power := .quiet, rest := none } }).answer.dormancy = some 158400000 ∧
    (after .heldEventRetry { local_ with
      answer := { local_.answer with power := .quiet }
      interp := { local_.interp with held := some (press 18 false, [0x41]) } }).answer.power = .active := by decide

theorem witness_AttendAndPowerTimersExpire : station.powered = true ∧
    (after .attendTimerExpiry station).answer.attend = .unattended ∧ station.restCondition = true ∧
    (after .restMeasureExpiry { station with answer := { station.answer with rest := some 0 } }).answer.power =
      .quiet ∧
    (after .dormancyMeasureExpiry { station with answer := { station.answer with
      power := .quiet, attend := .unattended, dormancy := some 0 } }).answer.power = .dormant := by decide

/-- The identity memory in a cycle. -/
def cycling (c : Cycle) : State := { station with answer := { station.answer with cycle := c } }

theorem witness_IdentityIsWrittenAndLocked :
    (after (.writeCycleStep true) (cycling (.write [0x41] 1 0))).answer.memory.text.take 1 = [0x41] ∧
    (after (.writeCycleStep true) (cycling (.write [0x41] 2 0))).answer.memory.valid = true ∧
    (after (.lockCycleEnd true) (cycling (.lock 0))).answer.memory.lock = true ∧
    (after .ctrlHere (pressed station 52 true)).answer.draft = some [] ∧
    (after .ctrlLocal (pressed { drafting [] with answer := { (drafting []).answer with
      writeLatch := true } } 53 true)).answer.cycle = .lock 0 ∧
    (after .ctrlLocal (pressed station 53 true)).bells = 1 := by decide

theorem witness_IdentityContentIsChosen :
    { station with answer := { station.answer with memory := { station.answer.memory with
      text := List.replicate 20 0x41, length := 20, valid := true } } }.identityText = List.replicate 20 0x41 ∧
    station.answer.memory.valid = false ∧ (storing station [record 3840] 3840).statusChar = 0x46 ∧
    (storing station [record 3839] 3839).statusChar = 0x41 := by decide

/-! ### Witnesses: the keyboard -/

/-- The station with one composition. -/
def withComp (d : Dests) (st : CompState) : State := composing station [comp .message d st]

theorem witness_CharacterKeyIsTaken : isCharacterKey 47 = true ∧ (press 18 false).char = some 0x45 ∧
    (after .characterKey (pressed (drafting []) 18 true)).bells = 1 ∧
    (after .characterKey (pressed (drafting (List.replicate 19 0x41)) 18 false)).answer.draft =
      some (List.replicate 19 0x41 ++ [0x45]) ∧
    (after .characterKey (pressed (drafting (List.replicate 20 0x41)) 18 false)).bells = 1 ∧
    (press 18 true).char = none ∧ (after .characterKey (pressed station 18 true)).bells = 1 ∧
    ((after .characterKey (pressed (withComp (.codes []) .openAddressing) 3 false)).interp.comps.map
      Comp.pendingDigit) = [some 3] ∧
    ((after .characterKey (pressed (withComp (.codes [3]) .openText) 18 false)).interp.usedCells) = 2 ∧
    (after .characterKey (pressed local_ 18 false)).interp.localOpen = true := by decide

/-- SHIFT+5 gives % and CTRL+G gives BELL, with or without SHIFT (R122); N is at position 40, SPACE at 47 (R121). -/
theorem test_keyCharacters : Press.char { position := 5, shift := true, ctrl := false, repeated := false } =
      some (codeOf '%') ∧
    Press.char { position := 30, shift := true, ctrl := true, repeated := false } = some 0x07 ∧
    (press 40 false).char = some (codeOf 'N') ∧ (press 47 false).char = some 0x20 ∧
    keysOnLines0To5.toList[38]? = some 'N' ∧ keysOnLines0To5.toList[45]? = some ' ' ∧
    (keysThatShift.toList.zip whatTheyShiftTo.toList).lookup '?' = some '^' := by decide

theorem witness_addresses : digitOf 0x39 = some 9 ∧ digitOf 0x3A = none ∧
    { comp .message (.codes [3]) .openAddressing with pendingDigit := some 3 }.address 0x31 =
      (comp .message (.codes [3, 31]) .openAddressing, false) ∧
    { comp .message (.codes [3]) .openAddressing with pendingDigit := some 3 }.address 0x32 =
      (comp .message (.codes [3]) .openAddressing, true) ∧
    (comp .message (.codes [1, 2, 3, 4]) .openAddressing).address 0x30 =
      (comp .message (.codes [1, 2, 3, 4]) .openAddressing, true) ∧
    (comp .message .all .openAddressing).address 0x30 = (comp .message .all .openAddressing, true) := by decide

theorem witness_ReturnAndRuboutAreTaken :
    (after .returnKey (pressed (drafting [0x41]) 58 false)).answer.cycle = .write [0x41] 1 0 ∧
    ((after .returnKey (pressed (withComp (.codes [3]) .openAddressing) 58 false)).interp.comps.map Comp.state) =
      [.openText] ∧
    (after .returnKey (pressed (withComp (.codes [3]) .openText) 58 false)).interp.usedCells = 3 ∧
    (after .returnKey (pressed station 58 false)).bells = 1 ∧
    (after .ruboutKey (pressed (drafting [0x41]) 59 false)).answer.draft = some [] ∧
    (after .ruboutKey (pressed station 59 false)).bells = 1 ∧
    (after .ruboutKey (pressed (withComp (.codes [3]) .openText) 59 false)).interp.usedCells = 0 ∧
    (comp .message (.codes []) .openAddressing).rubout.2 = true := by decide

theorem witness_ModeAndCompositionKeysAreTaken :
    (after .modifierKey (pressed station 56 false)).bells = 0 ∧
    (after .modifierKey (pressed (drafting []) 62 false)).bells = 1 ∧
    (after .callKey (pressed (drafting []) 49 false)).bells = 1 ∧
    (after .callKey (pressed (composing station (List.replicate 3 (comp .here .all .held))) 49 false)).interp.comps.length
      = 4 ∧
    (after .hereKey (pressed (composing station (List.replicate 4 (comp .here .all .held))) 52 false)).bells = 1 ∧
    (after .hereKey (pressed station 52 false)).sender.state = .deferring ∧
    (after .attendKey (pressed station 54 false)).answer.attend = .unattended ∧
    (after .localKey (pressed (drafting []) 53 false)).bells = 1 ∧
    (after .localKey (pressed station 53 false)).interp.mode = .localMode ∧
    (after .localKey (pressed local_ 53 false)).interp.mode = .line := by decide

theorem witness_SendAndQueryAreTaken :
    (after .sendKey (pressed (drafting []) 50 false)).bells = 1 ∧
    (after .sendKey (pressed (withComp (.codes [3]) .openText) 50 false)).sender.source = .comp 0 ∧
    ((after .sendKey (pressed (composing station [comp .here .all .awaiting, comp .here .all .held]) 50
      false)).interp.comps.map Comp.state) = [.awaiting, .ready] ∧
    (after .sendKey (pressed station 50 false)).bells = 1 ∧
    (after .queryKey (pressed (drafting []) 51 false)).bells = 1 ∧
    ((after .queryKey (pressed (withComp (.codes [31]) .openAddressing) 51 false)).interp.comps.map Comp.kind) =
      [.query] ∧
    (after .queryKey (pressed (withComp (.codes [3, 4]) .openAddressing) 51 false)).bells = 1 := by decide

theorem witness_CancelAndBreakAreTaken :
    (after .cancelKey (pressed (drafting []) 63 false)).answer.draft = none ∧
    (after .cancelKey (pressed station 63 false)).bells = 1 ∧
    (withComp .all .held).interp.comps = [] ++ [comp .message .all .held] ∧
    (after .cancelKey (pressed (withComp .all .held) 63 false)).interp.comps = [] ∧
    (after .cancelKey (pressed (composing { deferring (.comp 0) [] with sender := { (deferring (.comp 0) []).sender with
      state := .breaking } } [comp .message (.codes [3]) .ready]) 63 false)).sender.source = .none ∧
    (after .cancelKey (pressed (composing (deferring (.comp 0) []) [comp .message (.codes [3]) .ready]) 63
      false)).sender.state = .idle ∧
    (after .breakKey (pressed (deferring .reply [.ident 3]) 48 false)).sender.source = .reply ∧
    (after .breakKey (pressed (sending .reply [.ident 3] 1 [1, 2, 3] 1 4) 48 false)).sender.source = .none ∧
    (after .cancelKey (pressed (composing (sending (.comp 0) [] 1 [1, 2, 3] 1 4)
      [comp .message .all .sending]) 63 false)).sender.block = [0x01, 0x18, 0x04] ∧
    (after .breakKey (pressed { station with sender := { station.sender with state := .breaking } } 48
      false)).bells = 1 ∧
    (after .breakKey (pressed station 48 false)).line.tx = .holding 52800 := by decide

theorem witness_RequestKeysAreTaken :
    (after .statusKey (pressed (drafting []) 55 false)).bells = 1 ∧
    (after .statusKey (pressed station 55 false)).diag.request = .sweeping ∧
    (after .feedKey (pressed { station with printer := { station.printer with pendingFeeds := 2 } } 60
      false)).printer.pendingFeeds = 3 ∧
    (after .feedKey (pressed { station with printer := { station.printer with pendingFeeds := 3 } } 60
      false)).bells = 1 ∧
    (after .feedKey (pressed { station with printer := { station.printer with state := .off } } 60 false)).bells = 0 ∧
    (after .ctrlFeed (pressed station 60 true)).punch.manual = 20 ∧
    (after .ctrlFeed (pressed (punchIn .running) 60 true)).bells = 1 ∧
    (after .feedKey (pressed (drafting []) 60 false)).bells = 1 := by decide

theorem witness_PunchKeyIsTaken :
    (after .punchKey (pressed (punchIn .tapeOut) 61 false)).bells = 1 ∧
    (after .punchKey (pressed station 61 false)).punch.state = .suspended ∧
    (after .punchKey (pressed (punchIn .suspended) 61 false)).punch.state = .idle ∧
    (after .punchKey (pressed (punching .leader .firing) 61 false)).punch.suspendPending = true ∧
    (after .punchKey (pressed (punching .leader .waiting) 61 false)).punch.state = .suspended ∧
    (after .punchKey (pressed { punching .leader .waiting with punch := { (punchIn .suspended).punch with
      leader := 9 } } 61 false)).punch.row.map Row.content = some .leader ∧
    (after .punchKey (pressed { punching .leader .waiting with punch := { (punchIn .suspended).punch with
      leader := 10 } } 61 false)).punch.row.map Row.content = some (.cell 0) ∧
    (after .punchKey (pressed { punching .manual .firing with punch := { (punching .manual .firing).punch with
      state := .suspended } } 61 false)).punch.state = .running ∧
    (after .punchKey (pressed { punching .manual .waiting with
      punch := { (punching .manual .waiting).punch with state := .idle, manual := 5 }
      arb := { Arbiter.reset with waitPunch := true, holder := some .test } } 61 false)).arb.waitPunch = false ∧
    (after .punchKey (pressed (drafting []) 61 false)).bells = 1 := by decide

/-! ### Witnesses: pacing and the supply -/

/-- The pacer a step before a boundary. -/
def paced (s : State) (h steps : Nat) (p : Pacing) : State :=
  { s with pacer := { h := h, state := p, lastFired := false, steps := steps } }

theorem witness_PacingIsDecided : decidePacing .warm 46000 = .hot ∧ decidePacing .hot 19999 = .cool ∧
    decidePacing .hot 20000 = .hot ∧ decidePacing .cool 39999 = .cool ∧ decidePacing .cool 40000 = .warm ∧
    decidePacing .warm 31999 = .cool ∧ decidePacing .warm 45999 = .warm ∧
    Event.warm ∈ (paced station 41000 2 .cool).coolAndDecide.diag.latched := by decide

theorem witness_StepsAndSlotsAreTaken : glyphRows[0x7F - 0x20]? = some "5555555" ∧ glyphTotals[0x7F - 0x20]? = some 35 ∧
    strikingNeedles 0x4C [6] = [0, 1, 2, 3, 4, 5] ∧ firedDots 0x4C [6] = 6 ∧
    (after .coolingStep (paced station 128 0 .cool)).pacer.h = 127 ∧
    (after .coolingStep (paced station 127 0 .cool)).pacer.h = 127 ∧
    (after .slotBoundary (paced station 0 2 .cool)).pacer.steps = 3 ∧
    (after .slotBoundary (paced (printing (record 1) 71) 0 2 .cool)).pacer.h = 64 * 18 ∧
    (after .slotBoundary (paced (printing (record 1) 71) 47000 2 .cool)).pacer.state = .hot := by decide

theorem witness_SupplyIsGrantedInTurn :
    { station with arb := { Arbiter.reset with supplyLow := true, waitPrint := true } }.grantIfFree.arb.holder = none ∧
    { station with arb := { Arbiter.reset with waitTest := true, waitPrint := true } }.grantIfFree.arb.holder =
      some .test ∧
    { station with arb := { Arbiter.reset with waitPunch := true, waitPrint := true } }.grantIfFree.arb.holder =
      some .print ∧
    { station with arb := { Arbiter.reset with waitPunch := true, waitPrint := true, last := .print } }.grantIfFree.arb.holder =
      some .punch ∧
    station.grantIfFree.arb.holder = none := by decide

/-- A party holding the supply. -/
def held (s : State) (p : Party) : State := { s with arb := { Arbiter.reset with holder := some p, until' := 2112 } }

/-- A character in hand. -/
def handed (s : State) (st : HandStage) : State :=
  { s with printer := { s.printer with
      hand := some { char := 0x41, dots := 18, needles := [0, 1, 2, 3, 4, 5, 6], stage := st } } }

theorem witness_GrantsAndTestsEnd :
    (after (.grantEnd .passed) (held (handed (printing (record 1) 71) .firing) .print)).printer.motion = .step 2112 ∧
    ((after (.grantEnd .passed) (held (punching .leader .firing) .punch)).punch.row.map Row.stage) =
      some .advancing ∧
    ((after (.grantEnd .opened) (testing .idle 0)).diag.codes.take 1) = [.opened] ∧
    (after (.grantEnd .passed) (testing .selfCheck 16)).diag.sweep = none ∧
    (after (.grantEnd .passed) (testing .status 16)).store.requests = [.status] ∧
    Event.selfCheck ∈ (after .testRequestTimeout { testing .selfCheck 16 with
      arb := { Arbiter.reset with holder := some .punch }
      diag := { (testing .selfCheck 16).diag with testing := none, sweep := some {
        kind := .selfCheck, index := 16, findings := List.replicate 17 none
        stage := TestStage.waiting 0 } } }).diag.latched ∧
    (after (.grantEnd .passed) { held (punching .leader .firing) .punch with arb := { Arbiter.reset with
      holder := some .punch, waitPrint := true } }).arb.holder = some .print ∧
    (after (.grantEnd .passed) { held (handed (printing (record 1) 71) .firing) .print with arb := { Arbiter.reset with
      holder := some .print, waitPunch := true } }).arb.last = .punch ∧
    (after (.grantEnd .opened) (testing .idle 14)).punch.state = .fault ∧
    (after (.grantEnd .shorted) (testing .idle 16)).printer.state = .fault ∧
    (after (.grantEnd .shorted) { testing .idle 16 with printer := { station.printer with
      state := .fault } }).printer.column = none ∧
    (after (.grantEnd .shorted) { testing .idle 6 with printer := { station.printer with
      excluded := [1, 2] } }).printer.state = .fault ∧
    (after .idleSweep { station with diag := { station.diag with idleSince := some 0 } }).diag.sweep.isSome = true ∧
    (after .idleSweep { testing .status 3 with diag := { (testing .status 3).diag with
      idleSince := some 0 } }).now = 15840000 := by decide

theorem witness_OvercurrentAndSupplyLow : station.drives .motion = false ∧
    (held (handed (printing (record 1) 5) .firing) .print).drives (.needle 6) = true ∧
    (after (.overcurrentFinding (.needle 6)) (held (handed (printing (record 1) 5) .firing) .print)).printer.excluded =
      [6] ∧
    (punching (.cell 0x41) .firing).drives (.track 0) = false ∧
    (held (punching (.cell 0x41) .firing) .punch).drives (.track 0) = true ∧
    (held (punching (.cell 0x41) .firing) .punch).drives (.track 1) = false ∧
    (held (punching .leader .firing) .punch).drives (.track 7) = true ∧
    (punching .leader .advancing).drives .tapeAdvance = true ∧ (moving (.step 0) .none).drives .motion = true ∧
    mergeCode .passed .opened = .opened ∧
    ({ station with printer := { station.printer with excluded := [1, 2] } }.excludeNeedle 1).printer.state = .ready ∧
    ({ station with printer := { station.printer with excluded := [1, 2] } }.excludeNeedle 0).printer.state = .fault ∧
    ({ handed (printing (record 1) 5) .firing with printer := { (handed (printing (record 1) 5) .firing).printer with
      excluded := [1, 2] } }.excludeNeedle 0).printer.stop = .fault ∧
    ({ handed (printing (record 1) 5) .waiting with printer := { (handed (printing (record 1) 5) .waiting).printer with
      excluded := [1, 2] } }.excludeNeedle 0).printer.hand = none ∧
    (after (.overcurrentFinding .tapeAdvance) (punching .leader .advancing)).punch.state = .fault ∧
    (after (.overcurrentFinding .motion) (moving (.step 0) .none)).printer.state = .fault ∧
    (after .supplyLowOnset station).arb.supplyLow = true ∧ after .supplyLowEnd station = station ∧
    (after .supplyLowOnset { station with arb := { Arbiter.reset with supplyLow := true } }).diag.latched = [] ∧
    (after .supplyLowEnd { station with arb := { Arbiter.reset with
      supplyLow := true, waitPunch := true } }).arb.holder = some .punch := by decide

/-! ### Witnesses: printing and punching -/

/-- The printer at a place of a record, no motion under way. -/
def printingAt (p : Phase) (i : Nat) (r : Rec) (c : Nat) : State :=
  { printing r c with printer := { (printing r c).printer with phase := p, index := i } }

theorem witness_PrinterWalks : (printingAt .align 0 (record 1) 5).phaseWork (record 1) =
      some { printingAt .align 0 (record 1) 5 with printer := { (printingAt .align 0 (record 1) 5).printer with
        pair := .both } } ∧
    (printingAt .heading 4 (record 1) 5).phaseWork (record 1) = some (printingAt .text 0 (record 1) 5) ∧
    (printingAt .heading 3 (record 1) 72).offer = none ∧
    (printingAt .heading 3 (record 1) 71).offer = some 0x20 ∧
    (printingAt .text 0 (record 0) 5).phaseWork { record 0 with state := .opened } = none ∧
    (printingAt .endLines 0 { record 0 with state := .closed .split } 0).offer = some 0x53 ∧
    { record 0 with state := .closed .broken, truncated := true, dropped := 10 }.endLines =
      textOf "BROKENTRUNCATED 10" ∧
    (printing (record 1) 5).motionBlocked = false ∧ (testing .idle 0).motionBlocked = true := by decide

/-- A step to make for a record at a place of it. -/
def stepping (p : Phase) (i : Nat) (r : Rec) (stop : Stop) : State :=
  let s := handed (printingAt p i r 5) .stepping
  { s with printer := { s.printer with motion := .step 0, stop := stop } }

theorem witness_MotionsRun :
    ((after .stepEnd (stepping .text 0 (record 1) .none)).store.recs.map fun r => r.print.pos) = [1] ∧
    (after .stepEnd (stepping .heading 2 (record 2) .none)).printer.index = 3 ∧
    (after .stepEnd (stepping .heading 3 (record 2) .none)).printer.phase = .text ∧
    (after .stepEnd (stepping .endLines 5 { record 0 with state := .closed .broken } .none)).printer.motion =
      .carriage 0 14 false 2640 .pair ∧
    (after .stepEnd (stepping .text 0 (record 2) .paperOut)).printer.state = .paperOut ∧
    (after .stepEnd (stepping .text 0 (record 2) .fault)).printer.state = .fault ∧
    (after .stepEnd (stepping .none 0 (record 2) .fault)).printer.column = some 6 ∧
    (after (.carriageReturnStep false) (moving (.carriage 12 13 false 0 .owed) .none)).printer.motion =
      .carriage 13 13 false 0 .owed ∧
    (after .jam (moving (.carriage 13 13 false 0 .owed) .none)).printer.state = .fault ∧
    (after .carriageReturnEnd (moving (.carriage 3 13 true 0 .owed) .none)).printer.column = some 0 ∧
    (after .carriageReturnEnd { moving (.carriage 3 13 true 0 .pair) .none with store := (printing (record 1)
      5).store }).printer.motion = .feed 10560 .pair ∧
    (after .carriageReturnEnd (moving (.carriage 3 13 true 0 .owed) .paperOut)).printer.state = .paperOut ∧
    (after .carriageReturnEnd (moving (.carriage 3 13 true 0 .owed) .fault)).printer.state = .fault ∧
    (after .lineFeedEnd (moving (.feed 0 .feedKey) .none)).now = 18480 ∧
    (after .lineFeedEnd (moving (.feed 0 .cell) .paperOut)).printer.state = .paperOut ∧
    (after .lineFeedEnd (moving (.feed 0 .cell) .fault)).printer.state = .fault ∧
    (station.beginReturn .owed).isSome = true := by decide

/-- The printer in a state. -/
def printerIn (p : PrinterState) : State :=
  { station with printer := { station.printer with state := p, paperMeasure := some 0 } }

/-- A READY printer with work becomes PRINTING, and goes back to READY when its work is finished (R143, R197). -/
theorem witness_WorkComesAndGoes :
    (after .feedKey (pressed atRest 60 false)).printer.state = .printing ∧
    (after .feedKey (pressed atRest 60 false)).diag.idleSince = none ∧
    (after .lineFeedEnd (after .feedKey (pressed atRest 60 false))).printer.state = .ready ∧
    (after .lineFeedEnd (after .feedKey (pressed atRest 60 false))).diag.idleSince = some 18480 := by decide

theorem witness_SpinUpAndPaperAreTaken : (after .spinUpEnd (printerIn .starting)).printer.state = .ready ∧
    (after (.paperAbsent true) station).printer.state = .paperOut ∧
    (after (.paperAbsent false) station).printer.state = .ready ∧
    (printing (record 1) 72).printer.busy = false ∧
    (after (.paperAbsent true) (printing (record 1) 72)).printer.returnOwed = true ∧
    (after (.paperAbsent true) { handed (printing (record 1) 7) .waiting with arb := { Arbiter.reset with
      waitPrint := true, supplyLow := true } }).arb.waitPrint = false ∧
    (after (.paperAbsent true) (moving (.step 0) .none)).printer.stop = .paperOut ∧
    (after (.paperAbsent true) (moving (.step 0) .fault)).printer.stop = .fault ∧
    (after (.paperAbsent true) (printerIn .paperOut)).printer.paperMeasure = none ∧
    (after (.paperAbsent false) { printerIn .paperOut with now := 9, printer := { (printerIn .paperOut).printer with
      paperMeasure := none } }).printer.paperMeasure = some 9 ∧
    (after (.paperAbsent true) (printerIn .fault)).printer.state = .fault ∧
    (after .paperRestored (printerIn .paperOut)).printer.state = .ready := by decide

theorem witness_PunchRowsRun :
    (after .takingAClaim { punching .leader .waiting with
      punch := { station.punch with leader := 9 } }).punch.state = .running ∧
    ((after .advancingEnd (punching .leader .advancing)).punch.row.map Row.since) = some 5280 ∧
    (after .rowSettlingEnd (punching .leader .settling)).punch.leader = 10 ∧
    ((after .rowSettlingEnd (punching (.cell 0x41) .settling)).store.recs.map Rec.punchPos) = [1] ∧
    (after .rowSettlingEnd { punching .manual .settling with punch := { (punching .manual .settling).punch with
      state := .idle, manual := 1 } }).punch.manual = 0 ∧
    (after .rowSettlingEnd { punching .leader .settling with punch := { (punching .leader .settling).punch with
      tapeOutPending := true } }).punch.state = .tapeOut ∧
    (after .rowSettlingEnd { punching .leader .settling with punch := { (punching .leader .settling).punch with
      suspendPending := true } }).punch.state = .suspended := by decide

/-- The last row of a CLOSED record of three cells, a suspend waiting for it: the claim is finished (R181, R182). -/
theorem witness_ClaimIsFinished :
    let s := { punching (.cell 0x41) .settling with
      store := { Store.reset with
        recs := [{ record 3 with punch := some { pos := 2, done := false, skipped := false } }] }
      punch := { (punching (.cell 0x41) .settling).punch with leader := 10, suspendPending := true } }
    (after .rowSettlingEnd s).punch.state = .suspended ∧
    ((after .rowSettlingEnd s).store.recs.map Rec.punch) =
      [some { pos := 3, done := true, skipped := false }] ∧
    (after .rowSettlingEnd s).punch.leader = 0 ∧
    ((after .rowSettlingEnd { s with punch := { s.punch with suspendPending := false, tapeOutPending := true
        } }).store.recs.map Rec.punch) = [some { pos := 3, done := true, skipped := false }] := by decide

theorem witness_TapeIsSensed : (after (.tapeOut true) (punching .leader .firing)).punch.tapeOutPending = true ∧
    (after (.tapeOut false) (punching .leader .firing)).punch.tapeOutPending = false ∧
    (after (.tapeOut true) station).punch.state = .tapeOut ∧
    (after (.tapeOut true) { punching .leader .waiting with arb := { Arbiter.reset with
      waitPunch := true } }).arb.waitPunch = false ∧
    (after (.tapeOut true) (punchIn .tapeOut)).punch.tapeOutActive = true ∧
    (after (.tapeOut false) { punchIn .tapeOut with now := 9 }).punch.tapeMeasure = some 9 ∧
    (after (.tapeOut true) (punchIn .fault)).punch.state = .fault ∧
    (after .tapeRestored { punchIn .tapeOut with punch := { (punchIn .tapeOut).punch with
      tapeMeasure := some 0 } }).punch.state = .suspended ∧
    (after (.tapeLow true) station).attention = true := by decide

theorem witness_AttentionFollowsConditions : station.powered = true ∧ station.attention = false ∧
    (station.latch .jam).attention = true := by decide

/-! ### Witnesses: the shared operations that the statements spell out -/

/-- Station 07 with a composition OPEN and, behind it, one READY whose yield count leaves no draw (R67). -/
def readyBehindOpen : State :=
  composing station [comp .message (.codes [3]) .openText,
    { comp .message (.codes [4]) .ready with serial := 1, yields := 3 }]

/-- The oldest READY composition is chosen, with its span on a QUIET line only; a reply goes before it, and nothing is
chosen while a watch waits (R64, R66). -/
theorem witness_SourceIsChosen :
    readyBehindOpen.maySendComp = true ∧ readyBehindOpen.interp.oldestReady.map Comp.serial = some 1 ∧
    readyBehindOpen.interp.yieldsOf 1 = 3 ∧ readyBehindOpen.chooseNext.sender.source = .comp 1 ∧
    readyBehindOpen.chooseNext.sender.span = some 3 ∧
    { readyBehindOpen with line := (onLine .busy).line }.chooseNext.sender.span = none ∧
    { readyBehindOpen with sender := { station.sender with replies := [.ident 3] } }.chooseNext.sender.source =
      .reply ∧
    { readyBehindOpen with sender := { station.sender with watch := .waiting 3 9 0 } }.chooseNext.sender.source =
      .none ∧
    (composing station [comp .query (.codes [3]) .sending]).maySendComp = false ∧
    { deferring .reply [.ident 3] with diag := Diag.reset }.becomeQuiet.sender.state = .idle ∧
    { readyBehindOpen with diag := { station.diag with starting := true } }.checkStarting.sender.state =
      .deferring := by decide

/-- A READY composition is taken up by an IDLE Sender, not by another, and wakes a QUIET station (R62, R98, R143). -/
theorem witness_CompositionIsTakenUp :
    readyBehindOpen.compReady.sender.source = .comp 1 ∧
    { readyBehindOpen with line := (onLine .busy).line }.compReady.sender.state = .deferring ∧
    { readyBehindOpen with sender := { station.sender with state := .breaking } }.compReady.sender.source = .none ∧
    { readyBehindOpen with
      answer := { station.answer with power := .quiet }
      printer := { station.printer with state := .off } }.compReady.printer.state = .starting := by decide

/-- The five speeds: 50, 75, 110, 150 and 300 baud (R23). -/
theorem test_speeds : [0#3, 1#3, 2#3, 3#3, 4#3].map sampleTicks = [264000 / 16 / 50, 264000 / 16 / 75, 264000 / 16 / 110,
    264000 / 16 / 150, 264000 / 16 / 300] := by decide

/-- The taps and the shift (R68): bits 0 and 2 both 1 give a top bit of 0, bit 5 alone gives 1. -/
theorem test_generatorStep : generatorStep 0x0005 = 0x0002 ∧ generatorStep 0x0020 = 0x8010 ∧
    generatorStep 0x8001 = 0xC000 := by decide

/-- How a frame's elements are decided (R26, R27, R28). -/
theorem test_elements : elementOf 0x3 1 = true ∧ elementOf 0x1 1 = false ∧ codeFrom 0x38 = 0x02 ∧
    isNullFrame 0 = true ∧ parityError 0x7 = true := by decide

/-- A close sets the state of the OPEN record, and a head already printed is then reclaimed (R9, R13). -/
theorem witness_RecordIsClosed :
    ((storing station [record 2, { record 1 with start := 2, state := .opened }] 3).closeRecord
      .broken).store.recs.map Rec.state = [.closed .complete, .closed .broken] ∧
    ((storing station [{ record 1 with state := .opened, print := { pos := 1, done := true } }] 1).closeRecord
      .broken).store.recs = [] ∧
    station.splitLocal = station := by decide

/-- A store whose first print claim and first two punch claims are over. -/
def claimed : State :=
  storing station [{ released with punch := some { pos := 9, done := false, skipped := true }, state := .opened },
    { record 2 with start := 9, punch := some { pos := 2, done := true, skipped := false } },
    { record 1 with start := 11, punch := some { pos := 1, done := false, skipped := false } }] 12

/-- The current claims are those of the first record not done, and of the first neither done nor skipped (R12). -/
theorem witness_ClaimsInOrder :
    (claimed.store.printCurrent.map Rec.start) = some 9 ∧ (claimed.store.punchCurrent.map Rec.start) = some 11 ∧
    (claimed.finishPrint.store.recs.map fun r => r.print.pos) = [9, 2, 0] ∧
    ((claimed.store.onPunch Rec.stepPunch).recs.map Rec.punchPos) = [9, 2, 2] ∧
    claimed.store.printWork = true ∧ claimed.store.punchWork = true ∧ station.store.printCurrent = none ∧
    (storing station [{ released with punch := none }] 9).store.printWork = false := by decide

/-- The figures of a dropped count (R147), 65535 among them. -/
theorem test_plainDecimal : plainDecimal 0 = textOf "0" ∧ plainDecimal 10 = textOf "10" ∧
    plainDecimal 999 = textOf "999" ∧ plainDecimal 1000 = textOf "1000" ∧ plainDecimal 65535 = textOf "65535" := by
  decide

/-- What a press makes of the OPEN composition takes its place; a refused one rings the bell (R128, R131). -/
theorem witness_CompositionIsEdited :
    (readyBehindOpen.interp.openComp.map Comp.serial) = some 0 ∧ readyBehindOpen.interp.usedCells = 2 ∧
    ((readyBehindOpen.editOpen (comp .message (.codes [3]) .openText) Comp.rubout).interp.comps.map Comp.cells) =
      [0, 1] ∧
    ((withComp .all .openAddressing).editOpen (comp .message .all .openAddressing)
      (fun x => x.address 0x33)).bells = 1 := by decide

/-- The Sender after OVER, by what it sent (R73, R76, R79). -/
theorem witness_SenderAfterOver :
    (after .characterSent (sending .reply [.ident 3, .ident 4] 0x04 [0x04] 1 1)).sender.state = .deferring ∧
    (after .characterSent (composing (sending (.comp 0) [.ident 4] 0x04 [0x04] 1 1)
      [comp .message (.codes [3]) .sending])).sender.source = .reply ∧
    (after .characterSent (composing (sending (.comp 0) [] 0x04 [0x04] 1 1) [comp .query (.codes [3]) .sending,
      { comp .message (.codes [4]) .ready with serial := 1 }])).sender.source = .comp 1 ∧
    (after .characterSent (sending (.comp 0) [] 0x04 [0x04] 1 1)).sender.state = .idle ∧
    (after (.mismatch 1) (sending .reply [.ident 3] 0x01 [0x01] 4 4)).sender.span = none ∧
    (after (.mismatch 9) (sending .reply [.ident 3, .ident 4] 0x01 [0x01] 5 4)).sender.state = .deferring ∧
    (sending .reply [] 0x01 [0x01] 1 4).drivingLine = true := by decide

/-- A refused report adds no record; a written one is in the store (R11, R204). -/
theorem witness_ReportReachesTheStore :
    (station.takeStatus.store.recs.map Rec.kind) = [.status] ∧
    (storing station [record 4096] 0).takeStatus.store.recs = [record 4096] := by decide

/-- A test that an idle sweep abandoned left running (R197). -/
def leftRunning (k : SweepKind) (n : Nat) : State :=
  { testing k 0 with diag := { (testing k 0).diag with
      sweep := some { kind := k, index := 0, findings := List.replicate 17 none, stage := .due }
      testing := some { index := n, counts := false } } }

theorem witness_TestLeftRunningEnds :
    (after .statusKey (pressed (testing .idle 4) 55 false)).diag.testing = some { index := 4, counts := false } ∧
    ((after .statusKey (pressed (testing .selfCheck 4) 55 false)).diag.sweep.map Sweep.index) = some 4 ∧
    ((after (.grantEnd .opened) (leftRunning .status 4)).diag.sweep.map Sweep.index) = some 0 ∧
    4 ∈ (after (.grantEnd .opened) (leftRunning .status 4)).printer.excluded ∧
    (after (.grantEnd .shorted) (leftRunning .status 15)).punch.state = .fault ∧
    (after (.grantEnd .shorted) (leftRunning .status 16)).printer.state = .fault ∧
    (after (.grantEnd .passed) { leftRunning .status 0 with diag := { station.diag with
      testing := some { index := 0, counts := false } } }).diag.codes.head? = some .passed := by decide

/-- The 17th request of a sweep, waiting for a grant. -/
def lastWaiting (k : SweepKind) (q : StatusRequest) : State :=
  { testing k 16 with
    arb := { Arbiter.reset with holder := some .punch, waitTest := true }
    diag := { (testing k 16).diag with
      testing := none, request := q
      sweep := some { kind := k, index := 16, findings := List.replicate 17 none, stage := .waiting 0 } } }

theorem witness_SweepsEndUntested :
    (after .testRequestTimeout (lastWaiting .status .sweeping)).store.requests = [.status] ∧
    (after .testRequestTimeout (lastWaiting .status .sweeping)).diag.request = .pending ∧
    (after .testRequestTimeout (lastWaiting .idle .none)).diag.sweep = none ∧
    ((after .testRequestTimeout (lastWaiting .selfCheck .sweeping)).diag.sweep.map Sweep.kind) = some .status ∧
    (after .testRequestTimeout (lastWaiting .selfCheck .none)).diag.sweep = none ∧
    ((after (.grantEnd .passed) { testing .selfCheck 16 with diag := { (testing .selfCheck 16).diag with
      request := .sweeping } }).diag.sweep.map Sweep.kind) = some .status := by decide

/-- A step and an advance wait for a TEST grant (R195); so do they while the test of MOT or of TA waits. -/
theorem witness_MotionsWaitForTests :
    (after (.grantEnd .passed) { held (handed (printing (record 1) 71) .firing) .print with arb := { Arbiter.reset with
      holder := some .print, waitTest := true } }).printer.motion = .none ∧
    ((after (.grantEnd .passed) { held (punching .leader .firing) .punch with arb := { Arbiter.reset with
      holder := some .punch, waitTest := true } }).punch.row.map Row.stage) = some .advanceDue ∧
    (lastWaiting .idle .none).motionBlocked = true ∧ (lastWaiting .idle .none).advanceBlocked = false ∧
    (testing .idle 0).advanceBlocked = true ∧ (lastWaiting .selfCheck .none).driversHeld = true := by decide

/-- The punch's next work, by its state (R178, R181, R188, R190, R198). -/
theorem witness_PunchGoesOn :
    (punching .leader .advanceDue).punchOnce.isSome = true ∧ (punching .leader .settling).punchOnce = none ∧
    (punchIn .fault).punchOnce = none ∧
    { station with punch := { station.punch with manual := 1 } }.punchOnce.isSome = true ∧
    ((punchIn .running).punchOnce.map fun (t : State) => t.punch.state) = some .idle ∧
    ({ punching .leader .waiting with punch := { (punchIn .running).punch with leader := 9 } }.punchOnce.bind
      fun (t : State) => t.punch.row.map Row.content) = some .leader ∧
    ({ punching .leader .waiting with punch := { (punchIn .running).punch with leader := 10 } }.punchOnce.bind
      fun (t : State) => t.punch.row.map Row.content) = some (.cell 0) ∧
    ({ storing station [{ record 3 with punch := some { pos := 3, done := false, skipped := false } }] 3 with
      punch := { (punchIn .running).punch with leader := 10 } }.punchOnce.map fun (t : State) => t.punch.leader) = some 0 ∧
    (punching .manual .settling).punch.manualUnderWay = true := by decide

/-- What a stop of the printer does with the character in hand (R156, R159), and the grants (R162). -/
theorem witness_StopsAndGrants :
    (handed station .waiting).enterPrinterFault.printer.hand = none ∧
    ((handed station .firing).enterPrinterFault.printer.hand.map Hand.stage) = some .firing ∧
    (handed station .stepDue).enterPrinterFault.printer.hand = none ∧
    (printing (record 1) 5).enterPaperOut.printer.returnOwed = true ∧
    ({ handed station .waiting with arb := { Arbiter.reset with waitPrint := true } }.grantIfFree.printer.hand.map
      Hand.stage) = some .firing ∧
    ({ punching .leader .waiting with arb := { Arbiter.reset with waitPunch := true } }.grantIfFree.punch.row.map
      Row.stage) = some .firing ∧
    { lastWaiting .idle .none with arb := { Arbiter.reset with waitTest := true } }.grantIfFree.diag.testing =
      some { index := 16, counts := true } ∧
    (after (.overcurrentFinding (.track 7)) (held (punching .leader .firing) .punch)).punch.faultPending = true ∧
    (after (.overcurrentFinding .tapeAdvance) (punching .leader .advancing)).punch.row = none := by decide

/-- Manual leader that PUNCH stopped in its last row's cycle still counts as under way (R188, log 48). -/
theorem witness_StoppedLeaderCompletes :
    (after .punchKey (pressed { punching .manual .settling with punch := { (punching .manual .settling).punch with
      state := .idle, manual := 5 } } 61 false)).punch.manualUnderWay = true ∧
    (after .ctrlFeed (pressed { punching .manual .settling with punch := { (punching .manual .settling).punch with
      state := .suspended, manual := 0 } } 60 true)).bells = 1 := by decide

/-- Manual leader that fires on after a finding counts as under way till its grant ends, and FAULT follows (R189,
log 51). -/
theorem witness_DiscardedLeaderFires :
    let s := (held { punching .manual .firing with punch := { (punching .manual .firing).punch with
      state := .idle, manual := 5 } } .punch).punchFault
    s.punch.manual = 0 ∧ s.punch.manualUnderWay = true ∧ s.punch.state = .idle ∧
    (after .ctrlFeed (pressed s 60 true)).bells = 1 ∧ (after (.grantEnd .passed) s).punch.state = .fault ∧
    (after (.grantEnd .passed) s).punch.row = none := by decide

/-- The station under a TEST grant that holds a character's step, or a row's advance, back (R195). -/
def heldBack (s : State) : State :=
  { s with arb := (testing .idle 0).arb, diag := (testing .idle 0).diag }

/-- A step that is held back completes before PAPER OUT (R156, log 49). -/
theorem witness_HeldStepCompletes :
    let s := after (.paperAbsent true) (heldBack (handed (printing (record 2) 5) .stepDue))
    s.printer.state = .printing ∧ s.printer.stop = .paperOut ∧
    (after (.grantEnd .passed) s).printer.motion = .step 528 ∧
    (after .stepEnd (after (.grantEnd .passed) s)).printer.state = .paperOut ∧
    ((after .stepEnd (after (.grantEnd .passed) s)).store.recs.map fun r => r.print.pos) = [1] := by decide

/-- A row whose advance is held back is in its cycle: TAPE OUT and a suspend wait for it, and a finding cuts it
(R182, R186, R189, log 50). -/
theorem witness_HeldAdvanceIsInCycle :
    (after (.tapeOut true) (heldBack (punching .leader .advanceDue))).punch.tapeOutPending = true ∧
    (after .punchKey (pressed (heldBack (punching .leader .advanceDue)) 61 false)).punch.suspendPending = true ∧
    (after (.grantEnd .opened) (leftRunning .idle 7)).punch.state = .fault ∧
    (punching .leader .advanceDue).punchFault.punch.row = none := by decide

end Sys2Proof.Tests
end

section
/-! The thresholds of a key (R107): what they are by the key's class (R101), and their bounds. -/
namespace Sys2Proof.Machine

/-- The classes of R101, with the positions of the key map (R121) written as numbers. -/
theorem classFactor_eq_ite (p : Nat) : classFactor p = if p = 48 ∨ p = 63 then 40
    else if p < 48 ∨ p = 56 ∨ p = 57 ∨ p = 58 ∨ p = 59 then 20 else 28 := by
  simp [classFactor, or_assoc]

theorem classFactor_le (p : Nat) : classFactor p ≤ 40 := by
  rw [classFactor_eq_ite]
  split
  · decide
  · split <;> decide

theorem le_pressThreshold (p level : Nat) : 24 ≤ pressThreshold p level := Nat.le_max_left ..

/-- A baseline is at most 4095 (R102), so the largest class bounds every press threshold. -/
theorem pressThreshold_le {level : Nat} (p : Nat) (hlevel : level ≤ 4095) : pressThreshold p level ≤ 639 := by
  have hproduct : level * classFactor p ≤ 4095 * 40 := Nat.mul_le_mul hlevel (classFactor_le p)
  exact Nat.max_le.mpr ⟨by decide, Nat.div_le_div_right hproduct⟩

/-- The floor of 24 makes the quarter taken off at least 6. -/
theorem releaseThreshold_lt_pressThreshold (p level : Nat) : releaseThreshold p level < pressThreshold p level := by
  have hfloor := le_pressThreshold p level
  unfold releaseThreshold
  omega

theorem releaseThreshold_le {level : Nat} (p : Nat) (hlevel : level ≤ 4095) : releaseThreshold p level ≤ 480 := by
  have hpress := pressThreshold_le p hlevel
  unfold releaseThreshold
  omega

/-- Settles O37, from the class factors of R101 and the bounds of the two thresholds. -/
theorem keyThresholds : Obligations.KeyThresholds := by
  intro p level _
  refine ⟨?formula, rfl, releaseThreshold_lt_pressThreshold p level, fun hlevel =>
    ⟨pressThreshold_le p hlevel, releaseThreshold_le p hlevel⟩⟩
  case formula => rw [pressThreshold, classFactor_eq_ite]

end Sys2Proof.Machine
end

section
/-! The pacing state at a slot boundary (R169): the rows of its table, and what steps 1 and 2 of a boundary change. -/
namespace Sys2Proof.Machine

/-! ### The table of R169 -/

theorem decidePacing_of_le {h : Nat} (before : Pacing) (hh : 46000 ≤ h) : decidePacing before h = .hot :=
  if_pos hh

theorem decidePacing_hot_of_le {h : Nat} (hh : h ≤ 45999) :
    decidePacing .hot h = if h < 20000 then .cool else .hot :=
  if_neg (by omega)

theorem decidePacing_cool_of_le {h : Nat} (hh : h ≤ 45999) :
    decidePacing .cool h = if 40000 ≤ h then .warm else .cool :=
  if_neg (by omega)

theorem decidePacing_warm_of_le {h : Nat} (hh : h ≤ 45999) :
    decidePacing .warm h = if h < 32000 then .cool else .warm :=
  if_neg (by omega)

/-- Row 1 is of every state before; below 46000 each state before has one threshold, and two rows. -/
theorem decidePacing_rows (before : Pacing) (h : Nat) :
    (46000 ≤ h → decidePacing before h = .hot) ∧
    (before = .hot → h < 20000 → decidePacing before h = .cool) ∧
    (before = .hot → 20000 ≤ h → h ≤ 45999 → decidePacing before h = .hot) ∧
    (before = .cool → 40000 ≤ h → h ≤ 45999 → decidePacing before h = .warm) ∧
    (before = .cool → h < 40000 → decidePacing before h = .cool) ∧
    (before = .warm → h < 32000 → decidePacing before h = .cool) ∧
    (before = .warm → 32000 ≤ h → h ≤ 45999 → decidePacing before h = .warm) := by
  refine ⟨decidePacing_of_le before, ?hotLeft, ?hotKept, ?coolLeft, ?coolKept, ?warmLeft, ?warmKept⟩
  case hotLeft => rintro rfl hlow; rw [decidePacing_hot_of_le (by omega), if_pos hlow]
  case hotKept => rintro rfl hlow hhigh; rw [decidePacing_hot_of_le hhigh, if_neg (by omega)]
  case coolLeft => rintro rfl hlow hhigh; rw [decidePacing_cool_of_le hhigh, if_pos hlow]
  case coolKept => rintro rfl hlow; rw [decidePacing_cool_of_le (by omega), if_neg (by omega)]
  case warmLeft => rintro rfl hlow; rw [decidePacing_warm_of_le (by omega), if_pos hlow]
  case warmKept => rintro rfl hlow hhigh; rw [decidePacing_warm_of_le hhigh, if_neg (by omega)]

/-! ### Steps 1 and 2 of a boundary -/

/-- The pacer after steps 1 and 2 of a boundary: cooled, with the state decided from the H after cooling (R168). -/
def Pacer.decided (p : Pacer) : Pacer := { p.cool with state := decidePacing p.state p.cool.h }

/-- The three things steps 1 and 2 can do: no entry into WARM or HOT, which latches nothing, an entry into WARM, and
one into HOT (R172). -/
theorem State.coolAndDecide_cases (s : State) :
    ((s.pacer.decided.state = .cool ∨ s.pacer.decided.state = s.pacer.state) ∧
      s.coolAndDecide = { s with pacer := s.pacer.decided }) ∨
    (s.pacer.decided.state = .warm ∧ s.pacer.state ≠ .warm ∧
      s.coolAndDecide = { s with pacer := s.pacer.decided }.latch .warm) ∨
    (s.pacer.decided.state = .hot ∧ s.pacer.state ≠ .hot ∧
      s.coolAndDecide = { s with pacer := s.pacer.decided }.latch .hot) := by
  have hdecided : s.pacer.decided.state = decidePacing s.pacer.state s.pacer.cool.h := rfl
  cases hnext : decidePacing s.pacer.state s.pacer.cool.h with
  | cool => exact .inl ⟨.inl (hdecided.trans hnext), by simp [coolAndDecide, Pacer.decided, hnext]⟩
  | warm =>
    by_cases hbefore : s.pacer.state = .warm
    · rw [hbefore] at hnext
      exact .inl ⟨.inr (by rw [hdecided, hbefore, hnext]),
        by simp [coolAndDecide, Pacer.decided, hnext, hbefore]⟩
    · exact .inr (.inl ⟨hdecided.trans hnext, hbefore,
        by simp [coolAndDecide, Pacer.decided, hnext, hbefore]⟩)
  | hot =>
    by_cases hbefore : s.pacer.state = .hot
    · rw [hbefore] at hnext
      exact .inl ⟨.inr (by rw [hdecided, hbefore, hnext]),
        by simp [coolAndDecide, Pacer.decided, hnext, hbefore]⟩
    · exact .inr (.inr ⟨hdecided.trans hnext, hbefore,
        by simp [coolAndDecide, Pacer.decided, hnext, hbefore]⟩)

@[simp] theorem State.coolAndDecide_pacer (s : State) : s.coolAndDecide.pacer = s.pacer.decided := by
  obtain ⟨-, hs⟩ | ⟨-, -, hs⟩ | ⟨-, -, hs⟩ := s.coolAndDecide_cases <;> rw [hs] <;> rfl

/-- Steps 1 and 2 of a boundary reach the pacer and the latches alone. -/
theorem State.coolAndDecide_frame (s : State) :
    s.coolAndDecide = { s with pacer := s.coolAndDecide.pacer, diag := s.coolAndDecide.diag } := by
  obtain ⟨-, hs⟩ | ⟨-, -, hs⟩ | ⟨-, -, hs⟩ := s.coolAndDecide_cases <;> rw [hs] <;> rfl

theorem State.coolAndDecide_diag_of_enters_warm {s : State} (hbefore : s.pacer.state ≠ .warm)
    (hnext : s.pacer.decided.state = .warm) : s.coolAndDecide.diag = (s.latch .warm).diag := by
  obtain ⟨hkept, -⟩ | ⟨-, -, hs⟩ | ⟨hhot, -, -⟩ := s.coolAndDecide_cases
  · simp [hnext, hbefore.symm] at hkept
  · rw [hs]; rfl
  · simp [hnext] at hhot

theorem State.coolAndDecide_diag_of_enters_hot {s : State} (hbefore : s.pacer.state ≠ .hot)
    (hnext : s.pacer.decided.state = .hot) : s.coolAndDecide.diag = (s.latch .hot).diag := by
  obtain ⟨hkept, -⟩ | ⟨hwarm, -, -⟩ | ⟨-, -, hs⟩ := s.coolAndDecide_cases
  · simp [hnext, hbefore.symm] at hkept
  · simp [hnext] at hwarm
  · rw [hs]; rfl

theorem State.coolAndDecide_diag_of_no_entry {s : State}
    (hnext : s.pacer.decided.state = .cool ∨ s.pacer.decided.state = s.pacer.state) :
    s.coolAndDecide.diag = s.diag := by
  obtain ⟨-, hs⟩ | ⟨hwarm, hbefore, -⟩ | ⟨hhot, hbefore, -⟩ := s.coolAndDecide_cases
  · rw [hs]
  · simp [hwarm, hbefore.symm] at hnext
  · simp [hhot, hbefore.symm] at hnext

/-- Settles O51, from the rows of R169 and the three cases of steps 1 and 2 of a boundary. -/
theorem pacingIsDecided : Obligations.PacingIsDecided := by
  refine ⟨decidePacing_rows, fun s => ⟨s.coolAndDecide_frame, s.coolAndDecide_pacer, ?_⟩⟩
  rw [s.coolAndDecide_pacer]
  exact ⟨State.coolAndDecide_diag_of_enters_warm, State.coolAndDecide_diag_of_enters_hot,
    State.coolAndDecide_diag_of_no_entry⟩

end Sys2Proof.Machine
end

section
/-! The ATTENTION output (R206): each of its conditions as a proposition, and the output as their disjunction. -/
namespace Sys2Proof.Machine

/-! ### The conditions of R206 -/

/-- The latched condition of R206: POWER and RESTART alone leave the lamp dark. -/
theorem latched_any_calling_iff (latched : List Event) :
    (latched.any fun e => e != .power && e != .restart) = true ↔
      ∃ e, e ∈ latched ∧ e ≠ .power ∧ e ≠ .restart := by
  simp only [List.any_eq_true, Bool.and_eq_true, bne_iff_ne]

theorem Printer.unavailable_iff (p : Printer) :
    p.unavailable = true ↔ p.state = .paperOut ∨ p.state = .fault := by
  rw [Printer.unavailable, Bool.or_eq_true, beq_iff_eq, beq_iff_eq]

theorem Store.full_iff (st : Store) : st.full = true ↔ st.free ≤ 256 ∨ st.freeRecs ≤ 2 := by
  rw [Store.full, Bool.or_eq_true, decide_eq_true_iff, decide_eq_true_iff]

/-! ### The output -/

theorem State.attention_iff (s : State) :
    s.attention = true ↔ s.powered = true ∧
      ((∃ e, e ∈ s.diag.latched ∧ e ≠ .power ∧ e ≠ .restart) ∨
        s.printer.state = .paperOut ∨ s.printer.state = .fault ∨
        s.punch.state = .tapeOut ∨ s.punch.state = .fault ∨ s.diag.tapeLow = true ∨
        s.store.free ≤ 256 ∨ s.store.freeRecs ≤ 2) := by
  simp only [State.attention, Bool.and_eq_true, Bool.or_eq_true, latched_any_calling_iff, Printer.unavailable_iff,
    beq_iff_eq, Store.full_iff, or_assoc]

/-- At reset POWER is the one event latched, and no other condition holds (R207). -/
theorem State.reset_attention : State.reset.attention = false := by decide

/-- Settles O60, from ATTENTION as the disjunction of its conditions and its value at reset. -/
theorem attentionFollowsConditions : Obligations.AttentionFollowsConditions := by
  refine ⟨State.reset_attention, fun s hpowered => ?_⟩
  exact s.attention_iff.trans (and_iff_right hpowered)

end Sys2Proof.Machine
end

section
/-! What one command keeps, said once: `Keeps s t` holds of every operation of the model, is reflexive and
transitive, and carries every invariant of the statements. An operation's lemma names only the invariants that the
operation touches; each other one follows by its congruence, from the fields it reads. -/
namespace Sys2Proof.Machine

/-! ### Each invariant is read from a few fields -/

theorem State.memoryCanonical.congr {s t : State} (hcells : t.store.cells = s.store.cells) :
    s.memoryCanonical → t.memoryCanonical := by
  rw [State.memoryCanonical, State.memoryCanonical, hcells]
  exact id

theorem State.StoreShape.congr {s t : State} (hrecs : t.store.recs = s.store.recs) (hw : t.store.w = s.store.w)
    (hparser : t.recv.parser = s.recv.parser) (hstatus : t.recv.recordStatus = s.recv.recordStatus)
    (hlocal : t.interp.localOpen = s.interp.localOpen) : s.StoreShape → t.StoreShape := by
  rintro ⟨h1, h2, h3, h4, h5, h6, h7, h8⟩
  constructor <;> simp only [Store.used, Store.blockOpen, Store.localOpen, hrecs, hw, hparser, hstatus, hlocal] <;>
    assumption

theorem State.CountersInRange.congr {s t : State} (hreplies : t.sender.replies = s.sender.replies)
    (hgenerator : t.sender.generator = s.sender.generator) (hqueue : t.interp.queue = s.interp.queue)
    (hheat : t.pacer.h = s.pacer.h) (herrors : t.diag.errorTotal = s.diag.errorTotal)
    (hfeeds : t.printer.pendingFeeds = s.printer.pendingFeeds) (hmanual : t.punch.manual = s.punch.manual)
    (hcolumn : t.printer.column = s.printer.column) (hhand : t.printer.hand = s.printer.hand)
    (hmotion : t.printer.motion = s.printer.motion) : s.CountersInRange → t.CountersInRange := by
  rintro ⟨h1, h2, h3, h4, h5, h6, h7, h8, h9⟩
  constructor <;> simp only [hreplies, hgenerator, hqueue, hheat, herrors, hfeeds, hmanual, hcolumn, hhand, hmotion] <;>
    assumption

theorem State.KeysInRange.congr {s t : State} (hrecs : t.keys.recs = s.keys.recs) :
    s.KeysInRange → t.KeysInRange := by
  rintro ⟨h1, h2⟩
  constructor <;> rw [hrecs] <;> assumption

theorem State.CompsInBounds.congr {s t : State} (hcomps : t.interp.comps = s.interp.comps) :
    s.CompsInBounds → t.CompsInBounds := by
  rintro ⟨h1, h2, h3, h4⟩
  constructor <;> simp only [Interp.usedCells, hcomps] <;> assumption

theorem State.RecordsInRange.congr {s t : State} (hrecs : t.store.recs = s.store.recs) :
    s.RecordsInRange → t.RecordsInRange := by
  rintro ⟨h1, h2⟩
  constructor <;> rw [hrecs] <;> assumption

theorem State.OnCharacter.congr {s t : State} (hrecs : t.store.recs = s.store.recs)
    (hphase : t.printer.phase = s.printer.phase) (hindex : t.printer.index = s.printer.index) :
    s.OnCharacter → t.OnCharacter := by
  rw [State.OnCharacter, State.OnCharacter, hphase, hindex, Store.printCurrent, Store.printCurrent, hrecs]
  exact id

theorem State.PrintInRange.congr {s t : State} (hrecs : t.store.recs = s.store.recs)
    (hphase : t.printer.phase = s.printer.phase) (hindex : t.printer.index = s.printer.index)
    (hhand : t.printer.hand = s.printer.hand) (hmotion : t.printer.motion = s.printer.motion) :
    s.PrintInRange → t.PrintInRange := by
  rintro ⟨h1, h2, h3, h4, h5, h6⟩
  refine ⟨by rwa [hrecs], by rwa [hindex], fun h => ?_, fun n h => ?_, ?_, ?_⟩
  · exact (h3 (hhand ▸ h)).congr hrecs hphase hindex
  · exact (h4 n (hmotion ▸ h)).congr hrecs hphase hindex
  · rwa [hmotion, hhand, Store.printCurrent, hrecs]
  · rwa [hmotion, hhand, Store.printCurrent, hrecs]

theorem State.PunchInRange.congr {s t : State} (hrecs : t.store.recs = s.store.recs)
    (hstate : t.punch.state = s.punch.state) (hrow : t.punch.row = s.punch.row)
    (hleader : t.punch.leader = s.punch.leader) : s.PunchInRange → t.PunchInRange := by
  rintro ⟨h1, h2, h3, h4⟩
  constructor <;> simp only [Store.punchCurrent, hrecs, hstate, hrow, hleader] <;> assumption

theorem State.IdentityLocked.congr {s t : State} (hmemory : t.answer.memory = s.answer.memory)
    (hdraft : t.answer.draft = s.answer.draft) (hcycle : t.answer.cycle = s.answer.cycle) :
    s.IdentityLocked → t.IdentityLocked ∧ t.answer.memory = s.answer.memory := by
  rintro ⟨h1, h2, h3⟩
  exact ⟨⟨hmemory ▸ h1, hdraft ▸ h2, hcycle ▸ h3⟩, hmemory⟩

theorem State.PrinterFaulted.congr {s t : State} (hstate : t.printer.state = s.printer.state)
    (hstop : t.printer.stop = s.printer.stop) : s.PrinterFaulted → t.PrinterFaulted :=
  fun h => ⟨hstate.trans h.1, hstop.trans h.2⟩

theorem State.PunchFaulted.congr {s t : State} (hstate : t.punch.state = s.punch.state)
    (hrow : t.punch.row = s.punch.row) : s.PunchFaulted → t.PunchFaulted :=
  fun h => ⟨hstate.trans h.1, hrow.trans h.2⟩

/-- Everything that an invariant reads. -/
def State.core (s : State) :=
  (s.store.cells, s.store.recs, s.store.w, s.recv.parser, s.recv.recordStatus, s.interp.localOpen, s.interp.queue,
    s.interp.comps, s.sender.replies, s.sender.generator, s.keys.recs, s.pacer.h, s.straps, s.answer.memory,
    s.answer.draft, s.answer.cycle, s.printer.state, s.printer.stop, s.printer.pendingFeeds, s.printer.column,
    s.printer.hand, s.printer.motion, s.printer.phase, s.printer.index, s.punch.state, s.punch.row, s.punch.leader,
    s.punch.manual, s.diag.latched, s.diag.errorTotal)

/-! ### The relation -/

/-- What every operation but a reset keeps. A field not given is one whose invariant reads nothing that changed. -/
structure Sound (s t : State) : Prop where
  memory : s.memoryCanonical → t.memoryCanonical := by exact State.memoryCanonical.congr rfl
  shape : s.StoreShape → t.StoreShape := by exact State.StoreShape.congr rfl rfl rfl rfl rfl
  counters : s.CountersInRange → t.CountersInRange := by
    exact State.CountersInRange.congr rfl rfl rfl rfl rfl rfl rfl rfl rfl rfl
  keys : s.KeysInRange → t.KeysInRange := by exact State.KeysInRange.congr rfl
  comps : s.CompsInBounds → t.CompsInBounds := by exact State.CompsInBounds.congr rfl
  records : s.RecordsInRange → t.RecordsInRange := by exact State.RecordsInRange.congr rfl
  print : s.PrintInRange → t.PrintInRange := by exact State.PrintInRange.congr rfl rfl rfl rfl rfl
  punch : s.PunchInRange → t.PunchInRange := by exact State.PunchInRange.congr rfl rfl rfl rfl
  straps : t.straps = s.straps := by rfl
  identity : s.IdentityLocked → t.IdentityLocked ∧ t.answer.memory = s.answer.memory := by
    exact State.IdentityLocked.congr rfl rfl rfl
  printerFault : s.PrinterFaulted → t.PrinterFaulted := by exact State.PrinterFaulted.congr rfl rfl
  punchFault : s.PunchFaulted → t.PunchFaulted := by exact State.PunchFaulted.congr rfl rfl

/-- What every operation but a reset and a report's clearing keeps: no latched event goes either (R200). -/
structure Keeps (s t : State) : Prop extends Sound s t where
  latched : ∀ e ∈ s.diag.latched, e ∈ t.diag.latched := by exact fun _ h => h

/-- Nothing changed that an invariant reads. -/
theorem Keeps.same {s t : State} (h : t.core = s.core) : Keeps s t := by
  simp only [State.core, Prod.mk.injEq] at h
  obtain ⟨hcells, hrecs, hw, hparser, hstatus, hlocal, hqueue, hcomps, hreplies, hgenerator, hkeys, hheat, hstraps, hmemory,
    hdraft, hcycle, hprinter, hstop, hfeeds, hcolumn, hhand, hmotion, hphase, hindex, hpunch, hrow, hleader, hmanual,
    hlatched, herrors⟩ := h
  exact {
    memory := State.memoryCanonical.congr hcells
    shape := State.StoreShape.congr hrecs hw hparser hstatus hlocal
    counters := State.CountersInRange.congr hreplies hgenerator hqueue hheat herrors hfeeds hmanual hcolumn hhand hmotion
    keys := State.KeysInRange.congr hkeys
    comps := State.CompsInBounds.congr hcomps
    records := State.RecordsInRange.congr hrecs
    print := State.PrintInRange.congr hrecs hphase hindex hhand hmotion
    punch := State.PunchInRange.congr hrecs hpunch hrow hleader
    straps := hstraps
    identity := State.IdentityLocked.congr hmemory hdraft hcycle
    printerFault := State.PrinterFaulted.congr hprinter hstop
    punchFault := State.PunchFaulted.congr hpunch hrow
    latched := fun _ he => hlatched ▸ he }

theorem Keeps.refl (s : State) : Keeps s s := .same rfl

theorem Sound.refl (s : State) : Sound s s := (Keeps.refl s).toSound

theorem Sound.trans {s t u : State} (h : Sound s t) (k : Sound t u) : Sound s u where
  memory := k.memory ∘ h.memory
  shape := k.shape ∘ h.shape
  counters := k.counters ∘ h.counters
  keys := k.keys ∘ h.keys
  comps := k.comps ∘ h.comps
  records := k.records ∘ h.records
  print := k.print ∘ h.print
  punch := k.punch ∘ h.punch
  straps := k.straps.trans h.straps
  identity := fun hs => ⟨(k.identity (h.identity hs).1).1, (k.identity (h.identity hs).1).2.trans (h.identity hs).2⟩
  printerFault := k.printerFault ∘ h.printerFault
  punchFault := k.punchFault ∘ h.punchFault

theorem Keeps.trans {s t u : State} (h : Keeps s t) (k : Keeps t u) : Keeps s u where
  toSound := h.toSound.trans k.toSound
  latched := fun e he => k.latched e (h.latched e he)

/-- A command that keeps where there is power keeps without (log 11). -/
theorem whenPowered_keeps {f : State → State} (hf : ∀ s, Keeps s (f s)) {s t : State}
    (h : whenPowered s f = .next t) : Keeps s t := by
  unfold whenPowered at h
  cases h
  split
  · exact hf s
  · exact Keeps.refl s

/-! ### The bell, the clock, the latches and the counts -/

theorem State.bell_keeps (s : State) : Keeps s s.bell := .same rfl

theorem State.reach_keeps (s : State) (i : Nat) : Keeps s (s.reach i) := .same rfl

theorem State.tick_keeps (s : State) : Keeps s s.tick := .same rfl

theorem State.latch_keeps (s : State) (e : Event) : Keeps s (s.latch e) :=
  { latched := fun x hx => (s.mem_latch e x).2 (.inr hx) }

theorem State.countError_keeps (s : State) : Keeps s s.countError :=
  { counters := fun h => { h with errors := Nat.min_le_right .. } }

theorem State.stepGenerator_keeps (s : State) (n : Nat) : Keeps s (s.stepGenerator n) :=
  { counters := fun h => { h with generator := generatorSteps_ne_zero h.generator n } }

end Sys2Proof.Machine
end

section
/-! The records of the store under its operations: which claims stay current, and how the records keep their shape
(R1, R2, R3, R6, R12). -/
namespace Sys2Proof.Machine

/-! ### One record -/

theorem Rec.isOpen_iff (r : Rec) : r.isOpen = true ↔ r.state = .opened := by
  rw [Rec.isOpen, beq_iff_eq]

theorem Rec.isOpen_eq_false_iff (r : Rec) : r.isOpen = false ↔ r.state ≠ .opened := by
  rw [ne_eq, ← r.isOpen_iff, Bool.not_eq_true]

theorem Rec.punchLive_iff (r : Rec) :
    r.punchLive = true ↔ ∃ p, r.punch = some p ∧ p.done = false ∧ p.skipped = false := by
  unfold Rec.punchLive
  cases r.punch <;> simp

theorem Rec.punchLive_eq_false_iff (r : Rec) :
    r.punchLive = false ↔ ∀ p, r.punch = some p → p.done = true ∨ p.skipped = true := by
  unfold Rec.punchLive
  cases r.punch with
  | none => simp
  | some p => cases hd : p.done <;> simp [hd]

/-- Reclaim's test of the head (R13). -/
theorem Rec.reclaimable_iff (r : Rec) :
    r.reclaimable = true ↔ r.isOpen = false ∧ r.print.done = true ∧ r.punchLive = false := by
  simp [Rec.reclaimable, and_assoc]

/-- A head whose punch claim may be released (R15). -/
theorem State.headReleasable_iff (s : State) : s.headReleasable = true ↔ ∃ r l, s.store.recs = r :: l ∧
    r.isOpen = false ∧ r.print.done = true ∧ r.punchLive = true ∧ s.punch.state ≠ .running := by
  unfold State.headReleasable
  cases s.store.recs with
  | nil => simp
  | cons r l => simp [and_assoc]

/-- A released head is one that reclaim takes. -/
theorem Rec.skipPunch_reclaimable {r : Rec} (hclosed : r.isOpen = false) (hdone : r.print.done = true) :
    r.skipPunch.reclaimable = true := by
  rw [Rec.reclaimable_iff]
  refine ⟨hclosed, hdone, ?_⟩
  rw [Rec.punchLive_eq_false_iff]
  intro p hp
  obtain ⟨q, -, rfl⟩ := Option.map_eq_some_iff.mp hp
  exact .inr rfl

theorem State.releaseHead_recs {s : State} {r : Rec} {l : List Rec} (hrecs : s.store.recs = r :: l)
    (hclosed : r.isOpen = false) (hdone : r.print.done = true) :
    s.releaseHead.store.recs = l.dropWhile Rec.reclaimable := by
  simp [State.releaseHead, Store.reclaim, hrecs, Rec.skipPunch_reclaimable hclosed hdone]

/-! ### The claims a writer leaves standing -/

/-- `r'` is `r` as its writer may leave it: the claims and the heading stand, and nothing of it gets shorter (R8). -/
structure Rec.Grows (r r' : Rec) : Prop where
  print : r'.print = r.print
  punch : r'.punch = r.punch
  heading : r'.heading = r.heading
  length : r.length ≤ r'.length
  endLines : r.endLines.length ≤ r'.endLines.length

theorem Rec.Grows.punchPos {r r' : Rec} (h : r.Grows r') : r'.punchPos = r.punchPos := by
  rw [Rec.punchPos, Rec.punchPos, h.punch]

theorem Rec.Grows.punchLive {r r' : Rec} (h : r.Grows r') : r'.punchLive = r.punchLive := by
  rw [Rec.punchLive, Rec.punchLive, h.punch]

/-- The current print claim stands, its record no shorter; so do the ranges of the print claims (R3, R12). -/
structure PrintClaimsKept (l l' : List Rec) : Prop where
  current : ∀ r, l.find? (fun r => !r.print.done) = some r → ∃ r', l'.find? (fun r => !r.print.done) = some r' ∧
    r'.print.pos = r.print.pos ∧ r.length ≤ r'.length ∧ r'.heading = r.heading ∧
    r.endLines.length ≤ r'.endLines.length
  positions : (∀ r ∈ l, r.print.pos ≤ r.length) → ∀ r ∈ l', r.print.pos ≤ r.length

/-- The current punch claim stands, its record no shorter; so do the ranges of the punch claims (R3, R12). -/
structure PunchClaimsKept (l l' : List Rec) : Prop where
  current : ∀ r, l.find? Rec.punchLive = some r → ∃ r', l'.find? Rec.punchLive = some r' ∧
    r'.punchPos = r.punchPos ∧ r.length ≤ r'.length
  positions : (∀ r ∈ l, r.punchPos ≤ r.length) → ∀ r ∈ l', r.punchPos ≤ r.length

theorem PrintClaimsKept.trans {l l' l'' : List Rec} (h : PrintClaimsKept l l') (k : PrintClaimsKept l' l'') :
    PrintClaimsKept l l'' where
  current r hr := by
    obtain ⟨r', hr', hpos, hlength, hheading, hlines⟩ := h.current r hr
    obtain ⟨r'', hr'', kpos, klength, kheading, klines⟩ := k.current r' hr'
    exact ⟨r'', hr'', kpos.trans hpos, Nat.le_trans hlength klength, kheading.trans hheading, Nat.le_trans hlines klines⟩
  positions := k.positions ∘ h.positions

theorem PunchClaimsKept.trans {l l' l'' : List Rec} (h : PunchClaimsKept l l') (k : PunchClaimsKept l' l'') :
    PunchClaimsKept l l'' where
  current r hr := by
    obtain ⟨r', hr', hpos, hlength⟩ := h.current r hr
    obtain ⟨r'', hr'', kpos, klength⟩ := k.current r' hr'
    exact ⟨r'', hr'', kpos.trans hpos, Nat.le_trans hlength klength⟩
  positions := k.positions ∘ h.positions

theorem find?_dropWhile_of_not {α : Type} {p q : α → Bool} (hpq : ∀ x, q x = true → p x = false) (l : List α) :
    (l.dropWhile q).find? p = l.find? p := by
  induction l with
  | nil => rfl
  | cons x l ih =>
    cases hq : q x with
    | false => rw [List.dropWhile_cons_of_neg (by simp [hq])]
    | true => rw [List.dropWhile_cons_of_pos hq, List.find?_cons_of_neg (by simp [hpq x hq]), ih]

theorem printDone_of_reclaimable (r : Rec) (h : r.reclaimable = true) : (!r.print.done) = false := by
  rw [(r.reclaimable_iff.mp h).2.1, Bool.not_true]

theorem not_punchLive_of_reclaimable (r : Rec) (h : r.reclaimable = true) : r.punchLive = false :=
  (r.reclaimable_iff.mp h).2.2

/-- Reclaim takes no current claim (R12, R13). -/
theorem PrintClaimsKept.reclaim (l : List Rec) : PrintClaimsKept l (l.dropWhile Rec.reclaimable) where
  current r hr := ⟨r, (find?_dropWhile_of_not printDone_of_reclaimable l).trans hr, rfl, Nat.le.refl, rfl, Nat.le.refl⟩
  positions h r hr := h r ((List.dropWhile_sublist _).subset hr)

theorem PunchClaimsKept.reclaim (l : List Rec) : PunchClaimsKept l (l.dropWhile Rec.reclaimable) where
  current r hr := ⟨r, (find?_dropWhile_of_not not_punchLive_of_reclaimable l).trans hr, rfl, Nat.le.refl⟩
  positions h r hr := h r ((List.dropWhile_sublist _).subset hr)

/-- A record written over by its writer keeps the claims. -/
theorem PrintClaimsKept.map {f : Rec → Rec} (hf : ∀ r : Rec, r.Grows (f r)) (l : List Rec) :
    PrintClaimsKept l (l.map f) where
  current r hr := by
    refine ⟨f r, ?_, by rw [(hf r).print], (hf r).length, (hf r).heading, (hf r).endLines⟩
    rw [List.find?_map, show ((fun r : Rec => !r.print.done) ∘ f) = fun r => !r.print.done from
      funext fun x => by simp [(hf x).print], hr, Option.map_some]
  positions h r hr := by
    obtain ⟨x, hx, rfl⟩ := List.mem_map.mp hr
    rw [(hf x).print]
    exact Nat.le_trans (h x hx) (hf x).length

theorem PunchClaimsKept.map {f : Rec → Rec} (hf : ∀ r : Rec, r.Grows (f r)) (l : List Rec) :
    PunchClaimsKept l (l.map f) where
  current r hr := by
    refine ⟨f r, ?_, (hf r).punchPos, (hf r).length⟩
    rw [List.find?_map, show (Rec.punchLive ∘ f) = Rec.punchLive from
      funext fun x => (hf x).punchLive, hr, Option.map_some]
  positions h r hr := by
    obtain ⟨x, hx, rfl⟩ := List.mem_map.mp hr
    rw [(hf x).punchPos]
    exact Nat.le_trans (h x hx) (hf x).length

/-- A record added at the tail with its claims at its start keeps the claims (R3). -/
theorem PrintClaimsKept.add (l : List Rec) {r : Rec} (hpos : r.print.pos = 0) : PrintClaimsKept l (l ++ [r]) where
  current x hx := ⟨x, by rw [List.find?_append, hx]; rfl, rfl, Nat.le.refl, rfl, Nat.le.refl⟩
  positions h x hx := by
    rcases List.mem_append.mp hx with hx | hx
    · exact h x hx
    · rw [List.mem_singleton.mp hx, hpos]
      exact Nat.zero_le _

theorem PunchClaimsKept.add (l : List Rec) {r : Rec} (hpos : r.punchPos = 0) : PunchClaimsKept l (l ++ [r]) where
  current x hx := ⟨x, by rw [List.find?_append, hx]; rfl, rfl, Nat.le.refl⟩
  positions h x hx := by
    rcases List.mem_append.mp hx with hx | hx
    · exact h x hx
    · rw [List.mem_singleton.mp hx, hpos]
      exact Nat.zero_le _

/-- The printer's ranges under a change of the records that keeps the print claims. -/
theorem State.PrintInRange.of_claimsKept {s t : State} (hrecs : PrintClaimsKept s.store.recs t.store.recs)
    (hprinter : t.printer = s.printer) (h : s.PrintInRange) : t.PrintInRange := by
  have hcurrent : (∃ r, s.store.printCurrent = some r ∧ r.print.pos < r.length) →
      ∃ r, t.store.printCurrent = some r ∧ r.print.pos < r.length := by
    rintro ⟨r, hr, hpos⟩
    obtain ⟨r', hr', hpos', hlength, -, -⟩ := hrecs.current r hr
    exact ⟨r', hr', by omega⟩
  have honChar : s.OnCharacter → t.OnCharacter := by
    unfold State.OnCharacter
    rw [hprinter]
    intro hc
    split at hc
    · trivial
    · trivial
    · trivial
    · obtain ⟨r, hr, hindex⟩ := hc
      obtain ⟨r', hr', -, -, hheading, -⟩ := hrecs.current r hr
      exact ⟨r', hr', by rwa [hheading]⟩
    · exact hcurrent hc
    · obtain ⟨r, hr, hindex⟩ := hc
      obtain ⟨r', hr', -, -, -, hlines⟩ := hrecs.current r hr
      exact ⟨r', hr', by omega⟩
  constructor
  case positions => exact hrecs.positions h.positions
  case index => exact hprinter ▸ h.index
  case handHas => exact fun hh => honChar (h.handHas (hprinter ▸ hh))
  case stepHas => exact fun n hn => honChar (h.stepHas n (hprinter ▸ hn))
  case returnHas =>
    rw [hprinter]
    intro k p b n c hm
    obtain ⟨hhand, hcell⟩ := h.returnHas k p b n c hm
    exact ⟨hhand, fun hc => hcurrent (hcell hc)⟩
  case feedHas =>
    rw [hprinter]
    intro n c hm
    obtain ⟨hhand, hcell⟩ := h.feedHas n c hm
    exact ⟨hhand, fun hc => hcurrent (hcell hc)⟩

/-- The punch's ranges under a change of the records that keeps the punch claims. -/
theorem State.PunchInRange.of_claimsKept {s t : State} (hrecs : PunchClaimsKept s.store.recs t.store.recs)
    (hstate : t.punch.state = s.punch.state) (hrow : t.punch.row = s.punch.row)
    (hleader : t.punch.leader = s.punch.leader) (h : s.PunchInRange) : t.PunchInRange := by
  constructor
  case positions => exact hrecs.positions h.positions
  case leader => rw [hleader]; exact h.leader
  case leaderRow => rw [hleader, hrow]; exact h.leaderRow
  case cellRow =>
    rw [hrow, hstate]
    intro r c hr hc
    obtain ⟨hrunning, x, hx, hpos⟩ := h.cellRow r c hr hc
    obtain ⟨x', hx', hpos', hlength⟩ := hrecs.current x hx
    exact ⟨hrunning, x', hx', by omega⟩

/-! ### The end lines of a record that is marked or closed -/

theorem plainDecimal_length_eq (n : Nat) : (plainDecimal n).length =
    if n < 10 then 1 else if n < 100 then 2 else if n < 1000 then 3 else if n < 10000 then 4 else 5 := by
  simp only [plainDecimal]
  repeat' split
  all_goals rfl

theorem plainDecimal_length_le (n : Nat) : (plainDecimal n).length ≤ 5 := by
  rw [plainDecimal_length_eq]
  repeat' split
  all_goals omega

/-- A dropped count that rises, or stays at its top, is written no shorter (R147). -/
theorem plainDecimal_satSucc (n : Nat) : (plainDecimal n).length ≤ (plainDecimal (satSucc 65535 n)).length := by
  rw [plainDecimal_length_eq, plainDecimal_length_eq, satSucc]
  repeat' split
  all_goals omega

/-! ### The shape of the records -/

theorem runsTo_append_singleton (l : List Rec) (r : Rec) (w : Nat) :
    runsTo (l ++ [r]) w ↔ runsTo l r.start ∧ (r.start + r.length) % storeCells = w := by
  induction l with
  | nil => simp [runsTo]
  | cons a l ih =>
    cases l with
    | nil => simp [runsTo]
    | cons b l =>
      simp only [List.cons_append, runsTo] at ih ⊢
      rw [ih, and_assoc]

theorem runsTo_drop (n : Nat) {l : List Rec} {w : Nat} (h : runsTo l w) : runsTo (l.drop n) w := by
  induction n generalizing l with
  | zero => exact h
  | succ n ih =>
    cases l with
    | nil => exact h
    | cons a l =>
      cases l with
      | nil => exact ih (l := []) trivial
      | cons b l => exact ih h.2

/-- A change that leaves every record in place keeps the records end to end. -/
theorem runsTo_map {f : Rec → Rec} (hf : ∀ r, (f r).start = r.start ∧ (f r).length = r.length) {w : Nat} :
    ∀ {l : List Rec}, runsTo l w → runsTo (l.map f) w
  | [], _ => trivial
  | [r], h => by simpa [runsTo, (hf r).1, (hf r).2] using h
  | r :: r' :: l, h => by
    have ih := runsTo_map hf (l := r' :: l) h.2
    exact ⟨by rw [(hf r).1, (hf r).2, (hf r').1]; exact h.1, ih⟩

/-- The records of a sound store with one OPEN: the newest is it, and no other (R6). -/
theorem open_is_newest {l : List Rec} (h : ∀ r ∈ l.dropLast, r.isOpen = false) {x : Rec} (hx : x ∈ l)
    (ho : x.isOpen = true) : l = l.dropLast ++ [x] := by
  have hne : l ≠ [] := List.ne_nil_of_mem hx
  have hsplit := List.dropLast_concat_getLast hne
  rw [← hsplit] at hx
  rcases List.mem_append.mp hx with hx | hx
  · rw [h x hx] at ho; cases ho
  · rw [List.mem_singleton.mp hx, hsplit]

end Sys2Proof.Machine
end

section
/-! The operations of the Message Store keep every invariant (spec/01_the_message_store.md): the space steps, appending,
closing, opening and writing records. -/
namespace Sys2Proof.Machine

/-! ### The shape of the records, and who holds the OPEN one -/

/-- The part of the store's shape that reads the records alone (R1, R2, R6). -/
structure RecsShape (l : List Rec) (w : Nat) : Prop where
  descriptors : l.length ≤ maxRecords
  used : (l.map Rec.length).sum ≤ storeCells
  position : w < storeCells
  contiguous : runsTo l w
  onlyNewestOpen : ∀ r ∈ l.dropLast, r.isOpen = false

theorem State.StoreShape.recsShape {s : State} (h : s.StoreShape) : RecsShape s.store.recs s.store.w :=
  ⟨h.descriptors, h.used, h.position, h.contiguous, h.onlyNewestOpen⟩

theorem RecsShape.storeShape {s : State} (h : RecsShape s.store.recs s.store.w)
    (hblock : s.store.blockOpen = true ↔ s.recv.parser = .text ∧ s.recv.recordStatus = .opened)
    (hheader : s.recv.parser = .dests ∨ s.recv.parser = .sender ∨ s.recv.parser = .kind →
      s.recv.recordStatus = .none)
    (hlocal : s.interp.localOpen = s.store.localOpen) : s.StoreShape :=
  ⟨h.descriptors, h.used, h.position, h.contiguous, h.onlyNewestOpen, hblock, hheader, hlocal⟩

theorem sum_le_of_sublist {l l' : List Nat} (h : l.Sublist l') : l.sum ≤ l'.sum := by
  induction h with
  | slnil => exact Nat.le.refl
  | cons a _ ih => exact Nat.le_trans ih (Nat.le_add_left _ a)
  | cons_cons a _ ih => exact Nat.add_le_add_left ih a

theorem RecsShape.drop {l : List Rec} {w : Nat} (h : RecsShape l w) (n : Nat) : RecsShape (l.drop n) w where
  descriptors := Nat.le_trans (List.drop_sublist n l).length_le h.descriptors
  used := Nat.le_trans (sum_le_of_sublist ((List.drop_sublist n l).map Rec.length)) h.used
  position := h.position
  contiguous := runsTo_drop n h.contiguous
  onlyNewestOpen := fun r hr => h.onlyNewestOpen r <| by
    rw [List.dropLast_eq_take, List.length_drop, Nat.sub_right_comm, ← List.drop_take, ← List.dropLast_eq_take] at hr
    exact List.mem_of_mem_drop hr

/-- Records changed in place, none of them opened. -/
theorem RecsShape.map {l : List Rec} {w : Nat} (h : RecsShape l w) {f : Rec → Rec}
    (hf : ∀ r : Rec, (f r).start = r.start ∧ (f r).length = r.length)
    (hopen : ∀ r : Rec, (f r).isOpen = true → r.isOpen = true) : RecsShape (l.map f) w where
  descriptors := by rw [List.length_map]; exact h.descriptors
  used := by
    rw [List.map_map, show Rec.length ∘ f = Rec.length from funext fun r => (hf r).2]
    exact h.used
  position := h.position
  contiguous := runsTo_map hf h.contiguous
  onlyNewestOpen := fun r hr => by
    rw [← List.map_dropLast] at hr
    obtain ⟨x, hx, rfl⟩ := List.mem_map.mp hr
    exact Bool.eq_false_iff.mpr fun ho => Bool.eq_false_iff.mp (h.onlyNewestOpen x hx) (hopen x ho)

/-- A record added at the tail, starting at W and ending at `w'`, every record before it closed (R2). -/
theorem RecsShape.add {l : List Rec} {w w' : Nat} (h : RecsShape l w) {r : Rec}
    (hclosed : ∀ x ∈ l, x.isOpen = false) (hroom : l.length < maxRecords)
    (hcells : (l.map Rec.length).sum + r.length ≤ storeCells) (hstart : r.start = w)
    (hend : w' = (r.start + r.length) % storeCells) : RecsShape (l ++ [r]) w' where
  descriptors := by rw [List.length_append]; exact hroom
  used := by simpa using hcells
  position := hend ▸ Nat.mod_lt _ (by decide)
  contiguous := (runsTo_append_singleton l r w').mpr ⟨hstart ▸ h.contiguous, hend.symm⟩
  onlyNewestOpen := by rw [List.dropLast_concat]; exact hclosed

/-- The newest record longer by one cell, W on by one (R1). -/
theorem RecsShape.grow {l : List Rec} {w : Nat} {r : Rec} (h : RecsShape (l ++ [r]) w)
    (hroom : ((l ++ [r]).map Rec.length).sum < storeCells) :
    RecsShape (l ++ [{ r with length := r.length + 1 }]) ((w + 1) % storeCells) where
  descriptors := by simpa using h.descriptors
  used := by simp only [List.map_append, List.sum_append, List.map_cons, List.map_nil, List.sum_cons, List.sum_nil] at hroom ⊢; omega
  position := Nat.mod_lt _ (by decide)
  contiguous := by
    obtain ⟨hl, hw⟩ := (runsTo_append_singleton l r w).mp h.contiguous
    refine (runsTo_append_singleton ..).mpr ⟨hl, ?_⟩
    rw [← hw, Nat.mod_add_mod]
    rfl
  onlyNewestOpen := by simpa using h.onlyNewestOpen

/-- The OPEN record is a block's or a LOCAL one, not both (R6). -/
theorem RecsShape.localOpen_of_blockOpen {st : Store} (h : RecsShape st.recs st.w) (hb : st.blockOpen = true) :
    st.localOpen = false := by
  obtain ⟨x, hx, hxo⟩ := List.any_eq_true.mp hb
  simp only [Rec.isOpenBlock, Bool.and_eq_true, bne_iff_ne] at hxo
  have hsplit := open_is_newest h.onlyNewestOpen hx hxo.1
  rw [Store.localOpen, List.any_eq_false]
  intro y hy hyo
  simp only [Rec.isOpenLocal, Bool.and_eq_true, beq_iff_eq] at hyo
  rw [hsplit] at hy
  rcases List.mem_append.mp hy with hy | hy
  · rw [h.onlyNewestOpen y hy] at hyo
    exact absurd hyo.1 (by decide)
  · exact hxo.2 (List.mem_singleton.mp hy ▸ hyo.2)

/-- No record is OPEN where neither writer has one. -/
theorem Store.closed_of_not_open {st : Store} (hb : st.blockOpen = false) (hl : st.localOpen = false) :
    ∀ r ∈ st.recs, r.isOpen = false := by
  intro r hr
  rw [Bool.eq_false_iff]
  intro ho
  rw [Store.blockOpen, List.any_eq_false] at hb
  rw [Store.localOpen, List.any_eq_false] at hl
  have hb := hb r hr
  have hl := hl r hr
  simp only [Rec.isOpenBlock, Rec.isOpenLocal, ho, Bool.true_and, bne_iff_ne, beq_iff_eq] at hb hl
  exact hb hl

theorem Store.not_open_of_closed {st : Store} (h : ∀ r ∈ st.recs, r.isOpen = false) :
    st.blockOpen = false ∧ st.localOpen = false := by
  constructor
  · exact List.any_eq_false.mpr fun r hr => by simp [Rec.isOpenBlock, h r hr]
  · exact List.any_eq_false.mpr fun r hr => by simp [Rec.isOpenLocal, h r hr]

theorem Store.openRec_eq_some {st : Store} {r : Rec} (h : st.openRec = some r) :
    r ∈ st.recs ∧ r.isOpen = true :=
  ⟨List.mem_of_find?_eq_some h, List.find?_some h⟩

theorem any_drop_of_not_take {α : Type} {p : α → Bool} {n : Nat} {l : List α} (h : ∀ x ∈ l.take n, p x = false) :
    (l.drop n).any p = l.any p := by
  have hnone : (l.take n).any p = false := List.any_eq_false.mpr fun x hx => by simp [h x hx]
  calc (l.drop n).any p = (l.take n ++ l.drop n).any p := by rw [List.any_append, hnone, Bool.false_or]
    _ = l.any p := by rw [List.take_append_drop]

theorem any_map_of_eq {α : Type} {p : α → Bool} {f : α → α} (h : ∀ x, p (f x) = p x) (l : List α) :
    (l.map f).any p = l.any p := by
  rw [List.any_map, show p ∘ f = p from funext h]

/-! ### The space steps -/

/-- Records leave the head, none of them OPEN, with the current print claim kept (R13, R15). -/
theorem State.StoreShape.of_drop {s t : State} (h : s.StoreShape) {n : Nat}
    (hrecs : t.store.recs = s.store.recs.drop n) (hclosed : ∀ r ∈ s.store.recs.take n, r.isOpen = false)
    (hw : t.store.w = s.store.w) (hrecv : t.recv = s.recv) (hinterp : t.interp.localOpen = s.interp.localOpen) :
    t.StoreShape := by
  have hb : t.store.blockOpen = s.store.blockOpen := by
    rw [Store.blockOpen, hrecs, any_drop_of_not_take fun r hr => by simp [Rec.isOpenBlock, hclosed r hr]]; rfl
  have hl : t.store.localOpen = s.store.localOpen := by
    rw [Store.localOpen, hrecs, any_drop_of_not_take fun r hr => by simp [Rec.isOpenLocal, hclosed r hr]]; rfl
  refine RecsShape.storeShape ?_ ?_ ?_ ?_
  · rw [hrecs, hw]; exact h.recsShape.drop n
  · rw [hb, hrecv]; exact h.blockRecord
  · rw [hrecv]; exact h.headerRecord
  · rw [hl, hinterp]; exact h.localRecord

theorem State.releaseHead_keeps {s : State} (h : s.headReleasable = true) : Keeps s s.releaseHead := by
  obtain ⟨hsteps, -⟩ := State.releaseHead_spaceSteps h
  obtain ⟨r, l, hrecs, hclosed, hdone, hlive, hpunch⟩ := s.headReleasable_iff.mp h
  have hnew := State.releaseHead_recs hrecs hclosed hdone
  have hclaims : PrintClaimsKept s.store.recs s.releaseHead.store.recs := by
    rw [hnew, hrecs]
    refine PrintClaimsKept.trans ⟨fun x hx => ?_, fun hp x hx => hp x (List.mem_cons_of_mem _ hx)⟩ (.reclaim l)
    rw [List.find?_cons_of_neg (by simp [hdone])] at hx
    exact ⟨x, hx, rfl, Nat.le.refl, rfl, Nat.le.refl⟩
  have hmem : ∀ x ∈ s.releaseHead.store.recs, x ∈ s.store.recs := by
    rw [hnew, hrecs]
    exact fun x hx => List.mem_cons_of_mem _ ((List.dropWhile_sublist _).subset hx)
  refine { shape := fun hs => ?_, records := fun hr => ?_, print := fun hp => ?_, punch := fun hp => ?_,
           latched := hsteps.kept }
  · obtain ⟨n, hn, hn'⟩ := hsteps.recs
    exact hs.of_drop hn hn' rfl rfl rfl
  · exact ⟨fun x hx => hr.errors x (hmem x hx), fun x hx => hr.dropped x (hmem x hx)⟩
  · exact hp.of_claimsKept hclaims rfl
  · refine ⟨fun x hx => hp.positions x (hmem x hx), Nat.zero_le _, fun _ _ _ => Nat.zero_lt_succ 9, fun x c hx hc => ?_⟩
    exact absurd (hp.cellRow x c hx hc).1 hpunch

theorem State.makeRoom_keeps (met : Store → Bool) (n : Nat) (s : State) : Keeps s (s.makeRoom met n) := by
  induction n generalizing s with
  | zero => exact Keeps.refl s
  | succ n ih =>
    unfold State.makeRoom
    split
    · exact Keeps.refl s
    · split
      · exact (State.releaseHead_keeps ‹_›).trans (ih _)
      · exact Keeps.refl s

/-! ### The marks of the OPEN record -/

/-- `r'` is `r` but for its marks, which stay in range and make its end lines no shorter (R3, R8, R16). -/
structure Rec.Marked (r r' : Rec) : Prop where
  rest : r' = { r with errors := r'.errors, truncated := r'.truncated, dropped := r'.dropped }
  errors : r.errors ≤ 255 → r'.errors ≤ 255
  dropped : r.dropped ≤ 65535 → r'.dropped ≤ 65535
  endLines : r.endLines.length ≤ r'.endLines.length

theorem Rec.Marked.refl (r : Rec) : r.Marked r := ⟨rfl, id, id, Nat.le.refl⟩

theorem Rec.Marked.grows {r r' : Rec} (h : r.Marked r') : r.Grows r' :=
  ⟨(congrArg Rec.print h.rest :), (congrArg Rec.punch h.rest :), (congrArg Rec.heading h.rest :),
    Nat.le_of_eq (congrArg Rec.length h.rest :).symm, h.endLines⟩

theorem Rec.marked_dropped (r : Rec) : r.Marked { r with dropped := satSucc 65535 r.dropped } where
  rest := rfl
  errors := id
  dropped _ := Nat.min_le_right ..
  endLines := by
    have hcount := plainDecimal_satSucc r.dropped
    rw [Rec.endLines, Rec.endLines, List.length_append, List.length_append]
    refine Nat.add_le_add_left ?_ _
    unfold Rec.truncatedLine
    dsimp only
    split
    · rw [List.length_append, List.length_append]
      exact Nat.add_le_add_left hcount _
    · exact Nat.le.refl

theorem Rec.marked_truncated (r : Rec) :
    r.Marked { r with truncated := true, dropped := satSucc 65535 r.dropped } where
  rest := rfl
  errors := id
  dropped _ := Nat.min_le_right ..
  endLines := by
    have hcount := plainDecimal_satSucc r.dropped
    rw [Rec.endLines, Rec.endLines, List.length_append, List.length_append]
    refine Nat.add_le_add_left ?_ _
    unfold Rec.truncatedLine
    rw [if_pos rfl]
    split
    · rw [List.length_append, List.length_append]
      exact Nat.add_le_add_left hcount _
    · exact Nat.zero_le _

theorem Rec.marked_errors (r : Rec) : r.Marked { r with errors := satSucc 255 r.errors } where
  rest := rfl
  errors _ := Nat.min_le_right ..
  dropped := id
  endLines := Nat.le.refl

/-- The OPEN record marked (R8, R16). -/
theorem State.markOpen_keeps (s : State) {f : Rec → Rec} (hf : ∀ r : Rec, r.Marked (f r)) :
    Keeps s { s with store := s.store.updateOpen f } := by
  have hg : ∀ r : Rec, r.Marked (if r.isOpen then f r else r) := by
    intro r
    split
    · exact hf r
    · exact Rec.Marked.refl r
  have hopen : ∀ r : Rec, (if r.isOpen then f r else r).isOpen = r.isOpen := fun r => by
    rw [(hg r).rest]; rfl
  have hkind : ∀ r : Rec, (if r.isOpen then f r else r).kind = r.kind := fun r => by rw [(hg r).rest]
  refine { shape := fun hs => ?_, records := fun hr => ?_, print := fun hp => ?_, punch := fun hp => ?_ }
  · have hb : (s.store.updateOpen f).blockOpen = s.store.blockOpen :=
      any_map_of_eq (fun r => by rw [Rec.isOpenBlock, Rec.isOpenBlock, hopen, hkind]) _
    have hl : (s.store.updateOpen f).localOpen = s.store.localOpen :=
      any_map_of_eq (fun r => by rw [Rec.isOpenLocal, Rec.isOpenLocal, hopen, hkind]) _
    refine RecsShape.storeShape (hs.recsShape.map (fun r => ?_) fun r => ?_) ?_ hs.headerRecord ?_
    · rw [(hg r).rest]; exact ⟨rfl, rfl⟩
    · rw [hopen]; exact id
    · exact hb ▸ hs.blockRecord
    · exact hs.localRecord.trans hl.symm
  · constructor <;> intro x hx <;> obtain ⟨y, hy, rfl⟩ := List.mem_map.mp hx
    · exact (hg y).errors (hr.errors y hy)
    · exact (hg y).dropped (hr.dropped y hy)
  · exact hp.of_claimsKept (.map (fun r => (hg r).grows) _) rfl
  · exact hp.of_claimsKept (.map (fun r => (hg r).grows) _) rfl rfl rfl

theorem State.reportError_keeps (s : State) : Keeps s s.reportError := s.markOpen_keeps Rec.marked_errors

theorem State.truncateRecord_keeps (s : State) : Keeps s s.truncateRecord :=
  (s.markOpen_keeps Rec.marked_truncated).trans (State.latch_keeps _ _)

/-! ### Appending -/

/-- A character stored in the OPEN record with a cell free (R1, R8). -/
theorem State.storeChar_keeps {s : State} {r : Rec} (hopen : s.store.openRec = some r) (hfree : 0 < s.store.free)
    (c : Code) : Keeps s { s with store := s.store.storeChar c } := by
  have hg : ∀ r : Rec, r.Grows (if r.isOpen then { r with length := r.length + 1 } else r) := by
    intro r
    split
    · exact ⟨rfl, rfl, rfl, Nat.le_succ _, Nat.le.refl⟩
    · exact ⟨rfl, rfl, rfl, Nat.le.refl, Nat.le.refl⟩
  refine { memory := fun h => Store.storeChar_wf h c, shape := fun hs => ?_, records := fun hr => ?_,
           print := fun hp => hp.of_claimsKept (.map hg _) rfl,
           punch := fun hp => hp.of_claimsKept (.map hg _) rfl rfl rfl }
  · obtain ⟨hmem, ho⟩ := Store.openRec_eq_some hopen
    obtain ⟨l, hsplit⟩ : ∃ l, s.store.recs = l ++ [r] := ⟨_, open_is_newest hs.onlyNewestOpen hmem ho⟩
    have hclosed : ∀ x ∈ l, x.isOpen = false := by
      have := hs.onlyNewestOpen
      rwa [hsplit, List.dropLast_concat] at this
    have hnew : (s.store.storeChar c).recs = l ++ [{ r with length := r.length + 1 }] := by
      show s.store.recs.map _ = _
      rw [hsplit]
      exact map_ite_append_cons _ (by simpa using hclosed) ho
    have hkinds : (s.store.storeChar c).blockOpen = s.store.blockOpen ∧
        (s.store.storeChar c).localOpen = s.store.localOpen := by
      simp [Store.blockOpen, Store.localOpen, hnew, hsplit, Rec.isOpenBlock, Rec.isOpenLocal, Rec.isOpen]
    refine RecsShape.storeShape ?_ ?_ hs.headerRecord ?_
    · show RecsShape (s.store.storeChar c).recs _
      rw [hnew]
      have hshape := hs.recsShape
      rw [hsplit] at hshape
      refine hshape.grow ?_
      rw [← hsplit]
      unfold Store.free Store.used at hfree
      omega
    · exact hkinds.1 ▸ hs.blockRecord
    · exact hs.localRecord.trans hkinds.2.symm
  · constructor <;> intro x hx <;> obtain ⟨y, hy, rfl⟩ := List.mem_map.mp hx
    · have := hr.errors y hy
      split <;> exact this
    · have := hr.dropped y hy
      split <;> exact this

/-- The space steps release no OPEN record. -/
theorem SpaceSteps.openRec {s t : State} (h : SpaceSteps s t) : t.store.openRec = s.store.openRec := by
  obtain ⟨n, hn, hn'⟩ := h.recs
  rw [Store.openRec, Store.openRec, hn]
  have hnone : (s.store.recs.take n).find? Rec.isOpen = none := List.find?_eq_none.mpr fun x hx => by simp [hn' x hx]
  calc (s.store.recs.drop n).find? Rec.isOpen = (s.store.recs.take n ++ s.store.recs.drop n).find? Rec.isOpen := by
        rw [List.find?_append, hnone, Option.none_or]
    _ = s.store.recs.find? Rec.isOpen := by rw [List.take_append_drop]

theorem State.append_keeps (s : State) (c : Code) : Keeps s (s.append c) := by
  unfold State.append
  split
  · exact Keeps.refl s
  · rename_i r hopen
    split
    · exact s.markOpen_keeps Rec.marked_dropped
    · have hroom : Keeps s s.roomForCell := State.makeRoom_keeps _ _ s
      have hopen' := (State.makeRoom_spaceSteps (fun st => 0 < st.free) maxRecords s).1.openRec.trans hopen
      dsimp only
      split
      · exact hroom.trans (State.storeChar_keeps hopen' ‹_› c)
      · exact hroom.trans (State.truncateRecord_keeps _)

theorem State.appendAll_keeps (s : State) (cs : List Code) : Keeps s (s.appendAll cs) := by
  induction cs generalizing s with
  | nil => exact Keeps.refl s
  | cons c cs ih => exact (s.append_keeps c).trans (ih _)

/-! ### Closing -/

theorem Rec.grows_closed (r : Rec) (reason : EndReason) :
    r.Grows (if r.isOpen then { r with state := .closed reason } else r) := by
  by_cases ho : r.isOpen = true
  · rw [if_pos ho]
    refine ⟨rfl, rfl, rfl, Nat.le.refl, ?_⟩
    rw [Rec.endLines, Rec.reasonLine, r.isOpen_iff.mp ho, Rec.endLines, List.length_append, List.length_append]
    exact Nat.add_le_add_right (Nat.zero_le _) _
  · rw [if_neg ho]
    exact ⟨rfl, rfl, rfl, Nat.le.refl, Nat.le.refl⟩

/-- After a close no record is OPEN (R6, R9). -/
theorem State.closeRecord_closed (s : State) (reason : EndReason) :
    ∀ r ∈ (s.closeRecord reason).store.recs, r.isOpen = false := by
  intro r hr
  obtain ⟨x, -, rfl⟩ := List.mem_map.mp ((List.dropWhile_sublist _).subset hr)
  split
  · rfl
  · rename_i ho
    simpa using ho

theorem State.closeRecord_recsShape {s : State} (h : s.StoreShape) (reason : EndReason) :
    RecsShape (s.closeRecord reason).store.recs (s.closeRecord reason).store.w := by
  obtain ⟨n, hn, -⟩ := dropWhile_reclaimable (s.store.updateOpen fun r => { r with state := .closed reason }).recs
  rw [State.closeRecord_store_recs, hn]
  refine (h.recsShape.map (fun r => ?_) fun r => ?_).drop n
  · split <;> exact ⟨rfl, rfl⟩
  · split
    · exact fun hc => absurd hc (by simp [Rec.isOpen])
    · exact id

/-- The close of the OPEN record, with what its writer then holds of it (R9). -/
theorem State.closeRecord_keeps (s : State) (reason : EndReason) (r : Receiver) (i : Interp)
    (hrecv : s.StoreShape → ¬(r.parser = .text ∧ r.recordStatus = .opened) ∧
      (r.parser = .dests ∨ r.parser = .sender ∨ r.parser = .kind → r.recordStatus = .none))
    (hinterp : s.StoreShape → i.localOpen = false) (hcomps : i.comps = s.interp.comps)
    (hqueue : i.queue = s.interp.queue) : Keeps s { s.closeRecord reason with recv := r, interp := i } := by
  have hclosed := s.closeRecord_closed reason
  refine { shape := fun hs => ?_, counters := ?_, comps := State.CompsInBounds.congr hcomps,
           records := fun hr => ?_, print := fun hp => ?_, punch := fun hp => ?_ }
  · obtain ⟨hb, hl⟩ := Store.not_open_of_closed hclosed
    refine RecsShape.storeShape (State.closeRecord_recsShape hs reason) ?_ (hrecv hs).2 ?_
    · exact ⟨fun h => absurd (hb.symm.trans h) (by decide), fun h => absurd h (hrecv hs).1⟩
    · exact (hinterp hs).trans hl.symm
  · exact State.CountersInRange.congr rfl rfl hqueue rfl rfl rfl rfl rfl rfl rfl
  · constructor <;> intro x hx <;>
      obtain ⟨y, hy, rfl⟩ := List.mem_map.mp ((List.dropWhile_sublist _).subset hx)
    · have := hr.errors y hy
      split <;> exact this
    · have := hr.dropped y hy
      split <;> exact this
  · exact hp.of_claimsKept ((PrintClaimsKept.map (fun x => x.grows_closed reason) _).trans (.reclaim _)) rfl
  · exact hp.of_claimsKept ((PunchClaimsKept.map (fun x => x.grows_closed reason) _).trans (.reclaim _)) rfl rfl rfl

theorem State.splitLocal_keeps (s : State) : Keeps s s.splitLocal := by
  unfold State.splitLocal
  split
  · rename_i hl
    refine s.closeRecord_keeps .split s.recv { s.interp with localOpen := false } (fun hs => ⟨?_, hs.headerRecord⟩)
      (fun _ => rfl) rfl rfl
    intro hb
    have := hs.recsShape.localOpen_of_blockOpen (hs.blockRecord.mpr hb)
    rw [this] at hl
    cases hl
  · exact Keeps.refl s

/-- After the split no LOCAL record is OPEN (R6). -/
theorem State.splitLocal_localOpen (s : State) : s.splitLocal.store.localOpen = false := by
  unfold State.splitLocal
  split
  · exact (Store.not_open_of_closed (s.closeRecord_closed .split)).2
  · rename_i hl
    simpa using hl

/-! ### Opening and writing -/

theorem newRec_punchPos (punchsel : BitVec 2) (k : RecKind) (peer : Option Station) (start : Nat) :
    (newRec punchsel k peer start).punchPos = 0 := by
  unfold Rec.punchPos newRec
  cases punchSelected punchsel k <;> rfl

/-- A descriptor added at the tail, with what its writer then holds of it (R2, R7). -/
theorem State.addRec_keeps (s : State) (k : RecKind) (peer : Option Station) (r : Receiver) (i : Interp)
    (hclosed : s.StoreShape → ∀ x ∈ s.store.recs, x.isOpen = false) (hroom : 0 < s.store.freeRecs)
    (hblock : s.StoreShape → (k ≠ .localTyping ↔ r.parser = .text ∧ r.recordStatus = .opened))
    (hheader : s.StoreShape → r.parser = .dests ∨ r.parser = .sender ∨ r.parser = .kind → r.recordStatus = .none)
    (hlocal : s.StoreShape → i.localOpen = decide (k = .localTyping)) (hcomps : i.comps = s.interp.comps)
    (hqueue : i.queue = s.interp.queue) : Keeps s { s.addRec k peer with recv := r, interp := i } := by
  have hpos := newRec_punchPos s.straps.punchsel k peer s.store.w
  refine { shape := fun hs => ?_, counters := ?_, comps := State.CompsInBounds.congr hcomps,
           records := fun hr => ?_, print := fun hp => hp.of_claimsKept (.add _ rfl) rfl,
           punch := fun hp => hp.of_claimsKept (.add _ hpos) rfl rfl rfl }
  · obtain ⟨hb, hl⟩ := Store.not_open_of_closed (hclosed hs)
    have hbn : (s.addRec k peer).store.blockOpen = decide (k ≠ .localTyping) := by
      rw [Store.blockOpen] at hb ⊢
      show (s.store.recs ++ [_]).any _ = _
      rw [List.any_append, hb]
      cases k <;> rfl
    have hln : (s.addRec k peer).store.localOpen = decide (k = .localTyping) := by
      rw [Store.localOpen] at hl ⊢
      show (s.store.recs ++ [_]).any _ = _
      rw [List.any_append, hl]
      cases k <;> rfl
    refine RecsShape.storeShape (s := { s.addRec k peer with recv := r, interp := i }) ?_ ?_ (hheader hs) ?_
    · refine hs.recsShape.add (hclosed hs) ?_ hs.used rfl ?_
      · unfold Store.freeRecs at hroom; omega
      · exact (Nat.mod_eq_of_lt hs.position).symm
    · show (s.addRec k peer).store.blockOpen = true ↔ _
      rw [hbn, decide_eq_true_iff]
      exact hblock hs
    · exact (hlocal hs).trans hln.symm
  · exact State.CountersInRange.congr rfl rfl hqueue rfl rfl rfl rfl rfl rfl rfl
  · constructor <;> intro x hx <;> rcases List.mem_append.mp hx with hx | hx
    · exact hr.errors x hx
    · rw [List.mem_singleton.mp hx]; exact Nat.zero_le _
    · exact hr.dropped x hx
    · rw [List.mem_singleton.mp hx]; exact Nat.zero_le _

/-- Storing characters one after another moves W on by their number (R1). -/
theorem Store.put_all_w (st : Store) (cs : List Code) (hw : st.w < storeCells) :
    (cs.foldl Store.put st).w = (st.w + cs.length) % storeCells := by
  induction cs generalizing st with
  | nil => exact (Nat.mod_eq_of_lt hw).symm
  | cons c cs ih =>
    rw [List.foldl_cons, ih _ (Nat.mod_lt _ (by decide))]
    show ((st.w + 1) % storeCells + cs.length) % storeCells = _
    rw [Nat.mod_add_mod, List.length_cons]
    congr 1
    omega

/-- A generated record written with room for it, no record OPEN (R11). -/
theorem State.writeGenerated_keeps {s : State} (k : RecKind) (text : List Code)
    (hclosed : ∀ x ∈ s.store.recs, x.isOpen = false) : Keeps s (s.writeGenerated k text).1 := by
  unfold State.writeGenerated
  have hroom : Keeps s (s.roomForText text.length) := State.makeRoom_keeps _ _ s
  have hclosed' : ∀ x ∈ (s.roomForText text.length).store.recs, x.isOpen = false := by
    obtain ⟨n, hn, -⟩ := (State.makeRoom_spaceSteps
      (fun st => 0 < st.freeRecs && text.length ≤ st.free) maxRecords s).1.recs
    intro x hx
    exact hclosed x (List.mem_of_mem_drop (hn ▸ hx))
  generalize s.roomForText text.length = u at hroom hclosed'
  dsimp only
  split
  · rename_i hfits
    simp only [Bool.and_eq_true, decide_eq_true_eq] at hfits
    refine hroom.trans ?_
    obtain ⟨hrecs, -⟩ := Store.put_all_recs u.store text
    dsimp only
    rw [hrecs]
    have hpos : Rec.punchPos { newRec u.straps.punchsel k none u.store.w with
        length := text.length, state := .closed .complete } = 0 := newRec_punchPos u.straps.punchsel k none u.store.w
    refine { memory := fun h => Store.put_all_wf h text, shape := fun hs => ?_, records := fun hr => ?_,
             print := fun hp => hp.of_claimsKept ((PrintClaimsKept.add _ rfl).trans (.reclaim _)) rfl,
             punch := fun hp => hp.of_claimsKept ((PunchClaimsKept.add _ hpos).trans (.reclaim _)) rfl rfl rfl }
    · have hadd : RecsShape (u.store.recs ++ [{ newRec u.straps.punchsel k none u.store.w with
          length := text.length, state := .closed .complete }]) (text.foldl Store.put u.store).w := by
        refine hs.recsShape.add hclosed' ?_ ?_ rfl (Store.put_all_w _ _ hs.position)
        · unfold Store.freeRecs at hfits; omega
        · have := hs.used
          unfold Store.free Store.used at *
          dsimp only
          omega
      obtain ⟨n, hn, -⟩ := dropWhile_reclaimable (u.store.recs ++ [{ newRec u.straps.punchsel k none u.store.w with
        length := text.length, state := .closed .complete }])
      have hnew := hadd.drop n
      rw [← hn] at hnew
      have hnone : ∀ x ∈ (u.store.recs ++ [{ newRec u.straps.punchsel k none u.store.w with
          length := text.length, state := .closed .complete }]).dropWhile Rec.reclaimable, x.isOpen = false := by
        intro x hx
        rcases List.mem_append.mp ((List.dropWhile_sublist _).subset hx) with hx | hx
        · exact hclosed' x hx
        · rw [List.mem_singleton.mp hx]; rfl
      obtain ⟨hb, hl⟩ := Store.not_open_of_closed hclosed'
      refine RecsShape.storeShape hnew ?_ hs.headerRecord ?_
      · rw [← hs.blockRecord, hb]
        refine Eq.to_iff (congrArg (· = true) (List.any_eq_false.mpr fun x hx => ?_))
        simp [Rec.isOpenBlock, hnone x hx]
      · refine hs.localRecord.trans (hl.trans (Eq.symm (List.any_eq_false.mpr fun x hx => ?_)))
        simp [Rec.isOpenLocal, hnone x hx]
    · constructor <;> intro x hx <;>
        rcases List.mem_append.mp ((List.dropWhile_sublist _).subset hx) with hx | hx
      · exact hr.errors x hx
      · rw [List.mem_singleton.mp hx]; exact Nat.zero_le _
      · exact hr.dropped x hx
      · rw [List.mem_singleton.mp hx]; exact Nat.zero_le _
  · exact hroom

end Sys2Proof.Machine
end

section
/-! The Sender's operations keep every invariant (spec/04_contention_sending_and_receipts.md), and what each of them
reaches: `SenderSide` for those that reach the Sender, the compositions and the store's requests alone, `Apart` for those
that leave the mechanism of the station as it stands. -/
namespace Sys2Proof.Machine

/-! ### What an operation reaches -/

/-- The mechanism stands: the identity, attend mode and power, the keys, the printer, the pacer, the supply, the punch but
for its leader count, and the tests. The writers of records and the Sender leave it so. -/
structure Apart (s t : State) : Prop where
  powered : t.powered = s.powered
  straps : t.straps = s.straps
  answer : t.answer = s.answer
  keys : t.keys = s.keys
  printer : t.printer = s.printer
  pacer : t.pacer = s.pacer
  arb : t.arb = s.arb
  punch : t.punch = { s.punch with leader := t.punch.leader }
  diag : t.diag = { s.diag with
    latched := t.diag.latched, again := t.diag.again, errorTotal := t.diag.errorTotal }

/-- Everything of the mechanism. -/
def State.station (s : State) :=
  (s.powered, s.straps, s.answer, s.keys, s.printer, s.pacer, s.arb, { s.punch with leader := 0 },
    { s.diag with latched := [], again := [], errorTotal := 0 })

theorem Apart.same {s t : State} (h : t.station = s.station) : Apart s t := by
  simp only [State.station, Prod.mk.injEq] at h
  obtain ⟨hpowered, hstraps, hanswer, hkeys, hprinter, hpacer, harb, hpunch, hdiag⟩ := h
  exact ⟨hpowered, hstraps, hanswer, hkeys, hprinter, hpacer, harb,
    (congrArg (fun p : Punch => { p with leader := t.punch.leader }) hpunch :),
    (congrArg (fun d : Diag => { d with latched := t.diag.latched, again := t.diag.again, errorTotal := t.diag.errorTotal }) hdiag :)⟩

theorem Apart.refl (s : State) : Apart s s := .same rfl

theorem Apart.trans {s t u : State} (h : Apart s t) (k : Apart t u) : Apart s u where
  powered := k.powered.trans h.powered
  straps := k.straps.trans h.straps
  answer := k.answer.trans h.answer
  keys := k.keys.trans h.keys
  printer := k.printer.trans h.printer
  pacer := k.pacer.trans h.pacer
  arb := k.arb.trans h.arb
  punch := k.punch.trans (by rw [h.punch])
  diag := k.diag.trans (by rw [h.diag])

theorem Apart.idleSince {s t : State} (h : Apart s t) : t.diag.idleSince = s.diag.idleSince :=
  (congrArg Diag.idleSince h.diag :)

theorem SpaceSteps.apart {s t : State} (h : SpaceSteps s t) : Apart s t where
  powered := (congrArg State.powered h.frame :)
  straps := (congrArg State.straps h.frame :)
  answer := (congrArg State.answer h.frame :)
  keys := (congrArg State.keys h.frame :)
  printer := (congrArg State.printer h.frame :)
  pacer := (congrArg State.pacer h.frame :)
  arb := (congrArg State.arb h.frame :)
  punch := by rw [h.frame]
  diag := by rw [h.frame]

/-- An operation of the Sender that leaves the line, the Block Receiver, the records and the mechanism alone. -/
structure SenderSide (s t : State) : Prop where
  frame : t = { s with
    bells := t.bells
    sender := t.sender
    store := { s.store with requests := t.store.requests }
    interp := { s.interp with comps := t.interp.comps }
    diag := { s.diag with latched := t.diag.latched, again := t.diag.again } } := by rfl
  replies : s.sender.replies.length ≤ maxReplies → t.sender.replies.length ≤ maxReplies := by exact id
  generator : t.sender.generator = s.sender.generator := by rfl
  comps : s.CompsInBounds → t.CompsInBounds := by exact State.CompsInBounds.congr rfl
  latched : ∀ e ∈ s.diag.latched, e ∈ t.diag.latched := by exact fun _ h => h

theorem SenderSide.same {s t : State} (hframe : t = { s with
    bells := t.bells
    sender := t.sender
    store := { s.store with requests := t.store.requests }
    interp := { s.interp with comps := t.interp.comps }
    diag := { s.diag with latched := t.diag.latched, again := t.diag.again } })
    (hsame : (t.sender.replies, t.sender.generator, t.interp.comps, t.diag.latched) =
      (s.sender.replies, s.sender.generator, s.interp.comps, s.diag.latched)) : SenderSide s t := by
  simp only [Prod.mk.injEq] at hsame
  obtain ⟨hreplies, hgenerator, hcomps, hlatched⟩ := hsame
  exact ⟨hframe, fun h => hreplies ▸ h, hgenerator, State.CompsInBounds.congr hcomps, fun _ he => hlatched ▸ he⟩

theorem SenderSide.refl (s : State) : SenderSide s s := .same rfl rfl

theorem SenderSide.trans {s t u : State} (h : SenderSide s t) (k : SenderSide t u) : SenderSide s u where
  frame := k.frame.trans (by rw [h.frame])
  replies := k.replies ∘ h.replies
  generator := k.generator.trans h.generator
  comps := k.comps ∘ h.comps
  latched e he := k.latched e (h.latched e he)

theorem SenderSide.recv {s t : State} (h : SenderSide s t) : t.recv = s.recv := (congrArg State.recv h.frame :)

theorem SenderSide.recs {s t : State} (h : SenderSide s t) : t.store.recs = s.store.recs :=
  (congrArg (fun u => u.store.recs) h.frame :)

theorem SenderSide.apart {s t : State} (h : SenderSide s t) : Apart s t where
  powered := (congrArg State.powered h.frame :)
  straps := (congrArg State.straps h.frame :)
  answer := (congrArg State.answer h.frame :)
  keys := (congrArg State.keys h.frame :)
  printer := (congrArg State.printer h.frame :)
  pacer := (congrArg State.pacer h.frame :)
  arb := (congrArg State.arb h.frame :)
  punch := by rw [h.frame]
  diag := by rw [h.frame]

theorem SenderSide.keeps {s t : State} (h : SenderSide s t) : Keeps s t := by
  have hf := h.frame
  have hcounters : s.CountersInRange → t.CountersInRange := fun hc => by
    have hk : State.CountersInRange { s with sender := t.sender } :=
      { hc with replies := h.replies hc.replies, generator := h.generator ▸ hc.generator }
    rw [hf]
    exact State.CountersInRange.congr (s := { s with sender := t.sender }) rfl rfl rfl rfl rfl rfl rfl rfl rfl rfl hk
  refine { comps := h.comps, counters := hcounters, latched := h.latched, memory := ?_, shape := ?_, keys := ?_,
           records := ?_, print := ?_, punch := ?_, straps := h.apart.straps, identity := ?_, printerFault := ?_,
           punchFault := ?_ }
  all_goals rw [hf]
  · exact State.memoryCanonical.congr rfl
  · exact State.StoreShape.congr rfl rfl rfl rfl rfl
  · exact State.KeysInRange.congr rfl
  · exact State.RecordsInRange.congr rfl
  · exact State.PrintInRange.congr rfl rfl rfl rfl rfl
  · exact State.PunchInRange.congr rfl rfl rfl rfl
  · exact State.IdentityLocked.congr rfl rfl rfl
  · exact State.PrinterFaulted.congr rfl rfl
  · exact State.PunchFaulted.congr rfl rfl

/-! ### The compositions -/

/-- `c'` is `c` in another state, open only if `c` was (R124). -/
structure Comp.Restated (c c' : Comp) : Prop where
  dests : c'.dests = c.dests := by rfl
  digit : c'.pendingDigit = c.pendingDigit := by rfl
  text : c'.text = c.text := by rfl
  yields : c.yields ≤ 3 → c'.yields ≤ 3 := by exact id
  isOpen : c'.isOpen = true → c.isOpen = true

theorem Comp.Restated.refl (c : Comp) : c.Restated c := { isOpen := id }

theorem Comp.Restated.inRange {c c' : Comp} (h : c.Restated c') (hc : c.InRange) : c'.InRange := by
  constructor
  · rw [h.dests]; exact hc.number
  · rw [h.dests]; exact hc.noRepeat
  · rw [h.digit]; exact hc.digit
  · rw [h.dests, h.digit]; exact hc.digitRoom
  · exact h.yields hc.yields

theorem length_filter_map_le {α : Type} {p : α → Bool} {f : α → α} (h : ∀ x, p (f x) = true → p x = true)
    (l : List α) : ((l.map f).filter p).length ≤ (l.filter p).length := by
  rw [← List.countP_eq_length_filter, ← List.countP_eq_length_filter, List.countP_map]
  exact List.countP_mono_left fun x _ hx => h x hx

/-- Compositions in other states, none of them opened (R124). -/
theorem State.CompsInBounds.map {s t : State} {f : Comp → Comp} (hf : ∀ c : Comp, c.Restated (f c))
    (ht : t.interp.comps = s.interp.comps.map f) (h : s.CompsInBounds) : t.CompsInBounds where
  number := by rw [ht, List.length_map]; exact h.number
  oneOpen := by rw [ht]; exact Nat.le_trans (length_filter_map_le (fun c => (hf c).isOpen) _) h.oneOpen
  cells := by
    rw [Interp.usedCells, ht, List.map_map, show Comp.cells ∘ f = Comp.cells from
      funext fun c => by simp [Comp.cells, Comp.codes, (hf c).text]]
    exact h.cells
  fields := by
    rw [ht]
    intro c hc
    obtain ⟨x, hx, rfl⟩ := List.mem_map.mp hc
    exact (hf x).inRange (h.fields x hx)

/-- Compositions removed (R79, R134). -/
theorem State.CompsInBounds.sublist {s t : State} (ht : t.interp.comps.Sublist s.interp.comps)
    (h : s.CompsInBounds) : t.CompsInBounds where
  number := Nat.le_trans ht.length_le h.number
  oneOpen := Nat.le_trans (ht.filter _).length_le h.oneOpen
  cells := Nat.le_trans (sum_le_of_sublist (ht.map Comp.cells)) h.cells
  fields c hc := h.fields c (ht.subset hc)

theorem State.CompsInBounds.onSending {s t : State} {f : Comp → Comp}
    (hf : ∀ c : Comp, c.state = .sending → c.Restated (f c)) (ht : t.interp = s.interp.onSending f)
    (h : s.CompsInBounds) : t.CompsInBounds := by
  refine h.map (f := fun c => if c.state == .sending then f c else c) (fun c => ?_) (by rw [ht]; rfl)
  split
  · rename_i hc
    exact hf c (by simpa using hc)
  · exact Comp.Restated.refl c

/-! ### Source and span -/

theorem State.bell_side (s : State) : SenderSide s s.bell := .same (by rfl) (by rfl)

theorem State.latch_side (s : State) (e : Event) : SenderSide s (s.latch e) :=
  { latched := (s.latch_keeps e).latched }

theorem State.chooseNext_side (s : State) : SenderSide s s.chooseNext := by
  obtain ⟨r, hr, hreplies, -, -, -, -, -, -, hgenerator, -⟩ := s.chooseNext_frame
  rw [hr]
  exact { replies := fun h => le_of_eq_of_le (congrArg List.length hreplies) h, generator := hgenerator }

theorem State.workAppears_side (s : State) : SenderSide s s.workAppears := by
  unfold State.workAppears
  split
  · exact s.chooseNext_side
  · exact SenderSide.refl s

/-- A span begun changes the Sender's span and draw alone. -/
theorem State.beginSpan_frame (s : State) : ∃ span draw, s.beginSpan = { s with sender := { s.sender with
    span := span, draw := draw, spanReached := false } } := by
  unfold State.beginSpan State.startSpan
  split
  · split <;> exact ⟨_, _, rfl⟩
  · exact ⟨_, _, rfl⟩

theorem State.beginSpan_side (s : State) : SenderSide s s.beginSpan := by
  obtain ⟨span, draw, h⟩ := s.beginSpan_frame
  rw [h]
  exact .same (by rfl) (by rfl)

theorem State.checkStarting_keeps (s : State) : Keeps s s.checkStarting := by
  unfold State.checkStarting
  split
  · exact Keeps.trans (.same (by rfl)) (State.workAppears_side _).keeps
  · exact Keeps.refl s

/-! ### Line condition reports -/

theorem State.becomeQuiet_keeps (s : State) : Keeps s s.becomeQuiet := by
  unfold State.becomeQuiet
  dsimp only
  split
  · exact Keeps.trans (.same (by rfl)) (State.chooseNext_side _).keeps
  · exact .same (by rfl)

theorem State.leaveQuiet_keeps (s : State) (c : LineCondition) : Keeps s (s.leaveQuiet c) := by
  unfold State.leaveQuiet
  dsimp only
  split
  · exact { counters := fun h => { h with } }
  · exact .same (by rfl)

/-! ### The beginning of a block -/

theorem State.beginBlock_keeps (s : State) (header block : List Code) : Keeps s (s.beginBlock header block) := by
  refine { comps := State.CompsInBounds.map (fun c => ?_) rfl, counters := fun h => { h with } }
  split
  · exact { isOpen := fun h => by simp [Comp.isOpen] at h }
  · exact Comp.Restated.refl c

theorem State.orderStart_keeps (s : State) (lastMark : Bool) : Keeps s (s.orderStart lastMark) := by
  obtain ⟨-, h⟩ | ⟨-, -, h⟩ | ⟨-, header, block, -, h⟩ := s.orderStart_cases lastMark <;> rw [h]
  · exact { counters := fun h => { h with } }
  · exact s.reach_keeps _
  · exact (s.reach_keeps _).trans (State.beginBlock_keeps _ _ _)

theorem State.spanComplete_keeps (s : State) (lastMark : Bool) : Keeps s (s.spanComplete lastMark) := by
  unfold State.spanComplete
  split
  · exact { counters := fun h => { h with } }
  · exact s.orderStart_keeps lastMark

theorem State.startAfterCycle_keeps (s : State) (lastMark : Bool) : Keeps s (s.startAfterCycle lastMark) := by
  unfold State.startAfterCycle
  split
  · exact s.orderStart_keeps lastMark
  · exact Keeps.refl s

/-! ### The ends of a block -/

theorem length_tail_le_of_le {α : Type} {l : List α} {n : Nat} (h : l.length ≤ n) : l.tail.length ≤ n :=
  Nat.le_trans (List.tail_sublist l).length_le h

theorem State.cutBlock_side (s : State) : SenderSide s s.cutBlock := by
  refine { replies := fun h => ?_, comps := State.CompsInBounds.onSending (fun c _ => ?_) rfl }
  · show (if s.sender.source == .reply then s.sender.replies.tail else s.sender.replies).length ≤ maxReplies
    split
    · exact length_tail_le_of_le h
    · exact h
  · exact { isOpen := fun h => by simp [Comp.isOpen] at h }

theorem State.finishComp_side (s : State) (i : Nat) : SenderSide s (s.finishComp i) := by
  unfold State.finishComp
  split
  · exact SenderSide.refl s
  · split
    · exact { comps := State.CompsInBounds.onSending (fun c _ =>
        { isOpen := fun h => by simp [Comp.isOpen] at h }) rfl }
    · exact { comps := State.CompsInBounds.sublist List.filter_sublist }

/-- What the end of a block settles of its source before the Sender chooses again (R73, R76). -/
def State.settleSource (s : State) (i : Nat) : State :=
  if s.sender.source == .reply then { s with sender := { s.sender with replies := s.sender.replies.tail } }
  else s.finishComp i

theorem State.settleSource_side (s : State) (i : Nat) : SenderSide s (s.settleSource i) := by
  unfold State.settleSource
  split
  · exact { replies := length_tail_le_of_le }
  · exact s.finishComp_side i

theorem State.finishBlock_eq (s : State) (i : Nat) : s.finishBlock i =
    ({ s.settleSource i with sender := (s.settleSource i).sender.setCourtesy.noBlock } : State).chooseNext := rfl

theorem State.finishBlock_side (s : State) (i : Nat) : SenderSide s (s.finishBlock i) := by
  rw [State.finishBlock_eq]
  refine (s.settleSource_side i).trans (SenderSide.trans ?_ (State.chooseNext_side _))
  exact .same (by rfl) (by rfl)

theorem State.takeBreak_keeps (s : State) : Keeps s s.takeBreak := by
  have hcut : Keeps s (if s.sender.state == .sending then s.cutBlock else s) := by
    split
    · exact s.cutBlock_side.keeps
    · exact Keeps.refl s
  exact hcut.trans { counters := fun h => { h with } }

/-! ### Replies and the receipt watch -/

theorem State.requestConfirm_side (s : State) (d : Station) (l : Option Letter) :
    SenderSide s (s.requestConfirm d l) := by
  unfold State.requestConfirm
  split
  · exact s.bell_side
  · exact .same (by rfl) (by rfl)

theorem State.addReply_side (s : State) (r : Reply) : SenderSide s (s.addReply r) := by
  unfold State.addReply
  split
  · exact s.latch_side _
  · rename_i hroom
    have hadd : SenderSide s { s with sender := { s.sender with replies := s.sender.replies ++ [r] } } :=
      { replies := fun _ => by rw [List.length_append]; exact Nat.lt_of_not_le hroom }
    dsimp only
    split
    · exact hadd.trans (State.workAppears_side _)
    · split
      · exact hadd
      · exact hadd.trans (SenderSide.trans (.same (by rfl) (by rfl)) (State.beginSpan_side _))
    · exact hadd
    · exact hadd

theorem State.settleWatch_side (s : State) (d : Station) (l : Option Letter) : SenderSide s (s.settleWatch d l) := by
  unfold State.settleWatch
  have hbell : SenderSide s (if l == some .k then s else s.bell) := by
    split
    · exact SenderSide.refl s
    · exact s.bell_side
  refine (hbell.trans (State.requestConfirm_side _ d l)).trans (SenderSide.trans ?_ (State.workAppears_side _))
  exact { comps := State.CompsInBounds.sublist List.filter_sublist }

theorem State.receiptHeard_side (s : State) (d : Station) (l : Letter) : SenderSide s (s.receiptHeard d l) := by
  unfold State.receiptHeard
  split
  · exact SenderSide.refl s
  · split
    · exact s.settleWatch_side _ _
    · exact SenderSide.refl s

end Sys2Proof.Machine
end

section
/-! The Block Receiver's operations keep every invariant (spec/03_blocks_and_selection.md) and leave the mechanism of the
station apart: `Written s t` says both, of whatever writes a record or moves the parser. -/
namespace Sys2Proof.Machine

/-- A writer's operation: every invariant kept, the mechanism apart. -/
structure Written (s t : State) : Prop where
  keeps : Keeps s t
  apart : Apart s t

/-- Nothing changed that an invariant or the mechanism reads. -/
theorem Written.same {s t : State} (h : (t.core, t.station) = (s.core, s.station)) : Written s t :=
  ⟨.same (congrArg Prod.fst h :), .same (congrArg Prod.snd h :)⟩

theorem Written.refl (s : State) : Written s s := .same rfl

theorem Written.trans {s t u : State} (h : Written s t) (k : Written t u) : Written s u :=
  ⟨h.keeps.trans k.keeps, h.apart.trans k.apart⟩

theorem Written.ite {s t u : State} {p : Prop} [Decidable p] (ht : Written s t) (hu : Written s u) :
    Written s (if p then t else u) := by
  split
  · exact ht
  · exact hu

theorem SenderSide.written {s t : State} (h : SenderSide s t) : Written s t := ⟨h.keeps, h.apart⟩

/-! ### The writers of records -/

theorem State.latch_written (s : State) (e : Event) : Written s (s.latch e) := (s.latch_side e).written

theorem State.makeRoom_written (met : Store → Bool) (n : Nat) (s : State) : Written s (s.makeRoom met n) :=
  ⟨s.makeRoom_keeps met n, (State.makeRoom_spaceSteps met n s).1.apart⟩

theorem State.reportError_written (s : State) : Written s s.reportError := ⟨s.reportError_keeps, .same (by rfl)⟩

theorem State.append_written (s : State) (c : Code) : Written s (s.append c) := by
  have hapart : Apart s (s.append c) := by
    rcases s.append_cases c with ⟨-, e⟩ | ⟨r, -, ⟨-, e⟩ | ⟨-, t, k, ⟨-, e⟩ | ⟨-, e⟩⟩⟩
    · rw [e]; exact Apart.refl s
    · rw [e]; exact .same (by rfl)
    · rw [e]; exact k.apart.trans (.same (by rfl))
    · rw [e]; exact k.apart.trans (.same (by rfl))
  exact ⟨s.append_keeps c, hapart⟩

theorem State.appendAll_written (s : State) (cs : List Code) : Written s (s.appendAll cs) := by
  induction cs generalizing s with
  | nil => exact Written.refl s
  | cons c cs ih => exact (s.append_written c).trans (ih _)

theorem State.splitLocal_written (s : State) : Written s s.splitLocal := by
  refine ⟨s.splitLocal_keeps, ?_⟩
  unfold State.splitLocal
  split
  · exact .same (by rfl)
  · exact Apart.refl s

theorem State.writeGenerated_written {s : State} (k : RecKind) (text : List Code)
    (hclosed : ∀ x ∈ s.store.recs, x.isOpen = false) : Written s (s.writeGenerated k text).1 := by
  have hapart : Apart s (s.writeGenerated k text).1 := by
    obtain ⟨t, ht, ⟨-, -, e⟩ | ⟨-, e⟩⟩ := s.writeGenerated_cases k text <;> rw [e]
    · exact ht.apart.trans (.same (by rfl))
    · exact ht.apart
  exact ⟨State.writeGenerated_keeps k text hclosed, hapart⟩

/-! ### The Receiver's own items -/

/-- A Receiver that has a block record OPEN exactly when it had, and none in a header. -/
theorem State.setRecv_written (s : State) (r : Receiver)
    (hopen : s.StoreShape → ((r.parser = .text ∧ r.recordStatus = .opened) ↔
      (s.recv.parser = .text ∧ s.recv.recordStatus = .opened)))
    (hheader : s.StoreShape → r.parser = .dests ∨ r.parser = .sender ∨ r.parser = .kind →
      r.recordStatus = .none) : Written s { s with recv := r } :=
  ⟨{ shape := fun hs =>
      { hs with blockRecord := hs.blockRecord.trans (hopen hs).symm, headerRecord := hheader hs } }, .same (by rfl)⟩

/-- Outside TEXT the parser moves freely to a state with no record, or to a header state from a header state. -/
theorem State.parser_written {s : State} {r : Receiver} (hs : s.recv.parser ≠ .text) (hr : r.parser ≠ .text)
    (hheader : r.parser = .dests ∨ r.parser = .sender ∨ r.parser = .kind → r.recordStatus = .none ∨
      r.recordStatus = s.recv.recordStatus ∧
        (s.recv.parser = .dests ∨ s.recv.parser = .sender ∨ s.recv.parser = .kind)) :
    Written s { s with recv := r } := by
  refine s.setRecv_written r (fun _ => ?_) fun hshape h => ?_
  · exact ⟨fun h => absurd h.1 hr, fun h => absurd h.1 hs⟩
  · obtain h | ⟨h, hp⟩ := hheader h
    · exact h
    · exact h.trans (hshape.headerRecord hp)

theorem State.takeCall_written {s : State} (hs : s.recv.parser ≠ .text) : Written s s.takeCall :=
  State.parser_written hs (by simp) fun _ => .inl rfl

theorem State.parserIdle_written {s : State} (hs : s.recv.parser ≠ .text) : Written s s.parserIdle :=
  State.parser_written hs (by simp) (by simp)

theorem State.parserSkip_written {s : State} (hs : s.recv.parser ≠ .text) : Written s (s.parserTo .skip) :=
  State.parser_written hs (by simp) (by simp)

theorem State.otherHeaderChar_written {s : State} (hs : s.recv.parser ≠ .text) (c : Code) :
    Written s (s.otherHeaderChar c) := by
  unfold State.otherHeaderChar
  split
  · exact State.takeCall_written hs
  · split
    · exact State.parserIdle_written hs
    · split
      · exact Written.refl s
      · exact State.parserSkip_written hs

theorem State.takeDest_written {s : State} (hs : s.recv.parser = .dests) (c : Code) : Written s (s.takeDest c) := by
  have hne : s.recv.parser ≠ .text := by rw [hs]; decide
  unfold State.takeDest
  split
  · split
    · exact State.parserSkip_written hne
    · exact State.parser_written hne (by simp) fun _ => .inr ⟨rfl, .inl hs⟩
  · split
    · exact State.setRecv_written s _ (fun _ => Iff.rfl) fun h => h.headerRecord
    · exact State.otherHeaderChar_written hne c

theorem State.takeSender_written {s : State} (hs : s.recv.parser = .sender) (c : Code) :
    Written s (s.takeSender c) := by
  have hne : s.recv.parser ≠ .text := by rw [hs]; decide
  unfold State.takeSender
  split
  · exact State.parser_written hne (show Parser.kind ≠ .text by decide) fun _ => .inr ⟨rfl, .inr (.inl hs)⟩
  · exact State.otherHeaderChar_written hne c

/-! ### The kind character -/

theorem State.makeRoom_setRecv (met : Store → Bool) (n : Nat) (s : State) (r : Receiver) :
    ({ s with recv := r } : State).makeRoom met n = { s.makeRoom met n with recv := r } := by
  induction n generalizing s with
  | zero => rfl
  | succ n ih =>
    unfold State.makeRoom
    have hrel : ({ s with recv := r } : State).headReleasable = s.headReleasable := rfl
    rw [hrel]
    by_cases hm : met s.store = true
    · rw [if_pos hm, if_pos hm]
    · rw [if_neg hm, if_neg hm]
      by_cases hh : s.headReleasable = true
      · rw [if_pos hh, if_pos hh]
        exact ih s.releaseHead
      · rw [if_neg hh, if_neg hh]

theorem State.openRecord_setRecv (s : State) (r : Receiver) (k : RecKind) (peer : Option Station) :
    ({ s with recv := r } : State).openRecord k peer =
      ({ (s.openRecord k peer).1 with recv := r }, (s.openRecord k peer).2) := by
  unfold State.openRecord State.roomForRec
  rw [State.makeRoom_setRecv]
  dsimp only
  split <;> rfl

theorem State.splitLocal_setRecv (s : State) (r : Receiver) :
    ({ s with recv := r } : State).splitLocal = { s.splitLocal with recv := r } := by
  unfold State.splitLocal
  dsimp only
  split <;> rfl

theorem State.splitLocal_recv (s : State) : s.splitLocal.recv = s.recv := by
  unfold State.splitLocal
  split <;> rfl

theorem SpaceSteps.recv {s t : State} (h : SpaceSteps s t) : t.recv = s.recv :=
  (congrArg State.recv h.frame :)

theorem SpaceSteps.interp {s t : State} (h : SpaceSteps s t) : t.interp = s.interp :=
  (congrArg State.interp h.frame :)

theorem SpaceSteps.localOpen {s t : State} (h : SpaceSteps s t) : t.store.localOpen = s.store.localOpen := by
  obtain ⟨n, hn, hn'⟩ := h.recs
  rw [Store.localOpen, hn, any_drop_of_not_take fun r hr => by simp [Rec.isOpenLocal, hn' r hr]]
  rfl

/-- A block record asked for at the kind character: nothing is OPEN then, a LOCAL record closed SPLIT first
(R6, R48). -/
theorem State.openBlock_written {s : State} (hs : s.recv.parser = .kind) {k : RecKind} (hk : k ≠ .localTyping)
    (peer : Option Station) {r : Receiver} (hr : r.parser = .text) :
    Written s { (s.splitLocal.openRecord k peer).1 with recv := { r with
      recordStatus := if (s.splitLocal.openRecord k peer).2 then .opened else .noRecord } } := by
  refine s.splitLocal_written.trans ?_
  have hlocal := s.splitLocal_localOpen
  have hparser : s.splitLocal.recv.parser = .kind := by rw [s.splitLocal_recv]; exact hs
  generalize s.splitLocal = u at hlocal hparser
  have hblock : u.StoreShape → u.store.blockOpen = false := fun h => Bool.eq_false_iff.mpr fun hb => by
    have := (h.blockRecord.mp hb).1
    rw [hparser] at this
    cases this
  have hroom : Written u u.roomForRec := u.makeRoom_written _ _
  have hsteps := (State.makeRoom_spaceSteps (fun st => 0 < st.freeRecs) maxRecords u).1
  have hlocal' := hsteps.localOpen.trans hlocal
  have hparser' : u.roomForRec.recv.parser = .kind := by rw [State.roomForRec, hsteps.recv]; exact hparser
  by_cases hfree : 0 < u.roomForRec.store.freeRecs
  · rw [show u.openRecord k peer = (u.roomForRec.addRec k peer, true) by simp [State.openRecord, hfree]]
    refine hroom.trans ⟨State.addRec_keeps u.roomForRec k peer { r with recordStatus := .opened } u.roomForRec.interp
      (fun h => ?_) hfree (fun _ => ⟨fun _ => ⟨hr, rfl⟩, fun _ => hk⟩) (fun _ h => ?_) (fun h => ?_) rfl rfl, (.same (by rfl))⟩
    · refine Store.closed_of_not_open (Bool.eq_false_iff.mpr fun hb => ?_) hlocal'
      have := (h.blockRecord.mp hb).1
      rw [hparser'] at this
      cases this
    · rw [show ({ r with recordStatus := .opened } : Receiver).parser = .text from hr] at h
      exact absurd h (by decide)
    · rw [h.localRecord]
      exact hlocal'.trans (decide_eq_false hk).symm
  · rw [show u.openRecord k peer = (u.roomForRec.latch .storeFull, false) by simp [State.openRecord, hfree]]
    refine hroom.trans ((State.latch_written _ .storeFull).trans (State.setRecv_written _ _ (fun _ => ?_) fun _ h => ?_))
    · exact ⟨fun h => absurd h.2 (by simp), fun h => by rw [State.latch_recv, hparser'] at h; cases h.1⟩
    · rw [show ({ r with recordStatus := .noRecord } : Receiver).parser = .text from hr] at h
      exact absurd h (by decide)

/-- A disposition that calls for a record names no LOCAL one (R47). -/
theorem State.dispositionOf_recorded {s : State} {b : BlockKind} {k : RecKind}
    (h : s.dispositionOf b = .recorded k) : k ≠ .localTyping := by
  rintro rfl
  unfold State.dispositionOf at h
  cases b <;> dsimp only at h <;> repeat' split at h
  all_goals cases h

theorem State.takeKindOf_written {s : State} (hs : s.recv.parser = .kind) (b : BlockKind) :
    Written s (s.takeKindOf b) := by
  unfold State.takeKindOf
  have hlatch : Written s (if s.ownCodeHeard && s.sender.state != .sending then s.latch .duplicateCode else s) ∧
      (if s.ownCodeHeard && s.sender.state != .sending then s.latch .duplicateCode else s).recv = s.recv := by
    split
    · exact ⟨s.latch_written _, rfl⟩
    · exact ⟨Written.refl s, rfl⟩
  obtain ⟨hlatch, hrecv⟩ := hlatch
  refine hlatch.trans ?_
  generalize (if s.ownCodeHeard && s.sender.state != .sending then s.latch .duplicateCode else s) = u at hrecv
  have hu : u.recv.parser = .kind := by rw [hrecv]; exact hs
  dsimp only
  generalize hd : s.dispositionOf b = d
  have hnone : Written u { u with recv := { u.recv with
      parser := .text, kind := some b, disposition := d, contentCount := 0, contentError := false,
      firstContent := none, held := none } } := by
    refine u.setRecv_written _ (fun h => ?_) (by simp)
    rw [hu]
    simp [h.headerRecord (.inr (.inr hu))]
  cases d with
  | recorded k =>
    unfold State.askRecord
    dsimp only
    rw [State.splitLocal_setRecv, State.openRecord_setRecv]
    exact State.openBlock_written hu (State.dispositionOf_recorded hd) _ rfl
  | undecided => exact hnone
  | passedOver => exact hnone
  | identityQuery => exact hnone
  | candidateReceipt => exact hnone

theorem State.takeKind_written {s : State} (hs : s.recv.parser = .kind) (c : Code) : Written s (s.takeKind c) := by
  unfold State.takeKind
  split
  · exact State.takeKindOf_written hs _
  · exact State.otherHeaderChar_written (by rw [hs]; decide) c

/-! ### Content -/

/-- What the Receiver holds of a block's content says nothing of its record. -/
theorem State.setContent_written (s : State) (r : Receiver) (hparser : r.parser = s.recv.parser)
    (hstatus : r.recordStatus = s.recv.recordStatus) : Written s { s with recv := r } :=
  s.setRecv_written r (fun _ => by rw [hparser, hstatus]) fun h => by rw [hparser, hstatus]; exact h.headerRecord

theorem State.storeContent_written (s : State) (c : Code) : Written s (s.storeContent c) := by
  unfold State.storeContent
  split
  · exact Written.refl s
  · split
    · dsimp only
      split
      · exact (s.append_written _).trans (State.setContent_written _ _ rfl rfl)
      · exact State.setContent_written _ _ rfl rfl
    · exact s.append_written c

theorem State.takeContentAs_written (s : State) (c : Code) (isError : Bool) :
    Written s (s.takeContentAs c isError) := by
  unfold State.takeContentAs
  refine (State.setContent_written s { s.recv with
    contentCount := satSucc 65535 s.recv.contentCount
    contentError := s.recv.contentError || isError
    firstContent := if s.recv.firstContent.isNone then some c else s.recv.firstContent } rfl rfl).trans ?_
  exact (Written.ite (State.reportError_written _) (Written.refl _)).trans (State.storeContent_written _ c)

/-! ### The close -/

theorem State.append_recv (s : State) (c : Code) : (s.append c).recv = s.recv := by
  rcases s.append_cases c with ⟨-, e⟩ | ⟨r, -, ⟨-, e⟩ | ⟨-, t, k, ⟨-, e⟩ | ⟨-, e⟩⟩⟩ <;> rw [e]
  · exact k.recv
  · exact k.recv

/-- The held character stored or not, the parser and the record's status stand. -/
theorem State.appendHeld_recv (s : State) (reason : EndReason) : (s.appendHeld reason).recv.parser = s.recv.parser ∧
    (s.appendHeld reason).recv.recordStatus = s.recv.recordStatus := by
  unfold State.appendHeld
  split
  · exact ⟨rfl, rfl⟩
  · dsimp only
    split <;> simp [State.append_recv]

theorem State.appendHeld_written (s : State) (reason : EndReason) : Written s (s.appendHeld reason) := by
  unfold State.appendHeld
  split
  · exact Written.refl s
  · dsimp only
    split
    · exact ((s.append_written _).trans (State.append_written _ _)).trans
        (State.setContent_written _ _ (by simp [State.append_recv]) (by simp [State.append_recv]))
    · exact (s.append_written _).trans
        (State.setContent_written _ _ (by simp [State.append_recv]) (by simp [State.append_recv]))

theorem State.closeDuties_side (s : State) : SenderSide s s.closeDuties := by
  unfold State.closeDuties
  split
  · exact SenderSide.refl s
  · split
    · split
      · exact s.addReply_side _
      · exact SenderSide.refl s
    · split
      · exact s.addReply_side _
      · exact SenderSide.refl s
    · split
      · exact s.receiptHeard_side _ _
      · exact SenderSide.refl s
    all_goals exact SenderSide.refl s

/-- The Sender's operations do not read what the Receiver holds, so the parser may move before them. -/
theorem SenderSide.setRecv {s t : State} (h : SenderSide s t) (r : Receiver) :
    SenderSide { s with recv := r } { t with recv := r } where
  frame := by rw [h.frame]
  replies := h.replies
  generator := h.generator
  comps := fun hs =>
    State.CompsInBounds.congr (s := t) rfl (h.comps (State.CompsInBounds.congr (s := { s with recv := r }) rfl hs))
  latched := h.latched

/-- The close of the OPEN record and the parser in IDLE together keep the store's shape. -/
theorem State.closeRecordIdle_written (s : State) (reason : EndReason) (hs : s.recv.parser = .text) {r : Receiver}
    (hr : r.parser = .idle) : Written s { s.closeRecord reason with recv := r } ∨ s.recv.recordStatus ≠ .opened := by
  by_cases hopen : s.recv.recordStatus = .opened
  · refine .inl ⟨s.closeRecord_keeps reason r s.interp (fun _ => ?_) (fun h => ?_) rfl rfl, (.same (by rfl))⟩
    · rw [hr]
      exact ⟨fun h => absurd h.1 (by decide), fun h => absurd h (by decide)⟩
    · exact h.localRecord.trans (h.recsShape.localOpen_of_blockOpen (h.blockRecord.mpr ⟨hs, hopen⟩))
  · exact .inr hopen

theorem State.closeBlock_written {s : State} (hs : s.recv.parser = .text) (reason : EndReason) :
    Written s (s.closeBlock reason) := by
  unfold State.closeBlock
  have hheld := s.appendHeld_written reason
  have hparser := (s.appendHeld_recv reason).1.trans hs
  refine hheld.trans ?_
  generalize s.appendHeld reason = u at hparser
  dsimp only
  have hduties : ∀ v : State, SenderSide v (if reason = .complete then v.closeDuties else v) := fun v => by
    split
    · exact v.closeDuties_side
    · exact SenderSide.refl v
  by_cases hopen : (u.recv.recordStatus == .opened) = true
  · rw [if_pos hopen]
    have hside := hduties (u.closeRecord reason)
    refine Written.trans ?_ (hside.setRecv _).written
    refine (u.closeRecordIdle_written reason hparser rfl).resolve_right fun h => h (by simpa using hopen)
  · rw [if_neg hopen]
    refine (hduties u).written.trans (State.setRecv_written _ _ (fun _ => ?_) (by simp))
    rw [(hduties u).recv]
    exact ⟨fun h => by simp at h, fun h => absurd h.2 (by simpa using hopen)⟩

theorem State.closeBlock_parser (s : State) (reason : EndReason) : (s.closeBlock reason).recv.parser = .idle := rfl

theorem State.takeText_written {s : State} (hs : s.recv.parser = .text) (c : Code) (isError : Bool) :
    Written s (s.takeText c isError) := by
  unfold State.takeText
  repeat' split
  · exact s.takeContentAs_written _ _
  · exact s.takeContentAs_written _ _
  · exact Written.refl s
  · exact State.closeBlock_written hs _
  · exact State.closeBlock_written hs _
  · exact (State.closeBlock_written hs _).trans (State.takeCall_written (by rw [State.closeBlock_parser]; decide))
  · exact s.takeContentAs_written _ _

theorem State.takeCharacter_written (s : State) (c : Code) (isError : Bool) :
    Written s (s.takeCharacter c isError) := by
  unfold State.takeCharacter
  split
  case h_1 hp =>
    split
    · exact State.takeCall_written (by rw [hp]; decide)
    · exact Written.refl s
  case h_2 hp =>
    split
    · exact State.parserSkip_written (by rw [hp]; decide)
    · exact State.takeDest_written hp c
  case h_3 hp =>
    split
    · exact State.parserSkip_written (by rw [hp]; decide)
    · exact State.takeSender_written hp c
  case h_4 hp =>
    split
    · exact State.parserSkip_written (by rw [hp]; decide)
    · exact State.takeKind_written hp c
  case h_5 hp => exact State.takeText_written hp c isError
  case h_6 hp =>
    have hne : s.recv.parser ≠ .text := by rw [hp]; decide
    repeat' split
    · exact Written.refl s
    · exact State.parserIdle_written hne
    · exact State.takeCall_written hne
    · exact Written.refl s

/-! ### Reports of the Line Interface -/

theorem State.deliver_written (s : State) (c : Code) (isError : Bool) : Written s (s.deliver c isError) := by
  unfold State.deliver
  split
  · exact Written.trans ⟨s.countError_keeps, .same (by rfl)⟩ (State.takeCharacter_written _ c isError)
  · exact s.takeCharacter_written c isError

theorem State.startReport_written (s : State) : Written s s.startReport := State.setContent_written s _ rfl rfl

theorem State.breakBegunReport_written (s : State) : Written s s.breakBegunReport := by
  unfold State.breakBegunReport
  split
  case h_1 => exact Written.refl s
  case h_6 => exact State.setContent_written s _ rfl rfl
  all_goals
    rename_i hp
    exact State.parserIdle_written (by rw [hp]; decide)

theorem State.breakEndedReport_written (s : State) : Written s s.breakEndedReport := by
  unfold State.breakEndedReport
  split
  · rename_i h
    simp only [Bool.and_eq_true, beq_iff_eq] at h
    exact State.closeBlock_written h.1 _
  · exact Written.refl s

theorem State.lineOpenReport_written (s : State) : Written s s.lineOpenReport := by
  unfold State.lineOpenReport
  split
  case h_1 => exact Written.refl s
  case h_6 hp =>
    split
    · exact State.closeBlock_written hp _
    · exact Written.refl s
  all_goals
    rename_i hp
    exact State.parserIdle_written (by rw [hp]; decide)

theorem State.stallReport_written (s : State) : Written s s.stallReport := by
  unfold State.stallReport
  split
  · rename_i h
    exact State.closeBlock_written (by simpa using h) _
  · rename_i h
    exact State.parserIdle_written (by simpa using h)

end Sys2Proof.Machine
end

section
/-! The printer's operations keep every invariant (spec/08_page_printing.md), with what they do to the print claims. -/
namespace Sys2Proof.Machine

/-! ### Claims changed in place -/

theorem mem_updateFirst {α : Type} {p : α → Bool} {f : α → α} {x : α} {l : List α}
    (h : x ∈ updateFirst p f l) : x ∈ l ∨ ∃ y, l.find? p = some y ∧ x = f y := by
  induction l with
  | nil => exact .inl h
  | cons a l ih =>
    unfold updateFirst at h
    by_cases hp : p a = true
    · rw [if_pos hp] at h
      rcases List.mem_cons.mp h with rfl | h
      · exact .inr ⟨a, List.find?_cons_of_pos hp, rfl⟩
      · exact .inl (List.mem_cons_of_mem _ h)
    · rw [if_neg hp] at h
      rcases List.mem_cons.mp h with rfl | h
      · exact .inl List.mem_cons_self
      · rcases ih h with h | ⟨y, hy, rfl⟩
        · exact .inl (List.mem_cons_of_mem _ h)
        · exact .inr ⟨y, by rw [List.find?_cons_of_neg hp]; exact hy, rfl⟩

theorem map_updateFirst {α β : Type} {p : α → Bool} {f : α → α} {g : α → β} (h : ∀ x, g (f x) = g x) (l : List α) :
    (updateFirst p f l).map g = l.map g := by
  induction l with
  | nil => rfl
  | cons a l ih =>
    unfold updateFirst
    split
    · rw [List.map_cons, List.map_cons, h]
    · rw [List.map_cons, List.map_cons, ih]

/-- Two lists, related element by element. -/
inductive Matched {α : Type} (R : α → α → Prop) : List α → List α → Prop
  | nil : Matched R [] []
  | cons {a b : α} {l l' : List α} (h : R a b) (k : Matched R l l') : Matched R (a :: l) (b :: l')

theorem Matched.same {α : Type} {R : α → α → Prop} {l : List α} (h : ∀ x ∈ l, R x x) : Matched R l l := by
  induction l with
  | nil => exact .nil
  | cons a l ih => exact .cons (h a List.mem_cons_self) (ih fun x hx => h x (List.mem_cons_of_mem _ hx))

theorem Matched.length_eq {α : Type} {R : α → α → Prop} {l l' : List α} (h : Matched R l l') : l.length = l'.length := by
  induction h with
  | nil => rfl
  | cons _ _ ih => exact congrArg Nat.succ ih

theorem matched_updateFirst {α : Type} {R : α → α → Prop} {p : α → Bool} {f : α → α} (hrefl : ∀ x, R x x)
    (hf : ∀ x, R x (f x)) (l : List α) : Matched R l (updateFirst p f l) := by
  induction l with
  | nil => exact .nil
  | cons a l ih =>
    unfold updateFirst
    split
    · exact .cons (hf a) (Matched.same fun x _ => hrefl x)
    · exact .cons (hrefl a) ih

/-- The print claims stand where nothing but punch claims changed. -/
theorem PrintClaimsKept.of_matched {l l' : List Rec}
    (h : Matched (fun r r' : Rec => r'.body = r.body ∧ r'.print = r.print) l l') : PrintClaimsKept l l' := by
  induction h with
  | nil => exact ⟨nofun, fun h => h⟩
  | @cons r r' l l' hr _ ih =>
    obtain ⟨hbody, hprint⟩ := hr
    have hlength : r'.length = r.length := (congrArg Rec.length hbody :)
    refine ⟨fun x hx => ?_, fun hp x hx => ?_⟩
    · cases hd : r.print.done with
      | true =>
        rw [List.find?_cons_of_neg (by simp [hd])] at hx
        rw [List.find?_cons_of_neg (by simp [hprint, hd])]
        exact ih.current x hx
      | false =>
        rw [List.find?_cons_of_pos (by simp [hd])] at hx
        cases hx
        have hlines : r'.endLines = r.endLines := (congrArg Rec.endLines hbody :)
        exact ⟨r', by rw [List.find?_cons_of_pos (by simp [hprint, hd])], by rw [hprint], Nat.le_of_eq hlength.symm,
          (congrArg Rec.heading hbody :), Nat.le_of_eq (congrArg List.length hlines).symm⟩
    · rcases List.mem_cons.mp hx with rfl | hx
      · rw [hprint, hlength]
        exact hp r List.mem_cons_self
      · exact ih.positions (fun y hy => hp y (List.mem_cons_of_mem _ hy)) x hx

/-- The punch claims stand where nothing but print claims changed. -/
theorem PunchClaimsKept.of_matched {l l' : List Rec}
    (h : Matched (fun r r' : Rec => r'.body = r.body ∧ r'.punch = r.punch) l l') : PunchClaimsKept l l' := by
  induction h with
  | nil => exact ⟨nofun, fun h => h⟩
  | @cons r r' l l' hr _ ih =>
    obtain ⟨hbody, hpunch⟩ := hr
    have hlength : r'.length = r.length := (congrArg Rec.length hbody :)
    have hlive : r'.punchLive = r.punchLive := by rw [Rec.punchLive, Rec.punchLive, hpunch]
    have hpos : r'.punchPos = r.punchPos := by rw [Rec.punchPos, Rec.punchPos, hpunch]
    refine ⟨fun x hx => ?_, fun hp x hx => ?_⟩
    · cases hd : r.punchLive with
      | false =>
        rw [List.find?_cons_of_neg (by simp [hd])] at hx
        rw [List.find?_cons_of_neg (by simp [hlive, hd])]
        exact ih.current x hx
      | true =>
        rw [List.find?_cons_of_pos hd] at hx
        cases hx
        exact ⟨r', by rw [List.find?_cons_of_pos (by rw [hlive, hd])], hpos, Nat.le_of_eq hlength.symm⟩
    · rcases List.mem_cons.mp hx with rfl | hx
      · rw [hpos, hlength]
        exact hp r List.mem_cons_self
      · exact ih.positions (fun y hy => hp y (List.mem_cons_of_mem _ hy)) x hx

theorem runsTo_body (l : List Rec) (w : Nat) : runsTo (l.map Rec.body) w ↔ runsTo l w := by
  induction l with
  | nil => rfl
  | cons a l ih =>
    cases l with
    | nil => rfl
    | cons b l =>
      rw [List.map_cons, List.map_cons, runsTo, runsTo, ← ih]
      rfl

/-- Claims changed in place leave the store's shape (R1, R2, R6). -/
theorem State.StoreShape.of_body {s t : State} (h : s.StoreShape)
    (hrecs : t.store.recs.map Rec.body = s.store.recs.map Rec.body) (hw : t.store.w = s.store.w)
    (hrecv : t.recv = s.recv) (hinterp : t.interp.localOpen = s.interp.localOpen) : t.StoreShape := by
  have hmem : ∀ {P : Rec → Prop} {l l' : List Rec}, l'.map Rec.body = l.map Rec.body → (∀ r ∈ l, P r.body) →
      ∀ r ∈ l', P r.body := by
    intro P l l' he hl r hr
    have hb : r.body ∈ l.map Rec.body := he ▸ List.mem_map_of_mem hr
    obtain ⟨x, hx, hxe⟩ := List.mem_map.mp hb
    rw [← hxe]
    exact hl x hx
  have hany : ∀ p : Rec → Bool, (∀ r : Rec, p r.body = p r) → t.store.recs.any p = s.store.recs.any p := fun p hp => by
    rw [← any_map_of_eq (f := Rec.body) hp, hrecs, any_map_of_eq hp]
  have hb : t.store.blockOpen = s.store.blockOpen := hany _ fun _ => rfl
  have hl : t.store.localOpen = s.store.localOpen := hany _ fun _ => rfl
  refine RecsShape.storeShape ⟨?_, ?_, hw ▸ h.position, ?_, ?_⟩ ?_ ?_ ?_
  · rw [← List.length_map (f := Rec.body), hrecs, List.length_map]; exact h.descriptors
  · have hlen : Rec.length = Rec.length ∘ Rec.body := rfl
    rw [hlen, ← List.map_map, hrecs, List.map_map, ← hlen]; exact h.used
  · rw [← runsTo_body, hrecs, runsTo_body, hw]; exact h.contiguous
  · exact hmem (P := fun r => r.isOpen = false) (by rw [List.map_dropLast, List.map_dropLast, hrecs]) h.onlyNewestOpen
  · rw [hb, hrecv]; exact h.blockRecord
  · rw [hrecv]; exact h.headerRecord
  · rw [hl, hinterp]; exact h.localRecord

theorem State.RecordsInRange.of_body {s t : State} (h : s.RecordsInRange)
    (hrecs : t.store.recs.map Rec.body = s.store.recs.map Rec.body) : t.RecordsInRange := by
  have hmem : ∀ r ∈ t.store.recs, ∃ x ∈ s.store.recs, x.body = r.body := fun r hr =>
    List.mem_map.mp (hrecs ▸ List.mem_map_of_mem hr)
  constructor <;> intro r hr <;> obtain ⟨x, hx, hxe⟩ := hmem r hr
  · rw [show r.errors = x.errors from (congrArg Rec.errors hxe.symm :)]; exact h.errors x hx
  · rw [show r.dropped = x.dropped from (congrArg Rec.dropped hxe.symm :)]; exact h.dropped x hx

/-- Reclaim keeps every invariant (R13). -/
theorem State.reclaim_keeps (s : State) : Keeps s { s with store := s.store.reclaim } := by
  obtain ⟨n, hn, hn'⟩ := dropWhile_reclaimable s.store.recs
  have hsub : ∀ x ∈ s.store.recs.dropWhile Rec.reclaimable, x ∈ s.store.recs :=
    fun x hx => (List.dropWhile_sublist _).subset hx
  refine { shape := fun hs => ?_, records := fun hr => ?_, print := fun hp => ?_, punch := fun hp => ?_ }
  · exact hs.of_drop hn hn' rfl rfl rfl
  · exact ⟨fun x hx => hr.errors x (hsub x hx), fun x hx => hr.dropped x (hsub x hx)⟩
  · exact hp.of_claimsKept (.reclaim _) rfl
  · exact hp.of_claimsKept (.reclaim _) rfl rfl rfl

theorem State.IdentityLocked.of_answer {s t : State} (h : t.answer = s.answer) (hs : s.IdentityLocked) :
    t.IdentityLocked := ⟨h ▸ hs.locked, h ▸ hs.noDraft, h ▸ hs.noCycle⟩

/-- The current print claim changed, the print ranges argued for apart. -/
theorem Keeps.onPrint {s u : State} (hu : Keeps s u) {f : Rec → Rec}
    (hf : ∀ r : Rec, (f r).body = r.body ∧ (f r).punch = r.punch)
    (hprint : s.PrintInRange → ({ u with store := u.store.onPrint f } : State).PrintInRange) :
    Keeps s { u with store := u.store.onPrint f } where
  memory := hu.memory
  shape h := (hu.shape h).of_body (map_updateFirst (fun r => (hf r).1) _) rfl rfl rfl
  counters h := State.CountersInRange.congr (s := u) rfl rfl rfl rfl rfl rfl rfl rfl rfl rfl (hu.counters h)
  keys h := State.KeysInRange.congr (s := u) rfl (hu.keys h)
  comps h := State.CompsInBounds.congr (s := u) rfl (hu.comps h)
  records h := (hu.records h).of_body (map_updateFirst (fun r => (hf r).1) _)
  print := hprint
  punch h := (hu.punch h).of_claimsKept (.of_matched (matched_updateFirst (fun _ => ⟨rfl, rfl⟩) hf _)) rfl rfl rfl
  straps := hu.straps
  identity h := ⟨State.IdentityLocked.of_answer (s := u) rfl (hu.identity h).1, (hu.identity h).2⟩
  printerFault := hu.printerFault
  punchFault := hu.punchFault
  latched := hu.latched

/-- The current punch claim changed, the punch ranges argued for apart. -/
theorem Keeps.onPunch {s u : State} (hu : Keeps s u) {f : Rec → Rec}
    (hf : ∀ r : Rec, (f r).body = r.body ∧ (f r).print = r.print)
    (hpunch : s.PunchInRange → ({ u with store := u.store.onPunch f } : State).PunchInRange) :
    Keeps s { u with store := u.store.onPunch f } where
  memory := hu.memory
  shape h := (hu.shape h).of_body (map_updateFirst (fun r => (hf r).1) _) rfl rfl rfl
  counters h := State.CountersInRange.congr (s := u) rfl rfl rfl rfl rfl rfl rfl rfl rfl rfl (hu.counters h)
  keys h := State.KeysInRange.congr (s := u) rfl (hu.keys h)
  comps h := State.CompsInBounds.congr (s := u) rfl (hu.comps h)
  records h := (hu.records h).of_body (map_updateFirst (fun r => (hf r).1) _)
  print h := (hu.print h).of_claimsKept (.of_matched (matched_updateFirst (fun _ => ⟨rfl, rfl⟩) hf _)) rfl
  punch := hpunch
  straps := hu.straps
  identity h := ⟨State.IdentityLocked.of_answer (s := u) rfl (hu.identity h).1, (hu.identity h).2⟩
  printerFault := hu.printerFault
  punchFault := hu.punchFault
  latched := hu.latched

/-- The printer changed, what reads it argued for apart. -/
theorem Keeps.setPrinter {s u : State} (hu : Keeps s u) (p : Printer)
    (hcounters : s.CountersInRange → p.pendingFeeds ≤ 3 ∧ (∀ c, p.column = some c → c ≤ 72) ∧
      (p.column = some 72 → p.hand = none ∧ ∀ n, p.motion ≠ .step n))
    (hprint : s.PrintInRange → ({ u with printer := p } : State).PrintInRange)
    (hfault : s.PrinterFaulted → p.state = .fault ∧ p.stop = .none) : Keeps s { u with printer := p } where
  memory := hu.memory
  shape h := State.StoreShape.congr (s := u) rfl rfl rfl rfl rfl (hu.shape h)
  counters h :=
    { hu.counters h with feeds := (hcounters h).1, column := (hcounters h).2.1, stepRoom := (hcounters h).2.2 }
  keys h := State.KeysInRange.congr (s := u) rfl (hu.keys h)
  comps h := State.CompsInBounds.congr (s := u) rfl (hu.comps h)
  records h := State.RecordsInRange.congr (s := u) rfl (hu.records h)
  print := hprint
  punch h := State.PunchInRange.congr (s := u) rfl rfl rfl rfl (hu.punch h)
  straps := hu.straps
  identity h := ⟨State.IdentityLocked.of_answer (s := u) rfl (hu.identity h).1, (hu.identity h).2⟩
  printerFault := hfault
  punchFault := hu.punchFault
  latched := hu.latched

/-- The punch changed, what reads it argued for apart. -/
theorem Keeps.setPunch {s u : State} (hu : Keeps s u) (p : Punch) (hmanual : s.CountersInRange → p.manual ≤ 20)
    (hpunch : s.PunchInRange → ({ u with punch := p } : State).PunchInRange)
    (hfault : s.PunchFaulted → p.state = .fault ∧ p.row = none) : Keeps s { u with punch := p } where
  memory := hu.memory
  shape h := State.StoreShape.congr (s := u) rfl rfl rfl rfl rfl (hu.shape h)
  counters h := { hu.counters h with manual := hmanual h }
  keys h := State.KeysInRange.congr (s := u) rfl (hu.keys h)
  comps h := State.CompsInBounds.congr (s := u) rfl (hu.comps h)
  records h := State.RecordsInRange.congr (s := u) rfl (hu.records h)
  print h := State.PrintInRange.congr (s := u) rfl rfl rfl rfl rfl (hu.print h)
  punch := hpunch
  straps := hu.straps
  identity h := ⟨State.IdentityLocked.of_answer (s := u) rfl (hu.identity h).1, (hu.identity h).2⟩
  printerFault := hu.printerFault
  punchFault := hfault
  latched := hu.latched

end Sys2Proof.Machine
end

section
/-! The supply, the printer, the punch, the sweeps and the power states keep every invariant
(spec/08 to spec/11), and so do the follow-ups of a command. -/
namespace Sys2Proof.Machine

theorem Keeps.ite {s t u : State} {p : Prop} [Decidable p] (ht : Keeps s t) (hu : Keeps s u) :
    Keeps s (if p then t else u) := by
  split
  · exact ht
  · exact hu

/-! ### Nothing new in hand -/

/-- The printer `q` is `p` with no more in hand, and in FAULT where `p` is. -/
structure Printer.Eased (p q : Printer) : Prop where
  column : q.column = p.column ∨ q.column = none := by exact .inl rfl
  phase : q.phase = p.phase := by rfl
  index : q.index = p.index := by rfl
  hand : q.hand ≠ none → p.hand ≠ none := by exact id
  motion : q.motion = p.motion ∨ q.motion = .none := by exact .inl rfl
  feeds : p.pendingFeeds ≤ 3 → q.pendingFeeds ≤ 3 := by exact id
  fault : p.state = .fault → p.stop = .none → q.state = .fault ∧ q.stop = .none := by exact fun h k => ⟨h, k⟩

theorem Printer.Eased.refl (p : Printer) : p.Eased p := {}

theorem Printer.Eased.hand_none {p q : Printer} (h : p.Eased q) (hp : p.hand = none) : q.hand = none := by
  refine Classical.byContradiction fun hq => ?_
  exact h.hand hq hp

theorem Printer.Eased.motion_eq {p q : Printer} (h : p.Eased q) {m : Motion} (hm : m ≠ .none) (hq : q.motion = m) :
    p.motion = m := by
  rcases h.motion with h | h
  · exact h ▸ hq
  · exact absurd (hq.symm.trans h) hm

theorem State.eased_keeps (s : State) {q : Printer} (h : s.printer.Eased q) : Keeps s { s with printer := q } := by
  refine (Keeps.refl s).setPrinter q (fun hc => ⟨h.feeds hc.feeds, fun c hq => ?_, fun hq => ?_⟩) (fun hp => ?_)
    (fun hf => h.fault hf.1 hf.2)
  · rcases h.column with k | k
    · exact hc.column c (k ▸ hq)
    · rw [k] at hq; cases hq
  · rcases h.column with k | k
    · obtain ⟨hhand, hstep⟩ := hc.stepRoom (k ▸ hq)
      exact ⟨h.hand_none hhand, fun n hm => hstep n (h.motion_eq (by simp) hm)⟩
    · rw [k] at hq; cases hq
  · have hon : s.OnCharacter → ({ s with printer := q } : State).OnCharacter :=
      State.OnCharacter.congr rfl h.phase h.index
    refine ⟨hp.positions, (le_of_eq_of_le h.index hp.index :), fun hh => hon (hp.handHas (h.hand hh)), fun n hm => ?_,
      fun k b c n d hm => ?_, fun n d hm => ?_⟩
    · exact hon (hp.stepHas n (h.motion_eq (by simp) hm))
    · obtain ⟨hhand, hcell⟩ := hp.returnHas k b c n d (h.motion_eq (by simp) hm)
      exact ⟨h.hand_none hhand, hcell⟩
    · obtain ⟨hhand, hcell⟩ := hp.feedHas n d (h.motion_eq (by simp) hm)
      exact ⟨h.hand_none hhand, hcell⟩

/-- The punch `q` is `p` with no more in hand, RUNNING where `p` is unless the row is gone, and in FAULT where `p` is. -/
structure Punch.Eased (p q : Punch) : Prop where
  leader : q.leader = p.leader ∨ q.leader = 0 := by exact .inl rfl
  row : ∀ r, q.row = some r → ∃ r', p.row = some r' ∧ r'.content = r.content := by exact fun r h => ⟨r, h, rfl⟩
  running : q.row ≠ none → p.state = .running → q.state = .running := by exact fun _ h => h
  manual : p.manual ≤ 20 → q.manual ≤ 20 := by exact id
  fault : p.state = .fault → p.row = none → q.state = .fault ∧ q.row = none := by exact fun h k => ⟨h, k⟩

theorem State.punchEased_keeps (s : State) {q : Punch} (h : s.punch.Eased q) : Keeps s { s with punch := q } := by
  refine (Keeps.refl s).setPunch q (fun hc => h.manual hc.manual) (fun hp => ⟨hp.positions, ?_, ?_, ?_⟩)
    (fun hf => h.fault hf.1 hf.2)
  · rcases h.leader with k | k
    · exact le_of_eq_of_le k hp.leader
    · exact le_of_eq_of_le k (Nat.zero_le _)
  · intro r hr hc
    obtain ⟨r', hr', hcontent⟩ := h.row r hr
    rcases h.leader with k | k
    · exact lt_of_eq_of_lt k (hp.leaderRow r' hr' (hcontent.trans hc))
    · exact lt_of_eq_of_lt k (Nat.zero_lt_succ 9)
  · intro r c hr hc
    obtain ⟨r', hr', hcontent⟩ := h.row r hr
    obtain ⟨hrun, hx⟩ := hp.cellRow r' c hr' (hcontent.trans hc)
    refine ⟨h.running (fun hn => ?_) hrun, hx⟩
    have hr : q.row = some r := hr
    rw [hn] at hr
    cases hr

/-! ### The magnet supply -/

/-- The sweep's channel under test changes no latched event and no count. -/
theorem Diag.granted_frame (d : Diag) :
    d.granted = { d with sweep := d.granted.sweep, testing := d.granted.testing } := by
  unfold Diag.granted
  split <;> rfl

theorem State.giveGrant_keeps (s : State) (p : Party) : Keeps s (s.giveGrant p) := by
  cases p with
  | print => exact (s.eased_keeps (q := s.printer.granted) { hand := by simp [Printer.granted] }).trans (.same (by rfl))
  | punch =>
    refine (s.punchEased_keeps (q := s.punch.granted s.now) { row := fun r hr => ?_, fault := fun h k => ⟨h, ?_⟩ }).trans (.same (by rfl))
    · obtain ⟨r', hr', rfl⟩ := Option.map_eq_some_iff.mp hr
      exact ⟨r', hr', rfl⟩
    · simp [Punch.granted, k]
  | test =>
    refine Keeps.trans (t := { s with diag := { s.diag with
      sweep := s.diag.granted.sweep, testing := s.diag.granted.testing } }) (.same (by rfl)) ?_
    rw [← s.diag.granted_frame]
    exact .same (by rfl)

theorem State.grantIfFree_keeps (s : State) : Keeps s s.grantIfFree := by
  unfold State.grantIfFree
  split
  · split
    · exact Keeps.refl s
    · exact s.giveGrant_keeps _
  · exact Keeps.refl s

theorem State.request_keeps (s : State) (p : Party) : Keeps s (s.request p) :=
  Keeps.trans (.same (by rfl)) (State.grantIfFree_keeps _)

theorem State.withdraw_keeps (s : State) (p : Party) : Keeps s (s.withdraw p) := .same (by rfl)

theorem State.handBack_keeps (s : State) : Keeps s s.handBack := Keeps.trans (.same (by rfl)) (State.grantIfFree_keeps _)

/-! ### The printer's motions and phases -/

/-- A cell of the current record is next (R148). -/
def State.CellNext (s : State) : Prop := ∃ r, s.store.printCurrent = some r ∧ r.print.pos < r.length

theorem State.beginReturn_keeps {s t : State} {cause : MotionCause} (hhand : s.printer.hand = none)
    (hcell : cause = .cell → s.CellNext) (h : s.beginReturn cause = some t) : Keeps s t := by
  unfold State.beginReturn at h
  split at h
  · cases h
  · cases h
    refine (Keeps.refl s).setPrinter _ (fun hc => ⟨hc.feeds, hc.column, fun hq => ⟨hhand, nofun⟩⟩) (fun hp => ?_) id
    refine ⟨hp.positions, hp.index, fun hh => absurd hhand hh, nofun, fun _ _ _ _ d hm => ⟨hhand, fun hd => ?_⟩, nofun⟩
    cases hm
    exact hcell hd

theorem State.beginFeed_keeps {s t : State} {cause : MotionCause} (hhand : s.printer.hand = none)
    (hcell : cause = .cell → s.CellNext) (h : s.beginFeed cause = some t) : Keeps s t := by
  unfold State.beginFeed at h
  split at h
  · cases h
  · cases h
    refine (Keeps.refl s).setPrinter _ (fun hc => ⟨hc.feeds, hc.column, fun hq => ⟨hhand, nofun⟩⟩) (fun hp => ?_) id
    refine ⟨hp.positions, hp.index, fun hh => absurd hhand hh, nofun, nofun, fun _ d hm => ⟨hhand, fun hd => ?_⟩⟩
    cases hm
    exact hcell hd

theorem State.beginStep_keeps {s t : State} {hand : Hand} (hhand : s.printer.hand = some hand)
    (h : s.beginStep hand = some t) : Keeps s t := by
  have hsome : s.printer.hand ≠ none := by simp [hhand]
  unfold State.beginStep at h
  split at h
  · cases h
  · cases h
    refine (Keeps.refl s).setPrinter _ (fun hc => ⟨hc.feeds, hc.column, fun hq => ?_⟩) (fun hp => ?_) id
    · exact absurd (hc.stepRoom hq).1 hsome
    · have hon : ∀ p : Printer, p.phase = s.printer.phase → p.index = s.printer.index →
          ({ s with printer := p } : State).OnCharacter := fun p h1 h2 =>
        State.OnCharacter.congr (s := s) rfl h1 h2 (hp.handHas hsome)
      exact ⟨hp.positions, hp.index, fun _ => hon _ rfl rfl, fun _ _ => hon _ rfl rfl, nofun, nofun⟩

theorem State.owePair_keeps (s : State) : Keeps s s.owePair := .same (by rfl)

/-- Nothing is in hand and nothing moves. -/
def Printer.atRest (p : Printer) : Prop := p.hand = none ∧ p.motion = .none

theorem State.enterPhase_keeps {s : State} (h : s.printer.atRest) (p : Phase) : Keeps s (s.enterPhase p) := by
  obtain ⟨hhand, hmotion⟩ := h
  refine (Keeps.refl s).setPrinter _ (fun hc => ⟨hc.feeds, hc.column, hc.stepRoom⟩) (fun hp => ?_) id
  have hm : ∀ m : Motion, m ≠ .none → (s.enterPhase p).printer.motion ≠ m := fun m hm h => hm (h.symm.trans hmotion)
  exact ⟨hp.positions, Nat.zero_le _, fun hh => absurd hhand hh, fun n h => absurd h (hm _ (by simp)),
    fun _ _ _ _ _ h => absurd h (hm _ (by simp)), fun _ _ h => absurd h (hm _ (by simp))⟩

/-- At rest the print ranges ask only for the claims and the index. -/
theorem State.PrintInRange.of_atRest {s : State} (h : s.printer.atRest)
    (hpos : ∀ r ∈ s.store.recs, r.print.pos ≤ r.length) (hindex : s.printer.index ≤ 24) : s.PrintInRange := by
  obtain ⟨hhand, hmotion⟩ := h
  exact ⟨hpos, hindex, fun hh => absurd hhand hh, fun n h => by simp [hmotion] at h,
    fun _ _ _ _ _ h => by simp [hmotion] at h, fun _ _ h => by simp [hmotion] at h⟩

theorem State.advancePrint_keeps {s u : State} (hu : Keeps s u) (hrest : u.printer.atRest)
    (hcell : s.PrintInRange → u.CellNext) : Keeps s u.advancePrint := by
  refine hu.onPrint (fun r => ⟨rfl, rfl⟩) fun hp => .of_atRest hrest (fun x hx => ?_) (hu.print hp).index
  obtain ⟨r, hr, hpos⟩ := hcell hp
  rcases mem_updateFirst hx with hx | ⟨y, hy, rfl⟩
  · exact (hu.print hp).positions x hx
  · cases hr.symm.trans hy
    exact hpos

theorem State.finishPrint_keeps {s : State} (hrest : s.printer.atRest) : Keeps s s.finishPrint := by
  refine Keeps.trans ?_ (State.reclaim_keeps { s with store := s.store.onPrint Rec.donePrint })
  refine (Keeps.refl s).onPrint (fun r => ⟨rfl, rfl⟩) fun hp => .of_atRest hrest (fun x hx => ?_) hp.index
  rcases mem_updateFirst hx with hx | ⟨y, -, rfl⟩
  · exact hp.positions x hx
  · exact Nat.le.refl

/-! ### The walk -/

theorem State.alignThen_keeps {s t : State} (h : Keeps s t) : Keeps s (s.alignThen t) := by
  unfold State.alignThen
  exact h.ite s.owePair_keeps

theorem State.awaitSlot_keeps {s t : State} (h : s.awaitSlot = some t) : Keeps s t := by
  unfold State.awaitSlot at h
  split at h
  · cases h; exact s.owePair_keeps
  · cases h

theorem State.takeCell_keeps {s t : State} {c : Code} (hrest : s.printer.atRest) (hcell : s.CellNext)
    (h : s.takeCell c = some t) : Keeps s t := by
  unfold State.takeCell at h
  split at h
  · exact State.awaitSlot_keeps h
  · split at h
    · exact State.beginReturn_keeps hrest.1 (fun _ => hcell) h
    · split at h
      · exact State.beginFeed_keeps hrest.1 (fun _ => hcell) h
      · split at h <;> cases h
        · split
          · exact State.advancePrint_keeps s.bell_keeps hrest fun _ => hcell
          · exact State.advancePrint_keeps (Keeps.refl s) hrest fun _ => hcell
        · exact State.advancePrint_keeps (Keeps.refl s) hrest fun _ => hcell

theorem State.phaseWork_keeps {s t : State} {r : Rec} (hrest : s.printer.atRest)
    (hr : s.store.printCurrent = some r) (h : s.phaseWork r = some t) : Keeps s t := by
  unfold State.phaseWork at h
  split at h
  case h_1 => cases h; exact State.enterPhase_keeps hrest _
  case h_2 => cases h; exact State.alignThen_keeps (State.enterPhase_keeps hrest _)
  case h_3 =>
    split at h
    · exact State.awaitSlot_keeps h
    · cases h; exact State.enterPhase_keeps hrest _
  case h_4 =>
    split at h
    · exact State.takeCell_keeps hrest ⟨r, hr, ‹_›⟩ h
    · split at h <;> cases h
      exact State.enterPhase_keeps hrest _
  case h_5 => cases h; exact State.alignThen_keeps (State.enterPhase_keeps hrest _)
  case h_6 =>
    split at h
    · exact State.awaitSlot_keeps h
    · cases h
      exact (State.finishPrint_keeps hrest).trans (State.enterPhase_keeps (s := s.finishPrint) hrest _)

theorem State.printingWork_invariants {s t : State} (h : s.printingWork = some t) : Keeps s t := by
  unfold State.printingWork at h
  split at h
  · cases h
  · rename_i hm
    have hmotion : s.printer.motion = .none := by simpa using hm
    split at h
    case h_1 hand hhand =>
      split at h
      · exact State.beginStep_keeps hhand h
      · cases h
    case h_2 hhand =>
      split at h
      · exact State.beginReturn_keeps hhand (by simp) h
      · split at h
        · exact State.beginReturn_keeps hhand (by simp) h
        · exact State.beginFeed_keeps hhand (by simp) h
        · split at h
          · exact State.beginFeed_keeps hhand (by simp) h
          · split at h
            · cases h
            · exact State.phaseWork_keeps ⟨hhand, hmotion⟩ ‹_› h

theorem State.printerOnce_keeps {s t : State} (h : s.printerOnce = some t) : Keeps s t := by
  unfold State.printerOnce at h
  split at h
  case h_1 hs =>
    split at h <;> cases h
    exact (s.eased_keeps (q := { s.printer with state := .printing })
      { fault := fun hf => by rw [hs] at hf; cases hf }).trans (.same (by rfl))
  case h_2 hs =>
    split at h
    · exact State.printingWork_invariants h
    · cases h
      exact (s.eased_keeps (q := { s.printer with state := .ready })
        { fault := fun hf => by rw [hs] at hf; cases hf }).trans (.same (by rfl))
  all_goals cases h

/-- What `repeatWhile` keeps when each of its steps keeps it. -/
theorem repeatWhile_keeps {f : State → Option State} (hf : ∀ s t, f s = some t → Keeps s t) (n : Nat) (s : State) :
    Keeps s (repeatWhile f n s) := by
  induction n generalizing s with
  | zero => exact Keeps.refl s
  | succ n ih =>
    cases h : f s with
    | none => rw [repeatWhile, h]; exact Keeps.refl s
    | some t => rw [repeatWhile, h]; exact (hf s t h).trans (ih t)

theorem State.printerRun_keeps (s : State) : Keeps s s.printerRun :=
  repeatWhile_keeps (fun _ _ => State.printerOnce_keeps) _ s

/-! ### Paper out and fault -/

theorem State.stopPrinter_keeps {s : State} {p : PrinterState} (h : p = .fault ∨ ¬s.PrinterFaulted) :
    Keeps s (s.stopPrinter p) := by
  refine (s.eased_keeps (q := { s.printer with state := p, pendingFeeds := 0, stop := .none })
    { feeds := fun _ => Nat.zero_le _, fault := fun hf hs => ⟨?_, rfl⟩ }).trans (.same (by rfl))
  exact h.resolve_right fun hn => hn ⟨hf, hs⟩

theorem State.enterPaperOut_keeps {s : State} (h : ¬s.PrinterFaulted) : Keeps s s.enterPaperOut :=
  ((s.latch_keeps .paperOut).trans (State.stopPrinter_keeps (.inr h))).trans (.same (by rfl))

theorem State.dropHand_keeps (s : State) : Keeps s s.dropHand := by
  unfold State.dropHand
  split
  · exact Keeps.refl s
  · split
    · exact Keeps.refl s
    · split
      · exact (s.withdraw_keeps .print).trans (State.eased_keeps _ { hand := fun h => absurd rfl h })
      · exact s.eased_keeps { hand := fun h => absurd rfl h }

theorem State.enterPrinterFault_keeps (s : State) : Keeps s s.enterPrinterFault :=
  (s.dropHand_keeps.trans (State.stopPrinter_keeps (.inl rfl))).trans (.same (by rfl))

theorem State.applyStop_keeps (s : State) : Keeps s s.applyStop := by
  unfold State.applyStop
  split
  · exact Keeps.refl s
  · split
    · exact Keeps.refl s
    case _ hs => exact State.enterPaperOut_keeps fun h => by rw [h.2] at hs; cases hs
    · exact s.enterPrinterFault_keeps

theorem State.needleFault_keeps {s : State} (h : s.printer.state ≠ .fault) : Keeps s s.needleFault := by
  unfold State.needleFault
  exact Keeps.ite (s.eased_keeps { fault := fun hf => absurd hf h }) s.enterPrinterFault_keeps

theorem State.excludeNeedle_keeps (s : State) (n : Nat) : Keeps s (s.excludeNeedle n) := by
  unfold State.excludeNeedle
  split
  · exact Keeps.refl s
  · dsimp only
    split
    · rename_i h
      simp only [Bool.and_eq_true, bne_iff_ne] at h
      exact Keeps.trans (.same (by rfl)) (State.needleFault_keeps h.2)
    · exact .same (by rfl)

theorem State.cutMotion_keeps (s : State) : Keeps s s.cutMotion :=
  s.eased_keeps { column := .inr rfl, motion := .inr rfl }

theorem State.motionFault_keeps (s : State) : Keeps s s.motionFault := by
  unfold State.motionFault
  exact Keeps.ite s.cutMotion_keeps (s.cutMotion_keeps.trans (State.enterPrinterFault_keeps _))

/-! ### The punch -/

/-- A row taken in hand (R180). -/
theorem State.takeRow_keeps {s : State} (c : RowContent) (hstate : s.punch.state ≠ .fault)
    (hleader : c = .leader → s.punch.leader < 10)
    (hcell : ∀ d, c = .cell d → s.punch.state = .running ∧
      ∃ x, s.store.punchCurrent = some x ∧ x.punchPos < x.length) : Keeps s (s.takeRow c) := by
  refine Keeps.trans ?_ (State.request_keeps _ .punch)
  refine (Keeps.refl s).setPunch _ (fun hc => hc.manual) (fun hp => ⟨hp.positions, hp.leader, ?_, ?_⟩)
    (fun hf => absurd hf.1 hstate)
  · rintro r hr hc
    cases hr
    exact hleader hc
  · rintro r d hr hc
    cases hr
    exact hcell d hc

theorem State.finishPunch_keeps {s : State} (hrow : s.punch.row = none) : Keeps s s.finishPunch := by
  have hdone : Keeps s { s with store := s.store.onPunch Rec.donePunch } := by
    refine (Keeps.refl s).onPunch (fun r => ⟨rfl, rfl⟩) fun hp => ⟨fun x hx => ?_, hp.leader, hp.leaderRow, ?_⟩
    · rcases mem_updateFirst hx with hx | ⟨y, -, rfl⟩
      · exact hp.positions x hx
      · show (Rec.donePunch y).punchPos ≤ y.length
        unfold Rec.punchPos Rec.donePunch
        cases y.punch <;> simp
    · intro r c hr
      exact absurd (hrow.symm.trans hr) (by simp)
  refine (hdone.trans (State.reclaim_keeps _)).trans (State.punchEased_keeps _ ?_)
  exact { leader := .inr rfl }

theorem State.runClaim_keeps {s t : State} (hrow : s.punch.row = none) (hstate : s.punch.state = .running)
    (h : s.runClaim = some t) : Keeps s t := by
  have hne : s.punch.state ≠ .fault := by rw [hstate]; decide
  unfold State.runClaim at h
  split at h
  · cases h
    exact s.punchEased_keeps { running := fun hr => absurd hrow hr, fault := fun hf => absurd hf hne }
  · rename_i x hx
    split at h
    · cases h
      exact State.takeRow_keeps _ hne (fun _ => ‹_›) nofun
    · split at h
      · cases h
        exact State.takeRow_keeps _ hne nofun fun _ _ => ⟨hstate, x, hx, ‹_›⟩
      · split at h <;> cases h
        exact State.finishPunch_keeps hrow

theorem State.finishEnded_keeps {s : State} (hrow : s.punch.row = none) : Keeps s s.finishEnded :=
  Keeps.ite (State.finishPunch_keeps hrow) (Keeps.refl s)

theorem State.punchOnce_keeps {s t : State} (h : s.punchOnce = some t) : Keeps s t := by
  unfold State.punchOnce at h
  split at h
  case h_1 r hr =>
    split at h <;> cases h
    refine s.punchEased_keeps { row := ?_, fault := fun _ hn => absurd hn (by simp [hr]) }
    rintro r' hr'
    cases hr'
    exact ⟨r, hr, rfl⟩
  case h_2 hrow =>
    split at h
    · cases h
    · split at h
      case h_1 hs =>
        split at h <;> cases h
        exact State.takeRow_keeps _ (by rw [hs]; decide) nofun nofun
      case h_2 hs =>
        split at h <;> cases h
        exact State.takeRow_keeps _ (by rw [hs]; decide) nofun nofun
      case h_3 hs => exact State.runClaim_keeps hrow hs h
      all_goals cases h

theorem State.punchRun_keeps (s : State) : Keeps s s.punchRun :=
  repeatWhile_keeps (fun _ _ => State.punchOnce_keeps) _ s

theorem State.dropWaitingRow_keeps (s : State) : Keeps s s.dropWaitingRow := by
  unfold State.dropWaitingRow
  split
  · exact Keeps.refl s
  · split
    · refine (s.withdraw_keeps .punch).trans (State.punchEased_keeps _ ?_)
      exact { row := nofun, running := fun h => absurd rfl h, fault := fun h _ => ⟨h, rfl⟩ }
    · exact Keeps.refl s

theorem State.stopManual_keeps (s : State) : Keeps s s.stopManual :=
  (Keeps.ite s.dropWaitingRow_keeps (Keeps.refl s)).trans (State.punchEased_keeps _ { manual := fun _ => Nat.zero_le _ })

theorem State.enterPunchFault_keeps (s : State) : Keeps s s.enterPunchFault :=
  s.punchEased_keeps
    { row := nofun, running := fun h => absurd rfl h, manual := fun _ => Nat.zero_le _, fault := fun _ _ => ⟨rfl, rfl⟩ }

theorem State.punchFault_keeps (s : State) : Keeps s s.punchFault := by
  unfold State.punchFault
  split
  · exact Keeps.refl s
  · rename_i hne
    split
    · exact s.enterPunchFault_keeps
    · split
      · exact s.punchEased_keeps { manual := fun _ => Nat.zero_le _ }
      · split
        · exact (s.withdraw_keeps .punch).trans (State.enterPunchFault_keeps _)
        · exact s.enterPunchFault_keeps

theorem State.enterTapeOut_keeps {s : State} (hrow : s.punch.row = none ∨ s.punch.state ≠ .running)
    (hstate : s.punch.state ≠ .fault) : Keeps s s.enterTapeOut := by
  refine (s.latch_keeps .tapeOut).trans (State.punchEased_keeps _ ?_)
  refine { running := fun hr hs => ?_, manual := fun _ => Nat.zero_le _, fault := fun hf => absurd hf hstate }
  exact absurd hs (hrow.resolve_left hr)

/-! ### Findings and sweeps -/

theorem State.toOwner_keeps (s : State) (ch : Channel) : Keeps s (s.toOwner ch) := by
  cases ch with
  | needle i => exact s.excludeNeedle_keeps _
  | track i => exact s.punchFault_keeps
  | tapeAdvance => exact s.punchFault_keeps
  | motion => exact s.motionFault_keeps

theorem State.failing_keeps (s : State) (ch : Channel) (c : ChanCode) : Keeps s (s.failing ch c) :=
  Keeps.trans (.same (by rfl)) (State.toOwner_keeps (s.mergeFinding ch c) ch)

theorem State.offStateFinding_keeps (s : State) (ch : Channel) (f : TestFinding) :
    Keeps s (s.offStateFinding ch f) := by
  cases f with
  | passed => exact .same (by rfl)
  | opened => exact (s.latch_keeps _).trans (State.failing_keeps _ _ _)
  | shorted => exact (s.latch_keeps _).trans (State.failing_keeps _ _ _)

theorem State.testGo_keeps (s : State) : Keeps s s.testGo := by
  unfold State.testGo
  split
  · exact Keeps.refl s
  · split
    · exact Keeps.trans (.same (by rfl)) (State.request_keeps _ .test)
    · exact Keeps.refl s

theorem State.endSweep_keeps (s : State) (w : Sweep) : Keeps s (s.endSweep w) := by
  unfold State.endSweep
  dsimp only
  split
  · exact Keeps.ite (.same (by rfl)) (.same (by rfl))
  · exact .same (by rfl)
  · exact .same (by rfl)

theorem State.advanceSweep_keeps (s : State) (result : Option TestFinding) : Keeps s (s.advanceSweep result) := by
  unfold State.advanceSweep
  split
  · exact Keeps.refl s
  · exact Keeps.ite (.same (by rfl)) (State.endSweep_keeps s _)

/-! ### Power states and follow-ups -/

theorem State.enterActive_keeps (s : State) : Keeps s s.enterActive := by
  refine Keeps.trans (t := { s with answer := { s.answer with power := .active, rest := none, dormancy := none } }) (.same (by rfl)) ?_
  refine State.eased_keeps _ { fault := fun hf hs => ⟨?_, hs⟩ }
  show (if s.printer.state == .off then _ else _) = _
  rw [show s.printer.state = .fault from hf]
  rfl

theorem State.wake_keeps (s : State) : Keeps s s.wake := Keeps.ite (Keeps.refl s) s.enterActive_keeps

theorem State.wakeOnWork_invariants (s : State) : Keeps s s.wakeOnWork := Keeps.ite s.wake_keeps (Keeps.refl s)

theorem Printer.leaveActive_eased (p : Printer) : p.Eased p.leaveActive := by
  unfold Printer.leaveActive
  split
  case h_1 h => exact { feeds := fun _ => Nat.zero_le _, fault := fun hf => by rw [h] at hf; cases hf }
  case h_2 h => exact { feeds := fun _ => Nat.zero_le _, fault := fun hf => by rw [h] at hf; cases hf }
  case h_3 h => exact { feeds := fun _ => Nat.zero_le _, fault := fun hf => by rw [h] at hf; cases hf }
  all_goals exact .refl _

theorem State.leaveActive_keeps (s : State) : Keeps s s.leaveActive := by
  refine (s.dropWaitingRow_keeps.trans (State.stopManual_keeps _)).trans ?_
  exact (State.eased_keeps _ (Printer.leaveActive_eased _)).trans (.same (by rfl))

theorem State.settle_keeps (s : State) : Keeps s s.settle :=
  (((s.wakeOnWork_invariants.trans (State.testGo_keeps _)).trans (State.printerRun_keeps _)).trans
    (State.punchRun_keeps _)).trans (.same (by rfl))

end Sys2Proof.Machine
end

section
/-! What a command does to the measures of the Answer Unit and to the printer's idle measure (R96, R97, R197), and
`Done`, what every command but a reset does: an operation that keeps every invariant, followed or not by the follow-ups
of the command (log 5). -/
namespace Sys2Proof.Machine

/-! ### The measures stand, or the printer's alone move -/

/-- The power state, the measures and the state of the printer stand. -/
structure Stands (s t : State) : Prop where
  rest : t.answer.rest = s.answer.rest
  dormancy : t.answer.dormancy = s.answer.dormancy
  power : t.answer.power = s.answer.power
  idle : t.diag.idleSince = s.diag.idleSince
  printer : t.printer.state = s.printer.state

/-- The power state and the measures, with the state of the printer. -/
def State.measured (s : State) :=
  (s.answer.rest, s.answer.dormancy, s.answer.power, s.diag.idleSince, s.printer.state)

theorem Stands.same {s t : State} (h : t.measured = s.measured) : Stands s t := by
  simp only [State.measured, Prod.mk.injEq] at h
  obtain ⟨hrest, hdormancy, hpower, hidle, hprinter⟩ := h
  exact ⟨hrest, hdormancy, hpower, hidle, hprinter⟩

theorem Stands.trans {s t u : State} (h : Stands s t) (k : Stands t u) : Stands s u :=
  ⟨k.rest.trans h.rest, k.dormancy.trans h.dormancy, k.power.trans h.power, k.idle.trans h.idle,
    k.printer.trans h.printer⟩

theorem Apart.stands {s t : State} (h : Apart s t) : Stands s t where
  rest := by rw [h.answer]
  dormancy := by rw [h.answer]
  power := by rw [h.answer]
  idle := h.idleSince
  printer := by rw [h.printer]

/-- In one instant, the Answer Unit standing: the idle measure runs on exactly in READY, or starts now. -/
structure Idles (s t : State) : Prop where
  now : t.now = s.now
  answer : t.answer = s.answer
  inReady : s.IdleInReady → t.IdleInReady
  since : ∀ x, t.diag.idleSince = some x → s.diag.idleSince = some x ∨ x = t.now

/-- The instant and the Answer Unit, with the idle measure and the state of the printer. -/
def State.instant (s : State) := (s.now, s.answer, s.printer.state, s.diag.idleSince)

/-- The state of the printer and the idle measure stand. -/
theorem Idles.same {s t : State} (h : t.instant = s.instant) : Idles s t := by
  simp only [State.instant, Prod.mk.injEq] at h
  obtain ⟨hnow, hanswer, hstate, hidle⟩ := h
  exact ⟨hnow, hanswer, fun hs => by rw [State.IdleInReady, hstate, hidle]; exact hs, fun _ hx => .inl (hidle ▸ hx)⟩

theorem Idles.refl (s : State) : Idles s s := .same rfl

theorem Idles.trans {s t u : State} (h : Idles s t) (k : Idles t u) : Idles s u where
  now := k.now.trans h.now
  answer := k.answer.trans h.answer
  inReady := k.inReady ∘ h.inReady
  since x hx := by
    rcases k.since x hx with hx | rfl
    · exact (h.since x hx).imp_right fun hx => hx.trans k.now.symm
    · exact .inr rfl

theorem Idles.ite {s t u : State} {p : Prop} [Decidable p] (ht : Idles s t) (hu : Idles s u) :
    Idles s (if p then t else u) := by
  split
  · exact ht
  · exact hu

/-- The state of the printer and the idle measure stand. -/
theorem Idles.of_same {s t : State} (now : t.now = s.now) (answer : t.answer = s.answer)
    (state : t.printer.state = s.printer.state) (idle : t.diag.idleSince = s.diag.idleSince) : Idles s t where
  now := now
  answer := answer
  inReady h := by rw [State.IdleInReady, state, idle]; exact h
  since x hx := .inl (idle ▸ hx)

/-- The printer is not READY any more, its idle measure stopped. -/
theorem Idles.of_stopped {s t : State} (now : t.now = s.now) (answer : t.answer = s.answer)
    (state : t.printer.state ≠ .ready) (idle : t.diag.idleSince = none) : Idles s t where
  now := now
  answer := answer
  inReady _ := ⟨fun h => absurd idle h, fun h => absurd h state⟩
  since x hx := by rw [idle] at hx; cases hx

/-- The printer becomes READY and its idle measure starts. -/
theorem Idles.of_ready {s t : State} (now : t.now = s.now) (answer : t.answer = s.answer)
    (state : t.printer.state = .ready) (idle : t.diag.idleSince = some t.now) : Idles s t where
  now := now
  answer := answer
  inReady _ := ⟨fun _ => state, fun _ => by rw [idle]; simp⟩
  since x hx := .inr (Option.some.inj (hx.symm.trans idle))

theorem repeatWhile_idles {f : State → Option State} (hf : ∀ s t, f s = some t → Idles s t) (n : Nat) (s : State) :
    Idles s (repeatWhile f n s) := by
  induction n generalizing s with
  | zero => exact Idles.refl s
  | succ n ih =>
    cases h : f s with
    | none => rw [repeatWhile, h]; exact Idles.refl s
    | some t => rw [repeatWhile, h]; exact (hf s t h).trans (ih t)

/-! ### The follow-ups -/

theorem State.giveGrant_idles (s : State) (p : Party) : Idles s (s.giveGrant p) := by
  cases p with
  | print => exact .same (by rfl)
  | punch => exact .same (by rfl)
  | test =>
    refine Idles.of_same rfl rfl rfl ?_
    show s.diag.granted.idleSince = _
    rw [s.diag.granted_frame]

theorem State.grantIfFree_idles (s : State) : Idles s s.grantIfFree := by
  unfold State.grantIfFree
  split
  · split
    · exact Idles.refl s
    · exact s.giveGrant_idles _
  · exact Idles.refl s

theorem State.request_idles (s : State) (p : Party) : Idles s (s.request p) :=
  Idles.trans (.same (by rfl)) (State.grantIfFree_idles _)

theorem State.handBack_idles (s : State) : Idles s s.handBack := Idles.trans (.same (by rfl)) (State.grantIfFree_idles _)

theorem State.testGo_idles (s : State) : Idles s s.testGo := by
  unfold State.testGo
  split
  · exact Idles.refl s
  · split
    · exact Idles.trans (.same (by rfl)) (State.request_idles _ .test)
    · exact Idles.refl s

/-- The walk takes no item of the Answer Unit's (R145). -/
theorem State.phaseWork_answer {s t : State} {r : Rec} (h : s.phaseWork r = some t) : t.answer = s.answer := by
  simp only [State.phaseWork, State.alignThen, State.takeCell, State.awaitSlot, State.beginReturn,
    State.beginFeed] at h
  repeat' split at h
  all_goals cases h
  all_goals rfl

theorem State.printingWork_answer {s t : State} (h : s.printingWork = some t) : t.answer = s.answer := by
  simp only [State.printingWork, State.beginReturn, State.beginFeed, State.beginStep] at h
  repeat' split at h
  all_goals first | cases h; done | (cases h; rfl) | exact State.phaseWork_answer h

theorem State.printerOnce_idles {s t : State} (h : s.printerOnce = some t) : Idles s t := by
  have hnow := (State.printerOnce_followUp h).now
  unfold State.printerOnce at h
  split at h
  case h_1 => split at h <;> cases h; exact Idles.of_stopped rfl rfl (by simp) rfl
  case h_2 =>
    split at h
    · obtain ⟨hstate, hidle⟩ := State.printingWork_keeps h
      exact Idles.of_same hnow (State.printingWork_answer h) hstate hidle
    · cases h; exact Idles.of_ready rfl rfl rfl rfl
  all_goals cases h

theorem State.printerRun_idles (s : State) : Idles s s.printerRun :=
  repeatWhile_idles (fun _ _ => State.printerOnce_idles) _ s

theorem State.takeRow_idles (s : State) (c : RowContent) : Idles s (s.takeRow c) :=
  Idles.trans (.same (by rfl)) (State.request_idles _ .punch)

theorem State.punchOnce_idles {s t : State} (h : s.punchOnce = some t) : Idles s t := by
  unfold State.punchOnce State.runClaim at h
  repeat' split at h
  all_goals cases h
  all_goals first | exact .same (by rfl) | exact s.takeRow_idles _

theorem State.punchRun_idles (s : State) : Idles s s.punchRun :=
  repeatWhile_idles (fun _ _ => State.punchOnce_idles) _ s

/-! ### The measures as a command leaves them -/

/-- The store indicates work (R19). -/
def Store.work (st : Store) : Prop := st.printWork = true ∨ st.punchWork = true

/-- What a command `c` has done to the measures before its follow-ups: the rest measure is not begun but stopped where
the power state is left or entered, or by a press event (R96, R98); the dormancy measure likewise (R97). -/
structure Moved (c : Instr) (s u : State) : Prop where
  inReady : s.IdleInReady → u.IdleInReady
  since : ∀ x, u.diag.idleSince = some x → s.diag.idleSince = some x ∨ x = u.now
  rest : ∀ x, u.answer.rest = some x → s.answer.rest = some x
  restBegins : s.MeasuresRun → u.answer.rest = none ∨ u.answer.power ≠ .active →
    u.answer.power = .active ∨ u.store.work → s.answer.rest = none ∨ isPressCommand c = true
  dormancy : ∀ x, u.answer.dormancy = some x → s.answer.dormancy = some x
  dormancyBegins : s.MeasuresRun → u.answer.power = .quiet → u.answer.dormancy = none → s.answer.dormancy = none

/-- Nothing but the idle measure moved, after what leaves the measures standing. -/
theorem Moved.of_idles {c : Instr} {s v u : State} (h : Stands s v) (k : Idles v u) : Moved c s u where
  inReady hs := k.inReady (by rw [State.IdleInReady, h.idle, h.printer]; exact hs)
  since x hx := (k.since x hx).imp_left fun hx => h.idle ▸ hx
  rest x hx := by rw [k.answer, h.rest] at hx; exact hx
  restBegins hs hu _ := by
    rw [k.answer, h.rest, h.power] at hu
    rcases hu with hu | hu
    · exact .inl hu
    · refine Classical.byContradiction fun hn => ?_
      exact hu (hs.rest.mp fun h => hn (.inl h)).1
  dormancy x hx := by rw [k.answer, h.dormancy] at hx; exact hx
  dormancyBegins hs _ hu := by rw [k.answer, h.dormancy] at hu; exact hu

theorem Moved.of_stands {c : Instr} {s u : State} (h : Stands s u) : Moved c s u := .of_idles h (.refl u)

/-- A wake, between operations that leave the measures standing (R98). -/
theorem Moved.of_wake {c : Instr} {s v u : State} (h : Stands s v) (k : Stands v.wake u) : Moved c s u := by
  by_cases hp : v.answer.power = .active
  · rw [State.wake, if_pos (by simpa using hp)] at k
    exact .of_stands (h.trans k)
  · rw [State.wake, if_neg (by simpa using hp)] at k
    have hready : v.enterActive.printer.state = .ready ↔ v.printer.state = .ready := by
      show (if v.printer.state == .off then _ else _) = _ ↔ _
      cases v.printer.state <;> decide
    refine ⟨fun hs => ?_, fun x hx => .inl ?_, fun x hx => ?_, fun hs _ _ => .inl ?_, fun x hx => ?_, fun hs hu _ => ?_⟩
    · rw [State.IdleInReady, k.idle, k.printer, hready, ← h.printer.symm, show v.enterActive.diag = v.diag from rfl,
        h.idle]
      exact hs
    · exact h.idle ▸ (k.idle ▸ hx : v.diag.idleSince = some x)
    · rw [k.rest] at hx; cases hx
    · refine Classical.byContradiction fun hn => ?_
      exact hp (h.power.trans (hs.rest.mp hn).1)
    · rw [k.dormancy] at hx; cases hx
    · rw [k.power] at hu; cases hu

/-! ### What stands where no follow-up is carried out -/

/-- The conditions of the measures and of the printer's states stand. -/
structure Still (s t : State) : Prop where
  rest : t.answer.rest = s.answer.rest
  dormancy : t.answer.dormancy = s.answer.dormancy
  power : t.answer.power = s.answer.power
  attend : t.answer.attend = s.answer.attend
  condition : t.restCondition = s.restCondition
  printWork : t.store.printWork = s.store.printWork
  punchWork : t.store.punchWork = s.store.punchWork
  printer : t.printer.state = s.printer.state
  work : t.printerHasWork = s.printerHasWork

/-- What the conditions of the measures and of the printer's states read. -/
def State.conditions (s : State) :=
  (s.answer.rest, s.answer.dormancy, s.answer.power, s.answer.attend, s.restCondition, s.store.printWork,
    s.store.punchWork, s.printer.state, s.printerHasWork)

theorem Still.same {s t : State} (h : t.conditions = s.conditions) : Still s t := by
  simp only [State.conditions, Prod.mk.injEq] at h
  obtain ⟨hrest, hdormancy, hpower, hattend, hcondition, hprint, hpunch, hprinter, hwork⟩ := h
  exact ⟨hrest, hdormancy, hpower, hattend, hcondition, hprint, hpunch, hprinter, hwork⟩

theorem Still.refl (s : State) : Still s s := .same rfl

/-- What a command other than a reset does. -/
structure Carried (c : Instr) (s u : State) : Prop where
  sound : Sound s u
  latched : (c = .generatedRecordTaken → s.store.blockOpen = true ∨ s.store.requests.head? ≠ some .status) →
    ∀ e ∈ s.diag.latched, e ∈ u.diag.latched
  moved : Moved c s u

/-- A command other than a reset: an operation, followed by the follow-ups of the command or by nothing. -/
def Done (c : Instr) (s t : State) : Prop := ∃ u, Carried c s u ∧ (t = u.settle ∨ t = u ∧ Still s u)

theorem Done.of_settle {c : Instr} {s u : State} (h : Keeps s u) (k : Moved c s u) : Done c s u.settle :=
  ⟨u, ⟨h.toSound, fun _ => h.latched, k⟩, .inl rfl⟩

theorem Done.of_still {c : Instr} {s u : State} (h : Keeps s u) (k : Moved c s u) (hs : Still s u) : Done c s u :=
  ⟨u, ⟨h.toSound, fun _ => h.latched, k⟩, .inr ⟨rfl, hs⟩⟩

theorem Done.refl (c : Instr) (s : State) : Done c s s := .of_still (.refl s) (.of_stands (.same (by rfl))) (.refl s)

theorem Done.of_whenPowered {c : Instr} {s t : State} {f : State → State} (h : whenPowered s f = .next t)
    (hf : Done c s (f s)) : Done c s t := by
  unfold whenPowered at h
  cases h
  split
  · exact hf
  · exact Done.refl c s

/-- What an operation writes leaves the measures standing. -/
theorem Written.done {c : Instr} {s u : State} (h : Written s u) : Done c s u.settle :=
  .of_settle h.keeps (.of_stands h.apart.stands)

/-! ### What `Done` gives -/

theorem Done.sound {c : Instr} {s t : State} (h : Done c s t) : Sound s t := by
  obtain ⟨u, hu, rfl | ⟨rfl, -⟩⟩ := h
  · exact hu.sound.trans u.settle_keeps.toSound
  · exact hu.sound

theorem Done.latched {c : Instr} {s t : State} (h : Done c s t)
    (hc : c = .generatedRecordTaken → s.store.blockOpen = true ∨ s.store.requests.head? ≠ some .status) :
    ∀ e ∈ s.diag.latched, e ∈ t.diag.latched := by
  obtain ⟨u, hu, rfl | ⟨rfl, -⟩⟩ := h
  · exact fun e he => u.settle_keeps.latched e (hu.latched hc e he)
  · exact hu.latched hc

theorem Done.measuresRun {c : Instr} {s t : State} (h : Done c s t) (hs : s.MeasuresRun) : t.MeasuresRun := by
  obtain ⟨u, -, rfl | ⟨rfl, k⟩⟩ := h
  · exact u.settle_measuresRun
  · obtain ⟨h1, h2, h3⟩ := hs
    constructor <;> simp only [k.rest, k.dormancy, k.power, k.attend, k.condition, k.printWork, k.punchWork] <;> assumption

theorem Done.printerAtWork {c : Instr} {s t : State} (h : Done c s t) (hshape : s.StoreShape)
    (hs : s.PrinterAtWork) : t.PrinterAtWork := by
  obtain ⟨u, hu, rfl | ⟨rfl, k⟩⟩ := h
  · have hu' := hu.sound.shape hshape
    exact State.settle_printerAtWork hu'.descriptors hu'.used (hu.moved.inReady hs.idle)
  · exact ⟨by rw [k.printer, k.work]; exact hs.ready, by rw [k.printer, k.work]; exact hs.printing,
      hu.moved.inReady hs.idle⟩

/-- The Answer Unit and the idle measure before the measures are brought up to date. -/
theorem State.settle_cases (u : State) : ∃ v, Idles u.wakeOnWork v ∧ u.settle = v.updateMeasures :=
  ⟨_, ((State.testGo_idles _).trans (State.printerRun_idles _)).trans (State.punchRun_idles _), rfl⟩

theorem State.wakeOnWork_cases (u : State) : (¬(u.answer.power ≠ .active ∧ u.store.work) ∧ u.wakeOnWork = u) ∨
    (u.answer.power ≠ .active ∧ u.store.work ∧ u.wakeOnWork = u.enterActive) := by
  unfold State.wakeOnWork State.wake Store.work
  by_cases hw : (u.store.printWork || u.store.punchWork) = true
  · rw [if_pos hw]
    by_cases hp : u.answer.power = .active
    · exact .inl ⟨fun h => h.1 hp, if_pos (by simpa using hp)⟩
    · exact .inr ⟨hp, by simpa using hw, if_neg (by simpa using hp)⟩
  · rw [if_neg hw]
    exact .inl ⟨fun h => hw (by simpa using h.2), rfl⟩

theorem Done.idleSince {c : Instr} {s t : State} (h : Done c s t) {x : Nat} (hx : t.diag.idleSince = some x) :
    s.diag.idleSince = some x ∨ x = t.now := by
  obtain ⟨u, hu, rfl | ⟨rfl, -⟩⟩ := h
  · obtain ⟨v, hv, he⟩ := u.settle_cases
    have hdiag : u.wakeOnWork.diag = u.diag ∧ u.wakeOnWork.now = u.now := by
      rcases u.wakeOnWork_cases with ⟨-, e⟩ | ⟨-, -, e⟩ <;> rw [e] <;> exact ⟨rfl, rfl⟩
    rw [he] at hx ⊢
    rcases hv.since x hx with hx | rfl
    · rw [hdiag.1] at hx
      refine (hu.moved.since x hx).imp_right fun hx => hx.trans ?_
      exact (hv.now.trans hdiag.2).symm
    · exact .inr rfl
  · exact hu.moved.since x hx

/-- A measure of the Answer Unit starts only at the command that makes its condition hold, and the rest measure again at
a press (R96, R97). -/
theorem Done.measures {c : Instr} {s t : State} (h : Done c s t) (hs : s.MeasuresRun) :
    (∀ x, t.answer.rest = some x →
      s.answer.rest = some x ∨ (x = t.now ∧ (s.answer.rest = none ∨ isPressCommand c = true))) ∧
    (∀ x, t.answer.dormancy = some x → s.answer.dormancy = some x ∨ (x = t.now ∧ s.answer.dormancy = none)) := by
  obtain ⟨u, hu, rfl | ⟨rfl, k⟩⟩ := h
  · obtain ⟨v, hv, he⟩ := u.settle_cases
    rw [he]
    have hrest : ∀ x, v.updateMeasures.answer.rest = some x →
        v.answer.power = .active ∧ x = v.answer.rest.getD v.now := by
      intro x hx
      simp only [State.updateMeasures] at hx
      split at hx <;> simp_all
    have hdorm : ∀ x, v.updateMeasures.answer.dormancy = some x →
        v.answer.power = .quiet ∧ x = v.answer.dormancy.getD v.now := by
      intro x hx
      simp only [State.updateMeasures] at hx
      split at hx <;> simp_all
    have hnow : v.updateMeasures.now = v.now := rfl
    rcases u.wakeOnWork_cases with ⟨hn, e⟩ | ⟨hp, hw, e⟩
    · rw [e] at hv
      constructor <;> intro x hx
      · obtain ⟨hactive, hx⟩ := hrest x hx
        rw [hv.answer] at hx hactive
        cases hr : u.answer.rest with
        | some y => exact .inl (hu.moved.rest x (by rw [hr] at hx ⊢; exact congrArg some hx.symm))
        | none => exact .inr ⟨by rw [hr] at hx; exact hx, hu.moved.restBegins hs (.inl hr) (.inl hactive)⟩
      · obtain ⟨hquiet, hx⟩ := hdorm x hx
        rw [hv.answer] at hx hquiet
        cases hr : u.answer.dormancy with
        | some y => exact .inl (hu.moved.dormancy x (by rw [hr] at hx ⊢; exact congrArg some hx.symm))
        | none => exact .inr ⟨by rw [hr] at hx; exact hx, hu.moved.dormancyBegins hs hquiet hr⟩
    · rw [e] at hv
      constructor <;> intro x hx
      · obtain ⟨-, hx⟩ := hrest x hx
        rw [hv.answer] at hx
        exact .inr ⟨hx, hu.moved.restBegins hs (.inr hp) (.inr hw)⟩
      · obtain ⟨hquiet, -⟩ := hdorm x hx
        rw [hv.answer] at hquiet
        cases hquiet
  · exact ⟨fun x hx => .inl (k.rest ▸ hx), fun x hx => .inl (k.dormancy ▸ hx)⟩

end Sys2Proof.Machine
end

section
/-! The commands of the line, the Sender and the store (spec/01 to spec/04) are `Done`. -/
namespace Sys2Proof.Machine

theorem State.reach_written (s : State) (i : Nat) : Written s (s.reach i) := .same (by rfl)

/-- The clock and the line's own items are read by no invariant. -/
theorem State.setLine_written (s : State) (i : Nat) (l : LineIf) : Written s { s.reach i with line := l } := .same (by rfl)

/-- The Sender's own items but its replies and its generator are read by no invariant. -/
theorem State.setSender_written (s : State) (r : Sender) (hreplies : r.replies = s.sender.replies)
    (hgenerator : r.generator = s.sender.generator) : Written s { s with sender := r } :=
  ⟨{ counters := State.CountersInRange.congr hreplies hgenerator rfl rfl rfl rfl rfl rfl rfl rfl }, .same (by rfl)⟩

theorem State.stepGenerator_written (s : State) (n : Nat) : Written s (s.stepGenerator n) :=
  ⟨s.stepGenerator_keeps n, .same (by rfl)⟩

theorem State.chooseNext_written (s : State) : Written s s.chooseNext := s.chooseNext_side.written

/-- What an operation writes without follow-ups, with the conditions of the measures as they stand. -/
theorem Written.done_still {c : Instr} {s u : State} (h : Written s u) (k : Still s u) : Done c s u :=
  .of_still h.keeps (.of_stands h.apart.stands) k

/-! ### Line conditions and deferral -/

theorem State.becomeQuiet_written (s : State) : Written s s.becomeQuiet := by
  refine ⟨s.becomeQuiet_keeps, ?_⟩
  unfold State.becomeQuiet
  dsimp only
  split
  · exact Apart.trans (.same (by rfl)) (State.chooseNext_side _).apart
  · exact .same (by rfl)

theorem State.leaveQuiet_written (s : State) (c : LineCondition) : Written s (s.leaveQuiet c) := by
  refine ⟨s.leaveQuiet_keeps c, ?_⟩
  unfold State.leaveQuiet
  dsimp only
  split
  · exact .same (by rfl)
  · exact .same (by rfl)

theorem State.orderStart_written (s : State) (lastMark : Bool) : Written s (s.orderStart lastMark) := by
  refine ⟨s.orderStart_keeps lastMark, ?_⟩
  obtain ⟨-, h⟩ | ⟨-, -, h⟩ | ⟨-, header, block, -, h⟩ := s.orderStart_cases lastMark <;> rw [h] <;> exact .same (by rfl)

theorem State.spanComplete_written (s : State) (lastMark : Bool) : Written s (s.spanComplete lastMark) := by
  unfold State.spanComplete
  exact .ite ⟨{ counters := fun h => { h with } }, (.same (by rfl))⟩ (s.orderStart_written lastMark)

theorem State.startAfterCycle_written (s : State) (lastMark : Bool) : Written s (s.startAfterCycle lastMark) := by
  unfold State.startAfterCycle
  exact .ite (s.orderStart_written lastMark) (.refl s)

theorem State.cutBlock_written (s : State) : Written s s.cutBlock := s.cutBlock_side.written

theorem State.checkStarting_written (s : State) : Keeps s s.checkStarting ∧ Stands s s.checkStarting := by
  refine ⟨s.checkStarting_keeps, ?_⟩
  unfold State.checkStarting
  split
  · exact Stands.trans (.same (by rfl)) (State.workAppears_side _).apart.stands
  · exact .same (by rfl)

/-! ### The line -/

theorem execMarkToSpaceEdge_done {s t : State} (h : execMarkToSpaceEdge s = .next t) : Done .markToSpaceEdge s t := by
  refine .of_whenPowered h ?_
  dsimp only
  split
  · refine Written.done_still (Written.trans (.same (by rfl)) (State.leaveQuiet_written _ _)) ?_
    unfold State.leaveQuiet
    dsimp only
    split <;> exact .same (by rfl)
  · exact Written.done_still (.same (by rfl)) (.same (by rfl))

theorem execStart_done {s t : State} {samples : BitVec 3} (h : execStart samples s = .next t) :
    Done (.start samples) s t := by
  refine .of_whenPowered h ?_
  dsimp only
  split
  · have hstep := (s.reach_written (s.line.frameStart + s.samples 9)).trans (State.stepGenerator_written _ 1)
    split
    · exact (hstep.trans (Written.trans (.same (by rfl)) (State.becomeQuiet_written _))).done
    · exact (hstep.trans (Written.trans (.same (by rfl)) (State.startReport_written _))).done_still (.same (by rfl))
  · exact .refl _ _

theorem execCharacterReceived_done {s t : State} {samples : BitVec 27}
    (h : execCharacterReceived samples s = .next t) : Done (.characterReceived samples) s t := by
  refine .of_whenPowered h ?_
  dsimp only
  split
  · have hstep := (s.reach_written (s.line.frameStart + s.samples 153)).trans (State.stepGenerator_written _ 9)
    split
    · exact (hstep.trans (.same (by rfl))).done_still (.same (by rfl))
    · exact (hstep.trans (Written.trans (.same (by rfl)) (State.deliver_written _ _ _))).done
  · exact .refl _ _

theorem execFirstMarkSample_done {s t : State} (h : execFirstMarkSample s = .next t) : Done .firstMarkSample s t := by
  refine .of_whenPowered h ?_
  dsimp only
  split
  · refine Written.done (Written.trans (.same (by rfl)) (Written.ite (State.deliver_written _ _ _) (State.becomeQuiet_written _)))
  · split
    · exact Written.done_still (.same (by rfl)) (.same (by rfl))
    · exact .refl _ _

theorem execEndOfStopElement_done {s t : State} (h : execEndOfStopElement s = .next t) : Done .endOfStopElement s t := by
  refine .of_whenPowered h ?_
  dsimp only
  split
  · exact .refl _ _
  · split
    · exact Written.done ((s.setLine_written _ _).trans ((State.becomeQuiet_written _)))
    · exact .refl _ _

theorem execSettlingEnd_done {s t : State} (h : execSettlingEnd s = .next t) : Done .settlingEnd s t := by
  refine .of_whenPowered h ?_
  dsimp only
  split
  · exact Written.done ((s.setLine_written _ _).trans ((State.becomeQuiet_written _)))
  · exact .refl _ _

theorem execBreakBegun_done {s t : State} (h : execBreakBegun s = .next t) : Done .breakBegun s t := by
  refine .of_whenPowered h ?_
  dsimp only
  split
  · exact .refl _ _
  · refine Written.done (Written.trans ?_ (State.breakBegunReport_written _))
    have hquiet (i : Nat) (l : LineIf) : Written s (State.leaveQuiet { s.reach i with line := l } .inBreak) :=
      (s.setLine_written i l).trans (State.leaveQuiet_written _ _)
    split
    · exact hquiet _ _
    · exact (hquiet _ _).trans (State.latch_written _ _)
    · exact (hquiet _ _).trans (State.latch_written _ _)

theorem State.senderLineOpen_written (s : State) : Written s s.senderLineOpen := by
  unfold State.senderLineOpen
  split
  · exact Written.trans (.same (by rfl)) ((State.cutBlock_written _).trans (State.chooseNext_written _))
  · exact .refl s

theorem execLineOpen_done {s t : State} (h : execLineOpen s = .next t) : Done .lineOpen s t := by
  refine .of_whenPowered h ?_
  dsimp only
  split
  · refine Written.done (Written.trans ?_ (State.senderLineOpen_written _))
    refine Written.trans ?_ (State.lineOpenReport_written _)
    exact (s.setLine_written _ _).trans (State.latch_written _ _)
  · exact .refl _ _

theorem execRestoration_done {s t : State} (h : execRestoration s = .next t) : Done .restoration s t := by
  refine .of_whenPowered h ?_
  dsimp only
  split
  · refine Written.done (Written.trans ?_ (State.becomeQuiet_written _))
    exact (s.setLine_written s.markRunEnd _).trans (Written.ite (State.breakEndedReport_written _) (.refl _))
  · exact .refl _ _

theorem execStall_done {s t : State} (h : execStall s = .next t) : Done .stall s t := by
  refine .of_whenPowered h ?_
  split
  · exact .refl _ _
  · exact ((s.reach_written _).trans (State.stallReport_written _)).done

/-! ### The Sender -/

theorem execDeferralComplete_done {s t : State} {lastMark : Bool} (h : execDeferralComplete lastMark s = .next t) :
    Done (.deferralComplete lastMark) s t := by
  refine .of_whenPowered h ?_
  split
  · exact .refl _ _
  · split
    · exact ((s.reach_written _).trans (State.spanComplete_written _ _)).done
    · exact .refl _ _

theorem execCharacterSent_done {s t : State} (h : execCharacterSent s = .next t) : Done .characterSent s t := by
  refine .of_whenPowered h ?_
  dsimp only
  split
  · exact .refl _ _
  · exact .refl _ _
  · split
    · have hnext (i : Nat) (l : LineIf) (n : Nat) :
          Written s { s.reach i with line := l, sender := { s.sender with position := n } } :=
        (s.setLine_written i l).trans (State.setSender_written _ _ rfl rfl)
      exact (hnext _ _ _).done_still (.same (by rfl))
    · exact Written.done ((s.setLine_written _ _).trans (State.finishBlock_side _ _).written)

/-- A yield wakes the station unless the source is a reply (R74, R98). -/
theorem State.yieldBlock_keeps (s : State) : Keeps s s.yieldBlock := by
  have hcomps : Keeps s { s with
      sender := { s.sender.noBlock with state := .deferring }
      interp := s.interp.onSending fun c => { c with state := .ready, yields := satSucc 3 c.yields } } := by
    refine { counters := fun h => { h with }, comps := State.CompsInBounds.onSending (fun c _ => ?_) rfl }
    exact { yields := fun _ => Nat.min_le_right .., isOpen := fun h => by simp [Comp.isOpen] at h }
  exact (hcomps.trans (Keeps.ite (Keeps.refl _) (State.wake_keeps _))).trans (State.beginSpan_side _).keeps

theorem State.yieldBlock_moved (c : Instr) {s v : State} (h : Stands s v) : Moved c s v.yieldBlock := by
  unfold State.yieldBlock
  dsimp only
  split
  · exact .of_stands (h.trans (Stands.trans (.same (by rfl)) (State.beginSpan_side _).apart.stands))
  · exact .of_wake (h.trans (.same (by rfl))) (State.beginSpan_side _).apart.stands

theorem execMismatch_done {s t : State} {element : Nat} (h : execMismatch element s = .next t) :
    Done (.mismatch element) s t := by
  refine .of_whenPowered h ?_
  dsimp only
  split
  · exact .refl _ _
  · exact .refl _ _
  · split
    · have hidle : ∀ i, Written s { s.reach i with line := { s.line with tx := .idle } } := fun _ => (.same (by rfl))
      split
      · exact .of_settle ((hidle _).keeps.trans (State.yieldBlock_keeps _)) (State.yieldBlock_moved _ (hidle _).apart.stands)
      · exact Written.done (((hidle _).trans (State.cutBlock_written _)).trans (State.chooseNext_written _))
    · exact .refl _ _

theorem execHoldEnded_done {s t : State} (h : execHoldEnded s = .next t) : Done .holdEnded s t := by
  refine .of_whenPowered h ?_
  dsimp only
  split
  · exact .refl _ _
  · exact .refl _ _
  · exact Written.done ((s.setLine_written _ _).trans ((State.chooseNext_written _)))

theorem execReceiptWatchDeadline_done {s t : State} (h : execReceiptWatchDeadline s = .next t) :
    Done .receiptWatchDeadline s t := by
  refine .of_whenPowered h ?_
  split
  · exact .refl _ _
  · exact Written.done ((s.reach_written _).trans (State.settleWatch_side _ _ _).written)

/-! ### Records of the store -/

theorem Store.closed_of_blockOpen {s : State} (hb : s.store.blockOpen = false) :
    ∀ r ∈ s.splitLocal.store.recs, r.isOpen = false := by
  unfold State.splitLocal
  split
  · exact s.closeRecord_closed .split
  · rename_i hl
    exact Store.closed_of_not_open hb (by simpa using hl)

theorem State.takeConfirm_written {s : State} (hclosed : ∀ x ∈ s.store.recs, x.isOpen = false) (dest : Station)
    (letter : Option Letter) : Written s (s.takeConfirm dest letter) := by
  have hwrite := State.writeGenerated_written .confirm (confirmText dest letter) hclosed
  exact Written.ite hwrite (hwrite.trans ((State.latch_written _ _).trans (State.bell_side _).written))

/-- A written report clears latches and the error total, and nothing else that an invariant reads (R204). -/
theorem State.takeStatus_sound {s : State} (hclosed : ∀ x ∈ s.store.recs, x.isOpen = false) :
    Sound s s.takeStatus ∧ Stands s s.takeStatus := by
  have hwrite : Written s (s.markSnapshot.writeGenerated .status s.markSnapshot.statusText).1 :=
    Written.trans (t := s.markSnapshot) (.same (by rfl)) (State.writeGenerated_written .status _ hclosed)
  unfold State.takeStatus
  dsimp only
  split
  · refine ⟨hwrite.keeps.toSound.trans ?_, hwrite.apart.stands.trans (.same (by rfl))⟩
    exact { counters := fun h => { h with errors := Nat.le_trans (Nat.sub_le _ _) h.errors } }
  · exact ⟨hwrite.keeps.toSound.trans (Keeps.same (by rfl)).toSound, hwrite.apart.stands.trans (.same (by rfl))⟩

theorem execGeneratedRecordTaken_done {s t : State} (h : execGeneratedRecordTaken s = .next t) :
    Done .generatedRecordTaken s t := by
  refine .of_whenPowered h ?_
  dsimp only
  split
  · exact .refl _ _
  · rename_i hb
    split
    · exact .refl _ _
    · rename_i r rest hr
      have hclosed := Store.closed_of_blockOpen (s := { s with store := { s.store with requests := rest } })
        (show s.store.blockOpen = false by simpa using hb)
      have hsplit : Written s { s with store := { s.store with requests := rest } }.splitLocal :=
        Written.trans (.same (by rfl)) (State.splitLocal_written _)
      cases r with
      | confirm dest letter => exact (hsplit.trans (State.takeConfirm_written hclosed dest letter)).done
      | status =>
        obtain ⟨hsound, hstands⟩ := State.takeStatus_sound hclosed
        refine ⟨_, ⟨hsplit.keeps.toSound.trans hsound, fun hc => ?_, .of_stands (hsplit.apart.stands.trans hstands)⟩,
          .inl rfl⟩
        rw [hr] at hc
        exact absurd (hc rfl) (by simpa using hb)

end Sys2Proof.Machine
end

section
/-! The commands of the Keyboard Interpreter and the Answer Unit (spec/05, spec/07) are `Done`. -/
namespace Sys2Proof.Machine

/-! ### Taking a press -/

theorem State.took_written {s : State} {p : Press} {rest : List Press} (hq : s.interp.queue = p :: rest) :
    Written s (s.took rest) := by
  have hle : rest.length ≤ s.interp.queue.length := by rw [hq]; exact Nat.le_succ _
  exact ⟨{ counters := fun h => { h with presses := Nat.le_trans hle h.presses } }, .same (by rfl)⟩

theorem State.MeasuresRun.took {s : State} (h : s.MeasuresRun) (rest : List Press) : (s.took rest).MeasuresRun :=
  ⟨h.rest, h.dormancy, h.awake⟩

/-- A press taken from the queue before what is done with it. -/
theorem Done.of_took {c : Instr} {s t : State} {p : Press} {rest : List Press} (hq : s.interp.queue = p :: rest)
    (h : Done c (s.took rest) t) : Done c s t := by
  obtain ⟨u, ⟨hsound, hlatched, hmoved⟩, ht⟩ := h
  refine ⟨u, ⟨(State.took_written hq).keeps.toSound.trans hsound, hlatched, ?_⟩, ht.imp_right fun k => ⟨k.1, ?_⟩⟩
  · exact ⟨hmoved.inReady, hmoved.since, hmoved.rest, fun hs => hmoved.restBegins (hs.took rest), hmoved.dormancy,
      fun hs => hmoved.dormancyBegins (hs.took rest)⟩
  · exact Still.mk k.2.rest k.2.dormancy k.2.power k.2.attend k.2.condition k.2.printWork k.2.punchWork k.2.printer k.2.work

theorem Done.of_withKey {c : Instr} {s t : State} {sel : Press → Bool} {f : Press → State → State}
    (h : withKey s sel f = .next t) (hf : ∀ p u, Done c u (f p u)) : Done c s t := by
  refine .of_whenPowered h ?_
  dsimp only
  split
  · exact .refl _ _
  · rename_i p rest hq
    split
    · exact .of_took hq (hf p _)
    · exact .refl _ _

theorem State.bell_done (c : Instr) (s : State) : Done c s s.bell := Written.done_still (.same (by rfl)) (.same (by rfl))

theorem Done.of_withFunctionKey {c : Instr} {s t : State} {sel : Press → Bool} {f : State → State}
    (h : withFunctionKey s sel f = .next t) (hf : ∀ u, Done c u (f u)) : Done c s t := by
  refine .of_withKey h fun p u => ?_
  split
  · exact u.bell_done c
  · exact hf u

/-! ### The compositions -/

theorem State.CompsInBounds.of_matched {s t : State}
    (h : Matched (fun c c' : Comp => c.Restated c') s.interp.comps t.interp.comps) (hs : s.CompsInBounds) :
    t.CompsInBounds := by
  have hopen : ∀ {l l' : List Comp}, Matched (fun c c' : Comp => c.Restated c') l l' →
      (l'.filter Comp.isOpen).length ≤ (l.filter Comp.isOpen).length ∧ (l'.map Comp.cells).sum = (l.map Comp.cells).sum ∧
      ((∀ c ∈ l, c.InRange) → ∀ c ∈ l', c.InRange) := by
    intro l l' hl
    induction hl with
    | nil => exact ⟨Nat.le.refl, rfl, id⟩
    | @cons c c' l l' hc _ ih =>
      obtain ⟨h1, h2, h3⟩ := ih
      refine ⟨?_, ?_, fun hr => List.forall_mem_cons.mpr ?_⟩
      · rw [List.filter_cons, List.filter_cons]
        by_cases ho : c'.isOpen = true
        · rw [if_pos ho, if_pos (hc.isOpen ho)]
          exact Nat.succ_le_succ h1
        · rw [if_neg ho]
          split
          · exact Nat.le_trans h1 (Nat.le_succ _)
          · exact h1
      · simp only [List.map_cons, List.sum_cons, h2, Comp.cells, Comp.codes, hc.text]
      · obtain ⟨hr1, hr2⟩ := List.forall_mem_cons.mp hr
        exact ⟨hc.inRange hr1, h3 hr2⟩
  obtain ⟨h1, h2, h3⟩ := hopen h
  exact ⟨le_of_eq_of_le h.length_eq.symm hs.number, Nat.le_trans h1 hs.oneOpen, le_of_eq_of_le h2 hs.cells, h3 hs.fields⟩

/-- `f` leaves a composition in range, its text no longer than by `n` cells. -/
structure Comp.Edits (f : Comp → Comp) (n : Nat) : Prop where
  inRange : ∀ c : Comp, c.InRange → (f c).InRange
  cells : ∀ c : Comp, (f c).cells ≤ c.cells + n

theorem sum_cells_onOpen_le {f : Comp → Comp} {n : Nat} (hf : ∀ c : Comp, (f c).cells ≤ c.cells + n) (l : List Comp) :
    ((l.map fun c => if c.isOpen then f c else c).map Comp.cells).sum ≤
      (l.map Comp.cells).sum + (l.filter Comp.isOpen).length * n := by
  induction l with
  | nil => exact Nat.zero_le _
  | cons c l ih =>
    simp only [List.map_cons, List.sum_cons, List.filter_cons]
    have := hf c
    split
    · rw [List.length_cons, Nat.succ_mul]
      omega
    · omega

theorem State.CompsInBounds.onOpen {s t : State} {f : Comp → Comp} {n : Nat} (hf : Comp.Edits f n)
    (hroom : n ≤ s.interp.freeCells) (ht : t.interp.comps = s.interp.comps.map fun c => if c.isOpen then f c else c)
    (h : s.CompsInBounds) : t.CompsInBounds := by
  have hsub : ∀ c : Comp, (if c.isOpen then f c else c).isOpen = true → c.isOpen = true := fun c hc => by
    split at hc
    · assumption
    · exact hc
  refine ⟨?_, ?_, ?_, ?_⟩
  · rw [ht, List.length_map]; exact h.number
  · rw [ht]; exact Nat.le_trans (length_filter_map_le hsub _) h.oneOpen
  · have hle := sum_cells_onOpen_le hf.cells s.interp.comps
    have hone := Nat.mul_le_mul_right n h.oneOpen
    have hcells := h.cells
    rw [Interp.usedCells] at hcells ⊢
    rw [Interp.freeCells, Interp.usedCells] at hroom
    rw [ht]
    omega
  · rw [ht]
    intro c hc
    obtain ⟨x, hx, rfl⟩ := List.mem_map.mp hc
    split
    · exact hf.inRange x (h.fields x hx)
    · exact h.fields x hx

theorem State.onOpen_written (s : State) {f : Comp → Comp} {n : Nat} (hf : Comp.Edits f n)
    (hroom : n ≤ s.interp.freeCells) : Written s { s with interp := s.interp.onOpen f } :=
  ⟨{ comps := State.CompsInBounds.onOpen hf hroom rfl }, .same (by rfl)⟩

/-- The newest composition added (R124, R127). -/
theorem State.addComp_written {s : State} {k : CompKind} {d : Dests} {st : CompState}
    (hroom : s.interp.comps.length < maxCompositions) (hd : d = .all ∨ d = .codes [])
    (hopen : st = .openAddressing ∨ st = .openText → s.interp.openComp = none) :
    Written s { s with interp := s.interp.addComp k d st } := by
  have hnew : ∀ c : Comp, c.dests = d → c.pendingDigit = none → c.yields = 0 → c.InRange := by
    intro c h1 h2 h3
    refine ⟨fun l hl => ?_, fun l hl => ?_, fun x hx => ?_, fun _ _ hn => absurd h2 hn, by rw [h3]; exact Nat.zero_le _⟩
    · rw [h1] at hl
      rcases hd with rfl | rfl <;> cases hl
      exact Nat.zero_le _
    · rw [h1] at hl
      rcases hd with rfl | rfl <;> cases hl
      exact List.nodup_nil
    · rw [h2] at hx; cases hx
  refine ⟨{ comps := fun h => ⟨?_, ?_, ?_, ?_⟩ }, .same (by rfl)⟩
  · simp only [Interp.addComp, List.length_append, List.length_singleton]
    exact hroom
  · simp only [Interp.addComp, List.filter_append, List.length_append]
    by_cases ho : st = .openAddressing ∨ st = .openText
    · have hnone : s.interp.comps.filter Comp.isOpen = [] := by
        rw [List.filter_eq_nil_iff]
        exact List.find?_eq_none.mp (hopen ho)
      rw [hnone]
      exact le_of_eq_of_le (Nat.zero_add _) (List.length_filter_le _ _)
    · have hn : ∀ c : Comp, c.state = st → c.isOpen = false := fun c hc => by
        rw [not_or] at ho
        simp [Comp.isOpen, hc, ho.1, ho.2]
      rw [List.filter_cons_of_neg (by rw [hn _ rfl]; exact nofun), List.filter_nil]
      exact h.oneOpen
  · simp only [Interp.usedCells, Interp.addComp, List.map_append, List.sum_append]
    exact h.cells
  · intro c hc
    rcases List.mem_append.mp hc with hc | hc
    · exact h.fields c hc
    · rw [List.mem_singleton.mp hc]
      exact hnew _ rfl rfl rfl

/-! ### What a press makes of the OPEN composition -/

theorem digitOf_le {c : Code} {d : Nat} (h : digitOf c = some d) : d ≤ 9 := by
  unfold digitOf at h
  split at h <;> cases h
  rename_i h
  simp only [Bool.and_eq_true, decide_eq_true_eq] at h
  omega

theorem Comp.address_frame (c : Comp) (ch : Code) :
    (c.address ch).1 = { c with dests := (c.address ch).1.dests, pendingDigit := (c.address ch).1.pendingDigit } := by
  unfold Comp.address
  repeat' split
  all_goals first | rfl | (dsimp only; split <;> rfl)

theorem Comp.address_inRange {c : Comp} (h : c.InRange) (ch : Code) : (c.address ch).1.InRange := by
  unfold Comp.address
  split
  · split
    · exact ⟨nofun, nofun, h.digit, nofun, h.yields⟩
    · exact h
  · rename_i d hd
    split
    · exact h
    · rename_i l hl
      split
      · split
        · exact ⟨h.number, h.noRepeat, fun x hx => Option.some.inj hx ▸ digitOf_le hd,
            fun l' hl' _ => by rw [show c.dests = .codes l' from hl'] at hl; cases hl; assumption, h.yields⟩
        · exact h
      · rename_i a ha
        dsimp only
        split
        · exact ⟨h.number, h.noRepeat, nofun, fun _ _ hn => absurd rfl hn, h.yields⟩
        · rename_i hnew
          simp only [Bool.or_eq_true, decide_eq_true_eq, List.contains_iff_mem, not_or] at hnew
          refine ⟨fun l' hl' => ?_, fun l' hl' => ?_, nofun, fun _ _ hn => absurd rfl hn, h.yields⟩
          · cases hl'
            have := h.digitRoom l hl (by simp [ha])
            rw [List.length_append]
            exact this
          · cases hl'
            refine List.nodup_append.2 ⟨h.noRepeat l hl, List.pairwise_singleton _ _, fun x hx y hy e => hnew.2 ?_⟩
            rw [← List.mem_singleton.1 hy, ← e]
            exact hx

theorem Comp.address_edits (ch : Code) : Comp.Edits (fun c => (c.address ch).1) 0 where
  inRange _ h := Comp.address_inRange h ch
  cells c := by
    rw [Comp.address_frame]
    exact Nat.le.refl

theorem Comp.rubout_state (c : Comp) : c.rubout.1.state = c.state := by
  unfold Comp.rubout
  repeat' split
  all_goals rfl

theorem Comp.rubout_inRange {c : Comp} (h : c.InRange) : c.rubout.1.InRange := by
  unfold Comp.rubout
  split
  · split
    · exact h
    · exact ⟨h.number, h.noRepeat, h.digit, h.digitRoom, h.yields⟩
  · split
    · exact ⟨h.number, h.noRepeat, nofun, fun _ _ hn => absurd rfl hn, h.yields⟩
    · rename_i hp
      have hnone : c.pendingDigit = none := by simpa using hp
      split
      · exact ⟨fun l hl => by cases hl; exact Nat.zero_le _, fun l hl => by cases hl; exact List.nodup_nil, h.digit,
          fun _ _ hn => absurd hnone hn, h.yields⟩
      · exact h
      · rename_i l _ hl
        refine ⟨fun l' hl' => ?_, fun l' hl' => ?_, h.digit, fun _ _ hn => absurd hnone hn, h.yields⟩
        · cases hl'
          exact Nat.le_trans (List.dropLast_sublist l).length_le (h.number l hl)
        · cases hl'
          exact (h.noRepeat l hl).sublist (List.dropLast_sublist l)

theorem length_flatMap_dropLast_le {α β : Type} (l : List α) (f : α → List β) :
    (l.dropLast.flatMap f).length ≤ (l.flatMap f).length := by
  rw [List.length_flatMap, List.length_flatMap]
  exact sum_le_of_sublist ((List.dropLast_sublist l).map _)

theorem Comp.rubout_edits : Comp.Edits (fun c => c.rubout.1) 0 where
  inRange _ := Comp.rubout_inRange
  cells c := by
    unfold Comp.rubout
    repeat' split
    all_goals first
      | exact Nat.le.refl
      | exact length_flatMap_dropLast_le _ _

theorem State.editOpen_written (s : State) (c : Comp) {f : Comp → Comp × Bool}
    (hf : Comp.Edits (fun x => (f x).1) 0) : Written s (s.editOpen c f) := by
  have hedit := s.onOpen_written hf (Nat.zero_le _)
  exact Written.ite (hedit.trans (State.bell_side _).written) hedit

theorem State.appendUnit_written (s : State) (u : TextUnit) : Written s (s.appendUnit u) := by
  unfold State.appendUnit
  split
  · rename_i hroom
    refine s.onOpen_written (n := u.codes.length) ⟨fun c h => ?_, fun c => ?_⟩ hroom
    · exact ⟨h.number, h.noRepeat, h.digit, h.digitRoom, h.yields⟩
    · simp [Comp.cells, Comp.codes]
  · exact (State.bell_side _).written

/-! ### LOCAL records -/

theorem SpaceSteps.blockOpen {s t : State} (h : SpaceSteps s t) : t.store.blockOpen = s.store.blockOpen := by
  obtain ⟨n, hn, hn'⟩ := h.recs
  rw [Store.blockOpen, hn, any_drop_of_not_take fun r hr => by simp [Rec.isOpenBlock, hn' r hr]]
  rfl

/-- A LOCAL record opened, no record being OPEN (R139). -/
theorem State.openLocal_written {s : State} (hb : s.store.blockOpen = false) (hl : s.interp.localOpen = false) :
    Written s (if (s.openRecord .localTyping none).2 then
      { (s.openRecord .localTyping none).1 with
        interp := { (s.openRecord .localTyping none).1.interp with localOpen := true } }
      else (s.openRecord .localTyping none).1) := by
  have hroom : Written s s.roomForRec := s.makeRoom_written _ _
  have hsteps := (State.makeRoom_spaceSteps (fun st => 0 < st.freeRecs) maxRecords s).1
  have hb' : s.roomForRec.store.blockOpen = false := hsteps.blockOpen.trans hb
  have hl' : s.roomForRec.interp.localOpen = false := (congrArg Interp.localOpen hsteps.interp).trans hl
  by_cases hfree : 0 < s.roomForRec.store.freeRecs
  · rw [show s.openRecord .localTyping none = (s.roomForRec.addRec .localTyping none, true) by
      simp [State.openRecord, hfree]]
    refine hroom.trans ⟨State.addRec_keeps s.roomForRec .localTyping none s.roomForRec.recv
      { s.roomForRec.interp with localOpen := true } (fun h => ?_) hfree (fun h => ?_) (fun h => h.headerRecord)
      (fun _ => rfl) rfl rfl, (.same (by rfl))⟩
    · exact Store.closed_of_not_open hb' (h.localRecord.symm.trans hl')
    · rw [← h.blockRecord, hb']
      simp
  · rw [show s.openRecord .localTyping none = (s.roomForRec.latch .storeFull, false) by
      simp [State.openRecord, hfree]]
    exact hroom.trans (State.latch_written _ _)

theorem State.localRequest_written (s : State) (p : Press) (cs : List Code) : Written s (s.localRequest p cs) := by
  unfold State.localRequest
  split
  · exact s.appendAll_written cs
  · rename_i hl
    split
    · exact .same (by rfl)
    · rename_i hb
      have hopen := State.openLocal_written (by simpa using hb) (by simpa using hl)
      dsimp only
      split
      · rename_i ho
        rw [if_pos ho] at hopen
        exact hopen.trans (State.appendAll_written _ _)
      · rename_i ho
        rw [if_neg ho] at hopen
        exact hopen.trans (State.bell_side _).written

theorem execHeldEventRetry_done {s t : State} (h : execHeldEventRetry s = .next t) : Done .heldEventRetry s t := by
  refine .of_whenPowered h ?_
  split
  · exact .refl _ _
  · split
    · exact .refl _ _
    · exact Written.done (Written.trans (t := { s with interp := { s.interp with held := none } }) (.same (by rfl))
        (State.localRequest_written _ _ _))

/-! ### Keys of the composition -/

/-- A composition READY: a wake, and work for an IDLE Sender (R132). -/
theorem State.compReady_done {c : Instr} {s v : State} (h : Written s v) : Done c s v.compReady.settle :=
  .of_settle ((h.keeps.trans v.wake_keeps).trans (State.workAppears_side _).keeps)
    (.of_wake h.apart.stands (State.workAppears_side _).apart.stands)

/-- A key of an identity draft: the Answer Unit's items that no measure reads. -/
theorem State.setDraft_done {c : Instr} {s : State} {a : Answer} (h : Keeps s { s with answer := a })
    (hrest : a.rest = s.answer.rest) (hdormancy : a.dormancy = s.answer.dormancy) (hpower : a.power = s.answer.power)
    (hattend : a.attend = s.answer.attend) : Done c s { s with answer := a } :=
  .of_still h (.of_stands ⟨hrest, hdormancy, hpower, rfl, rfl⟩)
    ⟨hrest, hdormancy, hpower, hattend, rfl, rfl, rfl, rfl, rfl⟩

theorem State.draftCharacter_done {c : Instr} {s : State} {draft : List Code} (hd : s.answer.draft = some draft)
    (p : Press) : Done c s (s.draftCharacter draft p) := by
  unfold State.draftCharacter
  split
  · split
    · exact s.bell_done c
    · split
      · exact State.setDraft_done { identity := fun h => by rw [h.noDraft] at hd; cases hd } rfl rfl rfl rfl
      · exact s.bell_done c
  · exact s.bell_done c

theorem State.takeCharacterKey_written (s : State) (p : Press) (c : Code) : Written s (s.takeCharacterKey p c) := by
  unfold State.takeCharacterKey
  split
  · split
    · exact s.editOpen_written _ (Comp.address_edits c)
    · exact s.appendUnit_written _
  · split
    · exact s.localRequest_written _ _
    · exact (State.bell_side _).written

theorem execCharacterKey_done {s t : State} (h : execCharacterKey s = .next t) : Done .characterKey s t := by
  refine .of_withKey h fun p u => ?_
  split
  · exact State.draftCharacter_done ‹_› p
  · split
    · exact u.bell_done _
    · exact (u.takeCharacterKey_written _ _).done

theorem execModifierKey_done {s t : State} (h : execModifierKey s = .next t) : Done .modifierKey s t := by
  refine .of_withKey h fun p u => ?_
  split
  · exact u.bell_done _
  · exact .refl _ _

theorem execCallKey_done {s t : State} (h : execCallKey s = .next t) : Done .callKey s t := by
  refine .of_withFunctionKey h fun u => ?_
  split
  · exact u.bell_done _
  · rename_i hc
    simp only [Bool.or_eq_true, decide_eq_true_eq, not_or, Option.not_isSome_iff_eq_none] at hc
    exact (State.addComp_written (by omega) (.inr rfl) fun _ => hc.1).done

/-- The OPEN composition in another state or of another kind (R129, R132, R133). -/
theorem Comp.restate_edits {f : Comp → Comp} (hf : ∀ c : Comp, f c = { c with state := (f c).state, kind := (f c).kind }) :
    Comp.Edits f 0 where
  inRange c h := by
    rw [hf c]
    exact ⟨h.number, h.noRepeat, h.digit, h.digitRoom, h.yields⟩
  cells c := by
    rw [hf c]
    exact Nat.le.refl

theorem State.takeReturn_written (s : State) (p : Press) : Written s (s.takeReturn p) := by
  unfold State.takeReturn
  split
  · split
    · split
      · exact s.onOpen_written (Comp.restate_edits fun _ => rfl) (Nat.zero_le _)
      · exact (State.bell_side _).written
    · exact s.appendUnit_written _
  · split
    · exact s.localRequest_written _ _
    · exact (State.bell_side _).written

theorem execReturnKey_done {s t : State} (h : execReturnKey s = .next t) : Done .returnKey s t := by
  refine .of_withKey h fun p u => ?_
  split
  · rename_i d hd
    refine State.setDraft_done { identity := fun h => ?_ } rfl rfl rfl rfl
    rw [h.noDraft] at hd
    cases hd
  · exact (u.takeReturn_written p).done

/-- An edit of the OPEN composition that leaves its state leaves the rest condition. -/
theorem State.editOpen_still (s : State) (c : Comp) {f : Comp → Comp × Bool} (hf : ∀ x : Comp, (f x).1.state = x.state) :
    Still s (s.editOpen c f) := by
  have hcond : (s.interp.onOpen fun x => (f x).1).comps.any (fun c => c.isOpen || c.state == .ready) =
      s.interp.comps.any fun c => c.isOpen || c.state == .ready := by
    refine any_map_of_eq (fun x => ?_) _
    have hstate : (if x.isOpen then (f x).1 else x).state = x.state := by
      split
      · exact hf x
      · rfl
    have hopen : (if x.isOpen then (f x).1 else x).isOpen = x.isOpen := by
      rw [Comp.isOpen, hstate]
      rfl
    rw [hopen, hstate]
  have hrest : ({ s with interp := s.interp.onOpen fun x => (f x).1 } : State).restCondition = s.restCondition := by
    rw [State.restCondition, hcond, State.restCondition]
  unfold State.editOpen
  dsimp only
  split
  · exact ⟨rfl, rfl, rfl, rfl, hrest, rfl, rfl, rfl, rfl⟩
  · exact ⟨rfl, rfl, rfl, rfl, hrest, rfl, rfl, rfl, rfl⟩

theorem execRuboutKey_done {s t : State} (h : execRuboutKey s = .next t) : Done .ruboutKey s t := by
  refine .of_withKey h fun p u => ?_
  dsimp only
  split
  · exact u.bell_done _
  · rename_i d _ hd
    refine State.setDraft_done { identity := fun h => ?_ } rfl rfl rfl rfl
    rw [h.noDraft] at hd
    cases hd
  · split
    · exact (u.editOpen_written _ Comp.rubout_edits).done_still (u.editOpen_still _ Comp.rubout_state)
    · exact u.bell_done _

theorem State.releaseHeld_written (s : State) : Written s { s with interp := s.interp.releaseHeld } where
  keeps := { comps := State.CompsInBounds.of_matched (matched_updateFirst (fun c => Comp.Restated.refl c)
    (fun c => { isOpen := fun h => by simp [Comp.isOpen] at h }) _) }
  apart := .same (by rfl)

theorem State.takeSend_done (c : Instr) (s : State) : Done c s s.takeSend.settle := by
  unfold State.takeSend
  split
  · split
    · exact State.compReady_done (s.onOpen_written (Comp.restate_edits fun _ => rfl) (Nat.zero_le _))
    · exact (State.bell_side _).written.done
  · split
    · exact State.compReady_done s.releaseHeld_written
    · exact (State.bell_side _).written.done

theorem execSendKey_done {s t : State} (h : execSendKey s = .next t) : Done .sendKey s t :=
  .of_withFunctionKey h fun u => u.takeSend_done _

theorem State.takeQuery_done (c : Instr) (s : State) : Done c s s.takeQuery.settle := by
  unfold State.takeQuery
  split
  · split
    · exact State.compReady_done (s.onOpen_written (Comp.restate_edits fun _ => rfl) (Nat.zero_le _))
    · exact (State.bell_side _).written.done
  · exact (State.bell_side _).written.done

theorem execQueryKey_done {s t : State} (h : execQueryKey s = .next t) : Done .queryKey s t :=
  .of_withFunctionKey h fun u => u.takeQuery_done _

theorem execHereKey_done {s t : State} (h : execHereKey s = .next t) : Done .hereKey s t := by
  refine .of_withFunctionKey h fun u => ?_
  split
  · exact u.bell_done _
  · exact State.compReady_done (State.addComp_written (by omega) (.inl rfl) (by simp))

theorem State.withdrawSource_written (s : State) (n : Nat) : Written s (s.withdrawSource n) := by
  unfold State.withdrawSource
  split
  · split
    · exact s.chooseNext_written
    · exact s.setSender_written _ rfl rfl
    · exact .refl s
    · exact .refl s
  · exact .refl s

theorem State.takeCancel_written (s : State) (c : Comp) : Written s (s.takeCancel c) := by
  unfold State.takeCancel
  have hdrop : Written s { s with interp := s.interp.dropNewest } :=
    ⟨{ comps := State.CompsInBounds.sublist (List.dropLast_sublist _) }, .same (by rfl)⟩
  dsimp only
  split
  · exact hdrop
  · exact hdrop
  · exact hdrop
  · exact hdrop.trans (State.withdrawSource_written _ _)
  · exact hdrop.trans (State.setSender_written _ _ rfl rfl)
  · refine (hdrop.trans ?_).trans (State.workAppears_side _).written
    exact State.setSender_written _ _ rfl rfl

theorem execCancelKey_done {s t : State} (h : execCancelKey s = .next t) : Done .cancelKey s t := by
  refine .of_withKey h fun p u => ?_
  split
  · exact State.setDraft_done { identity := fun h => ⟨⟨h.locked, rfl, h.noCycle⟩, rfl⟩ } rfl rfl rfl rfl
  · split
    · exact u.bell_done _
    · exact (u.takeCancel_written _).done

theorem State.takeBreak_written (s : State) : Written s s.takeBreak :=
  ⟨s.takeBreak_keeps, (Written.ite s.cutBlock_written (.refl s)).apart.trans (.same (by rfl))⟩

theorem execBreakKey_done {s t : State} (h : execBreakKey s = .next t) : Done .breakKey s t := by
  refine .of_withKey h fun p u => ?_
  split
  · exact u.bell_done _
  · exact u.takeBreak_written.done

theorem execLocalKey_done {s t : State} (h : execLocalKey s = .next t) : Done .localKey s t := by
  refine .of_withFunctionKey h fun u => ?_
  dsimp only
  split
  · exact Written.done_still (.same (by rfl)) (.same (by rfl))
  · by_cases hl : u.interp.localOpen = true
    · rw [if_pos hl]
      refine Written.done ⟨u.closeRecord_keeps .complete u.recv { u.interp with mode := .line, localOpen := false }
        (fun hs => ⟨fun hb => ?_, hs.headerRecord⟩) (fun _ => rfl) rfl rfl, (.same (by rfl))⟩
      have hnone := hs.recsShape.localOpen_of_blockOpen (hs.blockRecord.mpr hb)
      rw [← hs.localRecord, hl] at hnone
      cases hnone
    · rw [if_neg hl]
      have hfalse : u.interp.localOpen = false := by simpa using hl
      exact Written.done ⟨{ shape := fun hs => { hs with localRecord := hfalse.symm.trans hs.localRecord } }, .same (by rfl)⟩

theorem execAttendKey_done {s t : State} (h : execAttendKey s = .next t) : Done .attendKey s t :=
  .of_withKey h fun _ _ => .of_settle (.same (by rfl)) (.of_stands (.same (by rfl)))

theorem execStatusKey_done {s t : State} (h : execStatusKey s = .next t) : Done .statusKey s t := by
  refine .of_withFunctionKey h fun u => ?_
  split
  · unfold State.acceptStatus
    dsimp only
    split
    · exact .of_settle (.same (by rfl)) (.of_stands (.same (by rfl)))
    · split
      · exact .of_settle (.same (by rfl)) (.of_stands (.same (by rfl)))
      · exact .of_settle (.same (by rfl)) (.of_stands (.same (by rfl)))
      · exact .of_settle (.same (by rfl)) (.of_stands (.same (by rfl)))
  · exact u.bell_done _

theorem execFeedKey_done {s t : State} (h : execFeedKey s = .next t) : Done .feedKey s t := by
  refine .of_withFunctionKey h fun u => ?_
  have hfeed : Done .feedKey u (if u.printer.pendingFeeds < 3 then
      State.settle { u with printer := { u.printer with pendingFeeds := u.printer.pendingFeeds + 1 } } else u.bell) := by
    split
    · refine .of_settle (u.eased_keeps { feeds := fun _ => ?_ }) (.of_stands (.same (by rfl)))
      assumption
    · exact u.bell_done _
  dsimp only
  split
  · exact hfeed
  · exact hfeed
  · exact hfeed
  · exact u.bell_done _
  · exact u.bell_done _
  · exact .refl _ _

/-- The punch's own items are read by no measure. -/
theorem Stands.of_punch {s : State} {p : Punch} : Stands s { s with punch := p } := .same (by rfl)

theorem State.dropWaitingRow_stands (s : State) : Stands s s.dropWaitingRow := by
  unfold State.dropWaitingRow
  split
  · exact .same (by rfl)
  · split
    · exact .same (by rfl)
    · exact .same (by rfl)

theorem State.stopManual_stands (s : State) : Stands s s.stopManual := by
  unfold State.stopManual
  dsimp only
  split
  · exact s.dropWaitingRow_stands.trans (.same (by rfl))
  · exact .same (by rfl)

/-- A waiting row gone, or the row that is in its cycle. -/
theorem State.dropWaitingRow_row (s : State) : s.dropWaitingRow.punch = { s.punch with row := s.dropWaitingRow.punch.row } ∧
    (s.dropWaitingRow.punch.row = s.punch.row ∨ s.dropWaitingRow.punch.row = none) := by
  unfold State.dropWaitingRow
  split
  · exact ⟨rfl, .inl rfl⟩
  · split
    · exact ⟨rfl, .inr rfl⟩
    · exact ⟨rfl, .inl rfl⟩

end Sys2Proof.Machine
end

section
/-! The remaining keys, the Answer Unit's timers and cycles, and the Key Sense Unit (spec/05, spec/06, spec/07) are
`Done`. -/
namespace Sys2Proof.Machine

/-! ### PUNCH, CTRL+FEED and the identity keys -/

/-- The punch's own items and the supply's are read by no measure. -/
theorem State.takePunch_stands (s : State) : Stands s s.takePunch := by
  unfold State.takePunch
  split
  · split
    · exact .same (by rfl)
    · split
      · exact s.dropWaitingRow_stands.trans (.same (by rfl))
      · exact .same (by rfl)
  · exact s.stopManual_stands.trans (.same (by rfl))
  · exact s.stopManual_stands.trans (.same (by rfl))
  · exact .same (by rfl)
  · exact .same (by rfl)

theorem State.stopManual_state (s : State) : s.stopManual.punch.state = s.punch.state := by
  unfold State.stopManual
  dsimp only
  split
  · rw [(s.dropWaitingRow_row).1]
  · rfl

/-- A row that waits is gone with its request (R182, R186, R188). -/
theorem State.dropWaitingRow_of_waiting {s : State} {r : Row} (hr : s.punch.row = some r) (hw : r.stage = .waiting) :
    s.dropWaitingRow = { s.withdraw .punch with punch := { s.punch with row := none } } := by
  simp [State.dropWaitingRow, hr, hw]

theorem State.takePunch_keeps (s : State) : Keeps s s.takePunch := by
  unfold State.takePunch
  split
  case h_1 hs =>
    have hne : s.punch.state ≠ .fault := by rw [hs]; decide
    split
    · rename_i hrow
      exact s.punchEased_keeps { running := fun h => absurd hrow h, fault := fun hf => absurd hf hne }
    · rename_i r hr
      split
      · rename_i hw
        rw [State.dropWaitingRow_of_waiting hr (by simpa using hw)]
        exact (s.withdraw_keeps .punch).trans (State.punchEased_keeps _
          { row := nofun, running := fun h => absurd rfl h, fault := fun hf => absurd hf hne })
      · exact .same (by rfl)
  case h_2 hs =>
    have hstate : s.stopManual.punch.state = .idle := s.stopManual_state.trans hs
    exact s.stopManual_keeps.trans (State.punchEased_keeps _
      { running := fun _ h => absurd (hstate.symm.trans h) (by decide),
        fault := fun h => absurd (hstate.symm.trans h) (by decide) })
  case h_3 hs =>
    have hstate : s.stopManual.punch.state = .suspended := s.stopManual_state.trans hs
    exact s.stopManual_keeps.trans (State.punchEased_keeps _
      { running := fun _ h => absurd (hstate.symm.trans h) (by decide),
        fault := fun h => absurd (hstate.symm.trans h) (by decide) })
  · exact s.bell_keeps
  · exact s.bell_keeps

theorem execPunchKey_done {s t : State} (h : execPunchKey s = .next t) : Done .punchKey s t :=
  .of_withFunctionKey h fun u => .of_settle u.takePunch_keeps (.of_stands u.takePunch_stands)

theorem execCtrlFeed_done {s t : State} (h : execCtrlFeed s = .next t) : Done .ctrlFeed s t := by
  refine .of_withFunctionKey h fun u => ?_
  have hleader : Done .ctrlFeed u (if u.punch.manualUnderWay then u.bell
      else State.settle { u with punch := { u.punch with manual := 20 } }) := by
    split
    · exact u.bell_done _
    · exact .of_settle (u.punchEased_keeps { manual := fun _ => Nat.le.refl }) (.of_stands (.same (by rfl)))
  dsimp only
  split
  · exact hleader
  · exact hleader
  all_goals exact u.bell_done _

theorem execCtrlHere_done {s t : State} (h : execCtrlHere s = .next t) : Done .ctrlHere s t := by
  refine .of_withFunctionKey h fun u => ?_
  unfold State.openDraft
  split
  · rename_i hc
    simp only [Bool.and_eq_true, Bool.not_eq_true'] at hc
    refine State.setDraft_done { identity := fun h => ?_ } rfl rfl rfl rfl
    have := h.locked
    simp_all
  · exact u.bell_done _

theorem execCtrlLocal_done {s t : State} (h : execCtrlLocal s = .next t) : Done .ctrlLocal s t := by
  refine .of_withKey h fun p u => ?_
  unfold State.lockIdentity
  split
  · rename_i hc
    simp only [Bool.and_eq_true, Bool.not_eq_true'] at hc
    refine State.setDraft_done { identity := fun h => ?_ } rfl rfl rfl rfl
    have := h.locked
    simp_all
  · exact u.bell_done _

/-! ### The Answer Unit's timers and cycles -/

theorem execAttendTimerExpiry_done {s t : State} (h : execAttendTimerExpiry s = .next t) :
    Done .attendTimerExpiry s t :=
  .of_whenPowered h (.of_settle (.same (by rfl)) (.of_stands (.same (by rfl))))

theorem State.leaveActive_answer (s : State) :
    s.leaveActive.answer = { s.answer with power := .quiet, rest := none, dormancy := none } := by
  have hdrop : s.dropWaitingRow.answer = s.answer := by
    unfold State.dropWaitingRow
    split
    · rfl
    · split <;> rfl
  have hstop : s.dropWaitingRow.stopManual.answer = s.answer := by
    unfold State.stopManual
    dsimp only
    split
    · rw [← hdrop]
      generalize s.dropWaitingRow = u
      show u.dropWaitingRow.answer = u.answer
      unfold State.dropWaitingRow
      split
      · rfl
      · split <;> rfl
    · exact hdrop
  unfold State.leaveActive
  rw [← hstop]

theorem Printer.leaveActive_state (p : Printer) : p.leaveActive.state ≠ .ready := by
  unfold Printer.leaveActive
  split
  all_goals simp_all

theorem State.leaveActive_store (s : State) : s.leaveActive.store = s.store := by
  have hdrop : ∀ u : State, u.dropWaitingRow.store = u.store := fun u => by
    unfold State.dropWaitingRow
    split
    · rfl
    · split <;> rfl
  show s.dropWaitingRow.stopManual.store = _
  rw [← hdrop s]
  generalize s.dropWaitingRow = u
  unfold State.stopManual
  dsimp only
  split
  · exact hdrop u
  · rfl

/-- A station at rest has no work in the store (R96). -/
theorem State.not_work_of_restCondition {s : State} (h : s.restCondition = true) : ¬s.store.work := by
  simp only [State.restCondition, Bool.and_eq_true, Bool.not_eq_true'] at h
  rintro (hw | hw)
  · rw [h.1.1.1.1] at hw; cases hw
  · rw [h.1.1.1.2] at hw; cases hw

theorem execRestMeasureExpiry_done {s t : State} (h : execRestMeasureExpiry s = .next t) :
    Done .restMeasureExpiry s t := by
  refine .of_whenPowered h ?_
  split
  · exact .refl _ _
  · rename_i i hi
    split
    · rename_i hc
      simp only [Bool.and_eq_true, beq_iff_eq] at hc
      obtain ⟨hactive, hrest⟩ := hc
      have hanswer := State.leaveActive_answer (s.reach (i + ms 30000))
      refine .of_settle ((s.reach_keeps _).trans (State.leaveActive_keeps _)) ⟨fun _ => ?_, nofun, ?_, ?_, ?_, ?_⟩
      · exact ⟨fun h => absurd rfl h, fun h => absurd h (Printer.leaveActive_state _)⟩
      · rw [hanswer]; exact nofun
      · rw [hanswer]
        rintro - - (hp | hw)
        · cases hp
        · rw [State.leaveActive_store] at hw
          exact absurd hw (State.not_work_of_restCondition hrest)
      · rw [hanswer]; exact nofun
      · rintro hs - -
        refine Classical.byContradiction fun hn => ?_
        exact absurd (hactive.symm.trans (hs.dormancy.mp hn).1) (by decide)
    · exact .refl _ _

theorem execDormancyMeasureExpiry_done {s t : State} (h : execDormancyMeasureExpiry s = .next t) :
    Done .dormancyMeasureExpiry s t := by
  refine .of_whenPowered h ?_
  dsimp only
  split
  · exact .refl _ _
  · split
    · rename_i hc
      simp only [Bool.and_eq_true, beq_iff_eq] at hc
      refine .of_settle (.same (by rfl)) ⟨id, fun x hx => .inl hx, fun x hx => hx, fun hs _ _ => .inl ?_, nofun, nofun⟩
      refine Classical.byContradiction fun hn => ?_
      exact absurd (hc.1.symm.trans (hs.rest.mp hn).1) (by decide)
    · exact .refl _ _

/-- The identity memory and its cycle are read by no measure, and a locked one has no cycle (R88). -/
theorem State.setMemory_written {s : State} (i : Nat) (m : IdMemory) (c : Cycle) (h : s.answer.cycle ≠ .idle) :
    Keeps s { s.reach i with answer := { s.answer with memory := m, cycle := c } } ∧
      Stands s { s.reach i with answer := { s.answer with memory := m, cycle := c } } :=
  ⟨{ identity := fun hl => absurd hl.noCycle h }, (.same (by rfl))⟩

theorem execWriteCycleStep_done {s t : State} {lastMark : Bool} (h : execWriteCycleStep lastMark s = .next t) :
    Done (.writeCycleStep lastMark) s t := by
  refine .of_whenPowered h ?_
  dsimp only
  split
  · exact .refl _ _
  · exact .refl _ _
  · rename_i text step since hc
    have hne : s.answer.cycle ≠ .idle := by rw [hc]; simp
    split
    · exact .of_still (State.setMemory_written _ _ _ hne).1 (.of_stands (State.setMemory_written _ _ _ hne).2) (.same (by rfl))
    · have hstart := State.startAfterCycle_written { s.reach (since + ms 20) with answer := { s.answer with
        memory := s.answer.memory.writeStep text step, cycle := .idle } } lastMark
      exact .of_settle ((State.setMemory_written _ _ _ hne).1.trans hstart.keeps)
        (.of_stands ((State.setMemory_written _ _ _ hne).2.trans hstart.apart.stands))

theorem execLockCycleEnd_done {s t : State} {lastMark : Bool} (h : execLockCycleEnd lastMark s = .next t) :
    Done (.lockCycleEnd lastMark) s t := by
  refine .of_whenPowered h ?_
  dsimp only
  split
  · exact .refl _ _
  · exact .refl _ _
  · rename_i since hc
    have hne : s.answer.cycle ≠ .idle := by rw [hc]; simp
    have hstart := State.startAfterCycle_written { s.reach (since + ms 20) with answer := { s.answer with
      memory := { s.answer.memory with lock := true, openCycle := false }, cycle := .idle } } lastMark
    exact .of_settle ((State.setMemory_written _ _ _ hne).1.trans hstart.keeps)
      (.of_stands ((State.setMemory_written _ _ _ hne).2.trans hstart.apart.stands))

/-! ### Sensing records -/

theorem KeyRec.reset_inRange : KeyRec.reset.inRange := ⟨by decide, by decide, by decide, by decide⟩

theorem filterCount_le {f : Nat} (h : f ≤ 4095) (c : Nat) : filterCount f c ≤ 4095 := by
  unfold filterCount
  omega

theorem KeyRec.takeState_inRange {r : KeyRec} (h : r.inRange) (now : Nat) (dc t release : Int) :
    (r.takeState now dc t release).inRange := by
  obtain ⟨hf, hl, hd, he⟩ := h
  unfold KeyRec.takeState
  split
  · split
    · exact ⟨hf, hl, by simp, he⟩
    · exact ⟨hf, hl, by simp, he⟩
  · split
    · split
      · exact ⟨hf, hl, Nat.le.refl, he⟩
      · exact ⟨hf, hl, by dsimp only; omega, he⟩
    · exact ⟨hf, hl, by simp, he⟩
  · split
    · exact ⟨hf, hl, by simp, he⟩
    · exact ⟨hf, hl, by simp, he⟩
  · split
    · exact ⟨hf, hl, by simp, he⟩
    · exact ⟨hf, hl, by simp, he⟩

theorem KeyRec.takeExcursion_inRange {r : KeyRec} (h : r.inRange) (dc t : Int) : (r.takeExcursion dc t).inRange := by
  obtain ⟨hf, hl, hd, -⟩ := h
  refine ⟨hf, hl, hd, ?_⟩
  unfold KeyRec.takeExcursion
  dsimp only
  split
  · exact Nat.min_le_right ..
  · exact Nat.zero_le _

/-- A baseline at 16·F is in range (R102). -/
theorem KeyRec.baseline_le {f : Nat} (h : f ≤ 4095) : 16 * f ≤ maxL16 := by
  show 16 * f ≤ 65520
  omega

theorem KeyRec.sense_inRange {r : KeyRec} (h : r.inRange) {f : Nat} (hf : f ≤ 4095) (now p : Nat) (corr : Int) :
    (r.sense now p f corr).inRange := by
  obtain ⟨-, hl, hd, he⟩ := h
  have hr : KeyRec.inRange { r with f := f } := ⟨hf, hl, hd, he⟩
  unfold KeyRec.sense
  dsimp only
  split
  · exact ⟨hf, KeyRec.baseline_le hf, Nat.zero_le _, Nat.zero_le _⟩
  · exact KeyRec.takeExcursion_inRange (KeyRec.takeState_inRange hr _ _ _ _) _ _

theorem moveBaseline_le (up down f l16 : Nat) : moveBaseline up down f l16 ≤ maxL16 := Nat.min_le_left ..

theorem KeyRec.stage6_inRange {r : KeyRec} (h : r.inRange) (p : Nat) (free : Bool) : (r.stage6 p free).inRange := by
  obtain ⟨hf, hl, hd, he⟩ := h
  unfold KeyRec.stage6
  split
  · exact ⟨hf, moveBaseline_le .., hd, he⟩
  · split
    · split
      · exact ⟨hf, KeyRec.baseline_le hf, hd, Nat.zero_le _⟩
      · exact ⟨hf, moveBaseline_le .., hd, he⟩
    · exact ⟨hf, hl, hd, he⟩

theorem keyAt_inRange {l : List KeyRec} (h : ∀ r ∈ l, r.inRange) (p : Nat) : (keyAt l p).inRange := by
  unfold keyAt
  by_cases hp : p < l.length
  · rw [List.getD_eq_getElem?_getD, List.getElem?_eq_getElem hp, Option.getD_some]
    exact h _ (List.getElem_mem hp)
  · rw [List.getD_eq_getElem?_getD, List.getElem?_eq_none (Nat.le_of_not_lt hp), Option.getD_none]
    exact KeyRec.reset_inRange

/-- The sensing records in their ranges (R102). -/
def keysSound (l : List KeyRec) : Prop := l.length = keyPositions ∧ ∀ r ∈ l, r.inRange

theorem keysSound_perPosition {f : Nat → KeyRec} (h : ∀ p, (f p).inRange) : keysSound (perPosition f) := by
  refine ⟨by simp [perPosition], fun r hr => ?_⟩
  obtain ⟨p, -, rfl⟩ := List.mem_map.mp hr
  exact h p

theorem senseAll_sound {l : List KeyRec} (h : ∀ r ∈ l, r.inRange) (now : Nat) (counts : List Nat) :
    keysSound (senseAll l now counts) := by
  have hf : ∀ p, filterCount (keyAt l p).f (counts.getD p 0) ≤ 4095 := fun p =>
    filterCount_le (keyAt_inRange h p).1 _
  refine keysSound_perPosition fun p => ?_
  split
  · exact KeyRec.sense_inRange (keyAt_inRange h p) (hf p) _ _ _
  · obtain ⟨-, hl, hd, he⟩ := keyAt_inRange h p
    exact ⟨hf p, hl, hd, he⟩

theorem bringForward_sound {l : List KeyRec} (h : ∀ r ∈ l, r.inRange) : keysSound (bringForward l) :=
  keysSound_perPosition fun p => KeyRec.stage6_inRange (keyAt_inRange h p) _ _

theorem seedFilter_sound {l : List KeyRec} (h : ∀ r ∈ l, r.inRange) (taken : Nat) (counts : List Nat) :
    keysSound (seedFilter l taken counts) := by
  refine keysSound_perPosition fun p => ?_
  obtain ⟨hf, hl, hd, he⟩ := keyAt_inRange h p
  refine ⟨?_, hl, hd, he⟩
  dsimp only
  split
  · exact Nat.min_le_right ..
  · exact filterCount_le hf _

theorem seedBaselines_sound {l : List KeyRec} (h : ∀ r ∈ l, r.inRange) : keysSound (seedBaselines l) := by
  refine keysSound_perPosition fun p => ?_
  obtain ⟨hf, -, hd, he⟩ := keyAt_inRange h p
  exact ⟨hf, KeyRec.baseline_le hf, hd, he⟩

theorem length_updateAt {α : Type} (f : α → α) (p : Nat) (l : List α) : (updateAt f p l).length = l.length := by
  induction l generalizing p with
  | nil => cases p <;> rfl
  | cons a l ih =>
    cases p with
    | zero => rfl
    | succ p => exact congrArg Nat.succ (ih p)

theorem mem_updateAt {α : Type} {f : α → α} {p : Nat} {l : List α} {x : α} (h : x ∈ updateAt f p l) :
    x ∈ l ∨ ∃ y ∈ l, x = f y := by
  induction l generalizing p with
  | nil => cases p <;> cases h
  | cons a l ih =>
    cases p with
    | zero =>
      rcases List.mem_cons.mp h with rfl | h
      · exact .inr ⟨a, List.mem_cons_self, rfl⟩
      · exact .inl (List.mem_cons_of_mem _ h)
    | succ p =>
      rcases List.mem_cons.mp h with rfl | h
      · exact .inl List.mem_cons_self
      · rcases ih h with h | ⟨y, hy, rfl⟩
        · exact .inl (List.mem_cons_of_mem _ h)
        · exact .inr ⟨y, List.mem_cons_of_mem _ hy, rfl⟩

/-- Only the sensing records changed. -/
theorem State.setKeys_keeps (s : State) {k : KeySense} (h : s.KeysInRange → keysSound k.recs) :
    Keeps s { s with keys := k } :=
  { keys := fun hk => ⟨(h hk).1, (h hk).2⟩ }

theorem State.onKey_keeps (s : State) (p : Nat) {f : KeyRec → KeyRec} (hf : ∀ r : KeyRec, r.inRange → (f r).inRange) :
    Keeps s (s.onKey p f) := by
  refine s.setKeys_keeps fun h => ⟨(length_updateAt f p _).trans h.positions, fun r hr => ?_⟩
  rcases mem_updateAt hr with hr | ⟨y, hy, rfl⟩
  · exact h.ranges r hr
  · exact hf y (h.ranges y hy)

/-! ### Press events -/

/-- What press events and wakes do to the measures: they stop the rest measure, and leave QUIET if they do not find
it (R96, R98). -/
structure Roused (s t : State) : Prop where
  idle : t.diag.idleSince = s.diag.idleSince
  ready : t.printer.state = .ready ↔ s.printer.state = .ready
  rest : ∀ x, t.answer.rest = some x → s.answer.rest = some x
  dormancy : ∀ x, t.answer.dormancy = some x → s.answer.dormancy = some x
  quiet : t.answer.power = .quiet → s.answer.power = .quiet ∧ t.answer.dormancy = s.answer.dormancy

theorem Roused.trans {s t u : State} (h : Roused s t) (k : Roused t u) : Roused s u where
  idle := k.idle.trans h.idle
  ready := k.ready.trans h.ready
  rest x hx := h.rest x (k.rest x hx)
  dormancy x hx := h.dormancy x (k.dormancy x hx)
  quiet hq := ⟨(h.quiet (k.quiet hq).1).1, (k.quiet hq).2.trans (h.quiet (k.quiet hq).1).2⟩

theorem Stands.roused {s t : State} (h : Stands s t) : Roused s t where
  idle := h.idle
  ready := by rw [h.printer]
  rest x hx := h.rest ▸ hx
  dormancy x hx := h.dormancy ▸ hx
  quiet hq := ⟨h.power ▸ hq, h.dormancy⟩

theorem Roused.same {s t : State} (h : t.measured = s.measured) : Roused s t := (Stands.same h).roused

theorem State.wake_roused (s : State) : Roused s s.wake := by
  unfold State.wake
  split
  · exact .same (by rfl)
  · refine ⟨rfl, ?_, nofun, nofun, nofun⟩
    show (if s.printer.state == .off then _ else _) = _ ↔ _
    cases s.printer.state <;> decide

/-- In a press command the rest measure may begin again (R96). -/
theorem Moved.of_roused {c : Instr} {s u : State} (hc : isPressCommand c = true) (h : Roused s u) : Moved c s u where
  inReady hs := by rw [State.IdleInReady, h.idle, h.ready]; exact hs
  since x hx := .inl (h.idle ▸ hx)
  rest := h.rest
  restBegins _ _ _ := .inr hc
  dormancy := h.dormancy
  dormancyBegins _ hq hn := (h.quiet hq).2 ▸ hn

theorem State.reportPress_roused (s : State) (p : Press) : Roused s (s.reportPress p) := by
  refine Roused.trans ?_ (State.wake_roused _)
  exact ⟨rfl, Iff.rfl, nofun, fun _ h => h, fun h => ⟨h, rfl⟩⟩

theorem State.reportPress_keeps (s : State) (p : Press) : Keeps s (s.reportPress p) :=
  Keeps.trans (.same (by rfl)) (State.wake_keeps _)

theorem State.queuePress_written (s : State) (p : Press) : Written s (s.queuePress p) := by
  unfold State.queuePress
  split
  · exact s.latch_written _
  · rename_i hroom
    refine ⟨{ counters := fun h => { h with presses := ?_ } }, .same (by rfl)⟩
    rw [List.length_append]
    exact Nat.lt_of_not_le hroom

theorem State.makePress_keeps (s : State) (p : Press) : Keeps s (s.makePress p) :=
  (s.reportPress_keeps p).trans (State.queuePress_written _ p).keeps

theorem State.makePress_roused (s : State) (p : Press) : Roused s (s.makePress p) :=
  (s.reportPress_roused p).trans (State.queuePress_written _ p).apart.stands.roused

theorem State.makePresses_keeps (s : State) (l : List Press) :
    Keeps s (l.foldl State.makePress s) ∧ Roused s (l.foldl State.makePress s) := by
  induction l generalizing s with
  | nil => exact ⟨Keeps.refl s, (.same (by rfl))⟩
  | cons p l ih => exact ⟨(s.makePress_keeps p).trans (ih _).1, (s.makePress_roused p).trans (ih _).2⟩

/-! ### The commands of the Key Sense Unit -/

theorem State.scan_keeps (s : State) (counts : List Nat) : Keeps s (s.scan counts) ∧ Roused s (s.scan counts) := by
  unfold State.scan
  dsimp only
  have hkeys (k : KeySense) (hk : k.recs = bringForward (senseAll s.keys.recs s.now counts)) :
      Keeps s { s with keys := k } :=
    s.setKeys_keeps fun h => hk ▸ bringForward_sound (senseAll_sound h.ranges _ _).2
  have hstuck (b : Prop) [Decidable b] (k : KeySense)
      (hk : k.recs = bringForward (senseAll s.keys.recs s.now counts)) :
      Keeps s (if b then ({ s with keys := k } : State).latch .stuckKey else { s with keys := k }) ∧
      Roused s (if b then ({ s with keys := k } : State).latch .stuckKey else { s with keys := k }) := by
    split
    · exact ⟨(hkeys k hk).trans (State.latch_keeps _ _), (.same (by rfl))⟩
    · exact ⟨hkeys k hk, (.same (by rfl))⟩
  have hpress : ∀ (u : State) (l : List Press), Keeps u ((l.foldl State.makePress u).stepGenerator 1) ∧
      Roused u ((l.foldl State.makePress u).stepGenerator 1) := fun u l =>
    ⟨(u.makePresses_keeps l).1.trans (State.stepGenerator_keeps _ 1), (u.makePresses_keeps l).2.trans (.same (by rfl))⟩
  have hall := hstuck (anyForced s.keys.recs s.now = true) { s.keys with
    recs := bringForward (senseAll s.keys.recs s.now counts)
    repeatMeasure := nextRepeat s.keys.repeatMeasure (repeatKey (senseAll s.keys.recs s.now counts)) s.now
    lastScan := s.now } rfl
  split
  · exact ⟨(hall.1.trans (hpress _ _).1).trans (State.wake_keeps _), (hall.2.trans (hpress _ _).2).trans (State.wake_roused _)⟩
  · exact ⟨hall.1.trans (hpress _ _).1, hall.2.trans (hpress _ _).2⟩

theorem execKeyScan_done {s t : State} {counts : List Nat} (h : execKeyScan counts s = .next t) :
    Done (.keyScan counts) s t := by
  refine .of_whenPowered h ?_
  split
  · exact .of_settle ((s.reach_keeps _).trans (State.scan_keeps _ _).1)
      (.of_roused rfl (Roused.trans (.same (by rfl)) (State.scan_keeps _ _).2))
  · exact .refl _ _

theorem State.seedScan_keeps (s : State) (counts : List Nat) : Keeps s (s.seedScan counts) :=
  ((s.reach_keeps _).trans (State.setKeys_keeps _ fun h => seedFilter_sound h.ranges _ _)).trans
    (State.stepGenerator_keeps _ 1)

theorem State.seedScan_stands (s : State) (counts : List Nat) : Stands s (s.seedScan counts) := .same (by rfl)

theorem execSeedingScan_done {s t : State} {counts : List Nat} (h : execSeedingScan counts s = .next t) :
    Done (.seedingScan counts) s t := by
  refine .of_whenPowered h ?_
  split
  · exact .of_still (s.seedScan_keeps counts) (.of_stands (s.seedScan_stands counts)) (.same (by rfl))
  · exact .refl _ _

theorem execSeeded_done {s t : State} {counts : List Nat} (h : execSeeded counts s = .next t) :
    Done (.seeded counts) s t := by
  refine .of_whenPowered h ?_
  dsimp only
  split
  · have hbase : Keeps s { s.seedScan counts with keys := { (s.seedScan counts).keys with
        recs := seedBaselines (s.seedScan counts).keys.recs } } :=
      (s.seedScan_keeps counts).trans (State.setKeys_keeps _ fun h => seedBaselines_sound h.ranges)
    exact .of_settle (hbase.trans (State.checkStarting_keeps _))
      (.of_stands (Stands.trans (.same (by rfl)) (State.checkStarting_written _).2))
  · exact .refl _ _

theorem KeyRec.press_inRange {r : KeyRec} (h : r.inRange) (now : Nat) : (r.press now).inRange :=
  ⟨h.1, h.2.1, Nat.le.refl, h.2.2.2⟩

theorem KeyRec.forceRelease_inRange {r : KeyRec} (h : r.inRange) : r.forceRelease.inRange :=
  ⟨h.1, KeyRec.baseline_le h.1, Nat.zero_le _, Nat.zero_le _⟩

theorem KeyRec.reseed_inRange {r : KeyRec} (h : r.inRange) : r.reseed.inRange :=
  ⟨h.1, KeyRec.baseline_le h.1, h.2.2.1, Nat.zero_le _⟩

theorem execPressEvent_done {s t : State} {p : Nat} (h : execPressEvent p s = .next t) : Done (.pressEvent p) s t := by
  refine .of_whenPowered h ?_
  dsimp only
  split
  · exact .of_settle ((s.onKey_keeps p fun _ hr => KeyRec.press_inRange hr _).trans (State.makePress_keeps _ _))
      (.of_roused rfl (Roused.trans (.same (by rfl)) (State.makePress_roused _ _)))
  · exact .refl _ _

theorem execRepeatEvent_done {s t : State} (h : execRepeatEvent s = .next t) : Done .repeatEvent s t := by
  refine .of_whenPowered h ?_
  dsimp only
  split
  · exact .refl _ _
  · rename_i p i hm
    split
    · have hkeys : Keeps s { s.reach (i + ms 100) with keys := { s.keys with
          repeatMeasure := some (p, (s.reach (i + ms 100)).now) } } := .same (by rfl)
      exact .of_settle (hkeys.trans (State.makePress_keeps _ _))
        (.of_roused rfl (Roused.trans (.same (by rfl)) (State.makePress_roused _ _)))
    · exact .refl _ _

theorem execStuckKey_done {s t : State} {p : Nat} (h : execStuckKey p s = .next t) : Done (.stuckKey p) s t := by
  refine .of_whenPowered h ?_
  dsimp only
  split
  · exact .refl _ _
  · split
    · exact .of_still (((s.reach_keeps _).trans (State.onKey_keeps _ p fun _ hr => KeyRec.forceRelease_inRange hr)).trans
        (State.latch_keeps _ _)) (.of_stands (.same (by rfl))) (.same (by rfl))
    · exact .refl _ _

theorem execExcursionReseed_done {s t : State} {p : Nat} (h : execExcursionReseed p s = .next t) :
    Done (.excursionReseed p) s t := by
  refine .of_whenPowered h ?_
  dsimp only
  split
  · exact .of_still (s.onKey_keeps p fun _ hr => KeyRec.reseed_inRange hr) (.of_stands (.same (by rfl))) (.same (by rfl))
  · exact .refl _ _

end Sys2Proof.Machine
end

section
/-! The commands of the printer, the punch, the pacer, the supply and the sweeps (spec/08 to spec/11) are `Done`. -/
namespace Sys2Proof.Machine

/-! ### Stops of the printer -/

theorem State.dropHand_idles (s : State) : Idles s s.dropHand := by
  unfold State.dropHand
  split
  · exact .same (by rfl)
  · split
    · exact .same (by rfl)
    · split
      · exact .same (by rfl)
      · exact .same (by rfl)

theorem State.stopPrinter_idles (s : State) {p : PrinterState} (h : p ≠ .ready) : Idles s (s.stopPrinter p) :=
  .of_stopped rfl rfl h rfl

theorem State.enterPaperOut_idles (s : State) : Idles s s.enterPaperOut := .of_stopped rfl rfl (by simp [State.enterPaperOut, State.stopPrinter]) rfl

theorem State.enterPrinterFault_idles (s : State) : Idles s s.enterPrinterFault :=
  s.dropHand_idles.trans (.of_stopped rfl rfl (by simp [State.enterPrinterFault, State.stopPrinter]) rfl)

theorem State.applyStop_idles (s : State) : Idles s s.applyStop := by
  unfold State.applyStop
  split
  · exact .same (by rfl)
  · split
    · exact .same (by rfl)
    · exact s.enterPaperOut_idles
    · exact s.enterPrinterFault_idles

/-! ### Characters, steps, returns and feeds -/

theorem Rec.heading_length_le (r : Rec) : r.heading.length ≤ 6 := by
  unfold Rec.heading
  cases r.kind <;> cases r.peer <;> simp [twoDigits, textOf]

theorem EndReason.name_length_le (e : EndReason) : e.name.length ≤ 9 := by
  cases e <;> decide

theorem Rec.endLines_length_le (r : Rec) : r.endLines.length ≤ 24 := by
  have hreason : r.reasonLine.length ≤ 9 := by
    unfold Rec.reasonLine
    split
    · exact Nat.zero_le _
    · exact EndReason.name_length_le _
  have htruncated : r.truncatedLine.length ≤ 15 := by
    unfold Rec.truncatedLine
    split
    · have := plainDecimal_length_le r.dropped
      have hname : (textOf "TRUNCATED ").length = 10 := by decide
      rw [List.length_append, hname]
      omega
    · exact Nat.zero_le _
  rw [Rec.endLines, List.length_append]
  omega

/-- What `characterPrinted` does (R147, R152). -/
theorem State.characterPrinted_cases (s : State) :
    (s.printer.phase = .text ∧ s.characterPrinted = s.advancePrint) ∨
    ((s.printer.phase = .heading ∨ s.printer.phase = .endLines) ∧ ∃ pair, s.characterPrinted =
      { s with printer := { s.printer with index := s.printer.index + 1, pair := pair } }) ∨
    s.characterPrinted = s := by
  unfold State.characterPrinted
  split
  case h_1 h => exact .inl ⟨h, rfl⟩
  case h_2 h => exact .inr (.inl ⟨.inl h, s.printer.pair, rfl⟩)
  case h_3 h =>
    refine .inr (.inl ⟨.inr h, ?_⟩)
    dsimp only
    split
    · split
      · exact ⟨.both, rfl⟩
      · exact ⟨s.printer.pair, rfl⟩
    · exact ⟨s.printer.pair, rfl⟩
  all_goals exact .inr (.inr rfl)

theorem State.characterPrinted_idles (s : State) : Idles s s.characterPrinted := by
  obtain ⟨-, h⟩ | ⟨-, pair, h⟩ | h := s.characterPrinted_cases <;> rw [h] <;> exact .same (by rfl)

/-- The step after a firing has ended: the column is one further, and nothing is in hand (R152). -/
def State.stepped (s : State) (i : Nat) : State :=
  { s.reach i with printer := { s.printer with
    motion := .none, hand := none, column := s.printer.column.map (· + 1) } }

theorem State.stepped_keeps {s : State} {n : Nat} (hm : s.printer.motion = .step n) (i : Nat) :
    Keeps s (s.stepped i) := by
  refine (s.reach_keeps i).setPrinter _ (fun hc => ⟨hc.feeds, fun c hq => ?_, fun _ => ⟨rfl, nofun⟩⟩)
    (fun hp => .of_atRest ⟨rfl, rfl⟩ hp.positions hp.index) id
  obtain ⟨c', hc', rfl⟩ := Option.map_eq_some_iff.mp hq
  have hle := hc.column c' hc'
  have hne : c' ≠ 72 := fun h => (hc.stepRoom (h ▸ hc')).2 n hm
  omega

/-- A character printed on the phase the step began in (R152). -/
theorem State.steppedPrinted_keeps {s : State} {n : Nat} (hm : s.printer.motion = .step n) (i : Nat) :
    Keeps s (s.stepped i).characterPrinted := by
  have hstep := State.stepped_keeps hm i
  obtain ⟨hphase, h⟩ | ⟨hphase, pair, h⟩ | h := (s.stepped i).characterPrinted_cases <;> rw [h]
  · refine State.advancePrint_keeps hstep ⟨rfl, rfl⟩ fun hp => ?_
    have hon := hp.stepHas n hm
    rw [State.OnCharacter, show s.printer.phase = .text from hphase] at hon
    exact hon
  · refine hstep.setPrinter _ (fun hc => ?_) (fun hp => .of_atRest ⟨rfl, rfl⟩ hp.positions ?_) id
    · have hc' := hstep.counters hc
      exact ⟨hc'.feeds, hc'.column, hc'.stepRoom⟩
    · have hon := hp.stepHas n hm
      show s.printer.index + 1 ≤ 24
      rcases hphase with hphase | hphase
      · rw [State.OnCharacter, show s.printer.phase = .heading from hphase] at hon
        obtain ⟨r, -, hr⟩ := hon
        have := r.heading_length_le
        omega
      · rw [State.OnCharacter, show s.printer.phase = .endLines from hphase] at hon
        obtain ⟨r, -, hr⟩ := hon
        have := r.endLines_length_le
        omega
  · exact hstep

theorem execStepEnd_done {s t : State} (h : execStepEnd s = .next t) : Done .stepEnd s t := by
  refine .of_whenPowered h ?_
  dsimp only
  split
  · rename_i since hm
    exact .of_settle ((State.steppedPrinted_keeps hm _).trans (State.applyStop_keeps _))
      (.of_idles (v := s.stepped (since + ms 10)) (.same (by rfl))
        ((State.characterPrinted_idles _).trans (State.applyStop_idles _)))
  all_goals exact .refl _ _

/-- A return goes on, its cause standing (R154). -/
theorem State.carriage_keeps {s : State} {k p n k' p' n' : Nat} {b b' : Bool} {c : MotionCause}
    (hm : s.printer.motion = .carriage k p b n c) (i : Nat) :
    Keeps s { s.reach i with printer := { s.printer with motion := .carriage k' p' b' n' c } } := by
  refine (s.reach_keeps i).setPrinter _ (fun hc => ⟨hc.feeds, hc.column, fun hq => ⟨(hc.stepRoom hq).1, nofun⟩⟩)
    (fun hp => ?_) id
  obtain ⟨hhand, hcell⟩ := hp.returnHas _ _ _ _ _ hm
  refine ⟨hp.positions, hp.index, fun hh => absurd hhand hh, nofun, fun _ _ _ _ d hd => ⟨hhand, fun hd' => ?_⟩, nofun⟩
  cases hd
  exact hcell hd'

theorem execCarriageReturnStep_done {s t : State} {home : Bool} (h : execCarriageReturnStep home s = .next t) :
    Done (.carriageReturnStep home) s t := by
  refine .of_whenPowered h ?_
  dsimp only
  split
  · rename_i steps permitted since cause hm
    have hwork (i : Nat) (k p n : Nat) (b : Bool) : Still s { s.reach i with printer := { s.printer with
        motion := .carriage k p b n cause } } :=
      ⟨rfl, rfl, rfl, rfl, rfl, rfl, rfl, rfl, by rw [State.printerHasWork, State.printerHasWork, hm]; rfl⟩
    split
    · cases home
      · exact .of_still (State.carriage_keeps hm _) (.of_stands (.same (by rfl))) (hwork ..)
      · exact .of_still (State.carriage_keeps hm _) (.of_stands (.same (by rfl))) (hwork ..)
    · exact .refl _ _
  all_goals exact .refl _ _

/-- A motion ended, with what else its end sets (R153, R154, R155). -/
theorem State.motionEnd_keeps {s : State} {q : Printer} (i : Nat) (hhand : s.PrintInRange → s.printer.hand = none)
    (hmotion : q.motion = .none) (hq : q.hand = s.printer.hand) (hindex : q.index = s.printer.index)
    (hcolumn : q.column = some 0 ∨ q.column = s.printer.column)
    (hfeeds : q.pendingFeeds ≤ s.printer.pendingFeeds) (hstate : q.state = s.printer.state)
    (hstop : q.stop = s.printer.stop) : Keeps s { s.reach i with printer := q } := by
  refine (s.reach_keeps i).setPrinter _ (fun hc => ⟨Nat.le_trans hfeeds hc.feeds, fun c hs => ?_, fun hs => ?_⟩)
    (fun hp => .of_atRest ⟨hq.trans (hhand hp), hmotion⟩ hp.positions (le_of_eq_of_le hindex hp.index)) fun h =>
      ⟨hstate.trans h.1, hstop.trans h.2⟩
  · rcases hcolumn with k | k
    · rw [k] at hs; cases hs; exact Nat.zero_le _
    · exact hc.column c (k ▸ hs)
  · rcases hcolumn with k | k
    · rw [k] at hs; cases hs
    · exact ⟨hq.trans (hc.stepRoom (k ▸ hs)).1, fun n hn => by rw [hmotion] at hn; cases hn⟩

/-- The cell of a CR or LF counted at the end of its motion (R148). -/
theorem State.countCell_keeps {s u : State} {c : MotionCause} (hu : Keeps s u) (hmotion : u.printer.motion = .none)
    (hstore : u.store = s.store) (hhand : u.printer.hand = s.printer.hand)
    (hcell : s.PrintInRange → s.printer.hand = none ∧ (c = .cell → s.CellNext)) :
    Keeps s (if c == .cell then u.advancePrint else u) := by
  split
  · rename_i hc
    have hnext : s.PrintInRange → u.CellNext := fun hp => by
      rw [State.CellNext, hstore]
      exact (hcell hp).2 (by simpa using hc)
    refine hu.onPrint (fun r => ⟨rfl, rfl⟩) fun hp => .of_atRest ⟨hhand.trans (hcell hp).1, hmotion⟩ (fun x hx => ?_)
      (hu.print hp).index
    obtain ⟨r, hr, hpos⟩ := hnext hp
    rcases mem_updateFirst hx with hx | ⟨y, hy, rfl⟩
    · exact (hu.print hp).positions x hx
    · cases hr.symm.trans hy
      exact hpos
  · exact hu

theorem execCarriageReturnEnd_done {s t : State} (h : execCarriageReturnEnd s = .next t) :
    Done .carriageReturnEnd s t := by
  refine .of_whenPowered h ?_
  dsimp only
  split
  · rename_i since cause hm
    have hend (i : Nat) (p : Pair) : Keeps s { s.reach i with printer := { s.printer with
        motion := .none, column := some 0, returnOwed := false, pair := p } } :=
      State.motionEnd_keeps i (fun hp => (hp.returnHas _ _ _ _ _ hm).1) rfl rfl rfl (.inl rfl) Nat.le.refl rfl rfl
    refine .of_settle ((State.countCell_keeps (hend _ _) rfl rfl rfl fun hp => hp.returnHas _ _ _ _ _ hm).trans
      (State.applyStop_keeps _)) (.of_idles ?_ (State.applyStop_idles _))
    split
    · exact .same (by rfl)
    · exact .same (by rfl)
  all_goals exact .refl _ _

theorem execJam_done {s t : State} (h : execJam s = .next t) : Done .jam s t := by
  refine .of_whenPowered h ?_
  dsimp only
  split
  · rename_i steps permitted since cause hm
    split
    · have hjam (i : Nat) : Keeps s { (s.reach i).latch .jam with printer := { s.printer with motion := .none } } :=
        ((s.reach_keeps i).trans (State.latch_keeps _ .jam)).trans (State.eased_keeps _ { motion := .inr rfl })
      refine .of_settle ((hjam _).trans (State.enterPrinterFault_keeps _)) (.of_idles ?_ (State.enterPrinterFault_idles _))
      exact .same (by rfl)
    · exact .refl _ _
  all_goals exact .refl _ _

theorem execLineFeedEnd_done {s t : State} (h : execLineFeedEnd s = .next t) : Done .lineFeedEnd s t := by
  refine .of_whenPowered h ?_
  dsimp only
  split
  · rename_i since cause hm
    have hend (i : Nat) : Keeps s { s.reach i with printer := { s.printer with
        motion := .none, selector := .carriage
        pendingFeeds := if cause == MotionCause.feedKey then s.printer.pendingFeeds - 1 else s.printer.pendingFeeds } } := by
      refine State.motionEnd_keeps i (fun hp => (hp.feedHas _ _ hm).1) rfl rfl rfl (.inr rfl) ?_ rfl rfl
      dsimp only
      split
      · exact Nat.sub_le _ _
      · exact Nat.le.refl
    refine .of_settle ((State.countCell_keeps (hend _) rfl rfl rfl fun hp => hp.feedHas _ _ hm).trans
      (State.applyStop_keeps _)) (.of_idles ?_ (State.applyStop_idles _))
    split
    · exact .same (by rfl)
    · exact .same (by rfl)
  all_goals exact .refl _ _

/-! ### Spin-up and paper -/

theorem execSpinUpEnd_done {s t : State} (h : execSpinUpEnd s = .next t) : Done .spinUpEnd s t := by
  refine .of_whenPowered h ?_
  dsimp only
  split
  · rename_i hs
    have hne : s.printer.state ≠ .fault := fun hf => by simp [hf] at hs
    refine .of_settle (Keeps.trans (t := { s.reach (s.printer.spinUp + ms 400) with
      printer := { s.printer with state := .ready, spunUp := true } }) ?_ (.same (by rfl))) (.of_idles (v := s.reach (s.printer.spinUp + ms 400)) (.same (by rfl)) ?_)
    · exact (s.reach_keeps _).trans (State.eased_keeps _ { fault := fun hf => absurd hf hne })
    · exact .of_ready rfl rfl rfl rfl
  · exact .refl _ _

theorem State.setPaper_keeps (s : State) (absent : Bool) : Keeps s { s with printer := { s.printer with
    paperAbsent := absent } } := .same (by rfl)

theorem State.losePaper_done {c : Instr} {s u : State} (hu : Keeps s u) (hstands : Stands s u) (hstill : Still s u)
    (hwait : ∀ x : Stop, Still s { u with printer := { u.printer with stop := x } })
    (hne : u.printer.state ≠ .fault) : Done c s u.losePaper := by
  unfold State.losePaper
  split
  · exact .of_still hu (.of_stands hstands) hstill
  · split
    · exact .of_still (hu.trans (u.eased_keeps { fault := fun hf => absurd hf hne })) (.of_stands (hstands.trans (.same (by rfl))))
        (hwait _)
    · have hstate : u.dropHand.printer.state = u.printer.state := by
        unfold State.dropHand
        split
        · rfl
        · split
          · rfl
          · split <;> rfl
      refine .of_settle ((hu.trans u.dropHand_keeps).trans (State.enterPaperOut_keeps fun hf => ?_))
        (.of_idles hstands (u.dropHand_idles.trans (State.enterPaperOut_idles _)))
      exact hne (hstate.symm.trans hf.1)

theorem execPaperAbsent_done {s t : State} {absent : Bool} (h : execPaperAbsent s absent = .next t) :
    Done (.paperAbsent absent) s t := by
  refine .of_whenPowered h ?_
  dsimp only
  have habsent (hne : s.printer.state ≠ .fault) : Done (.paperAbsent absent) s
      (if absent then State.losePaper { s with printer := { s.printer with paperAbsent := absent } }
        else { s with printer := { s.printer with paperAbsent := absent } }) := by
    split
    · exact State.losePaper_done (s.setPaper_keeps _) (.same (by rfl)) (.same (by rfl)) (fun _ => (.same (by rfl))) hne
    · exact .of_still (s.setPaper_keeps _) (.of_stands (.same (by rfl))) (.same (by rfl))
  split
  case h_1 => exact .refl _ _
  case h_2 => exact .of_still (.same (by rfl)) (.of_stands (.same (by rfl))) (.same (by rfl))
  all_goals
    rename_i hs
    exact habsent (by rw [hs]; decide)

theorem execPaperRestored_done {s t : State} (h : execPaperRestored s = .next t) : Done .paperRestored s t := by
  refine .of_whenPowered h ?_
  dsimp only
  split
  · rename_i i hs hm
    have hne : s.printer.state ≠ .fault := by rw [hs]; decide
    refine .of_settle (Keeps.trans (t := { s.reach (i + ms 2000) with printer := { s.printer with
        state := (s.reach (i + ms 2000)).afterPaperOut, paperMeasure := none
        spinUp := if (s.reach (i + ms 2000)).afterPaperOut == PrinterState.starting then (s.reach (i + ms 2000)).now
          else s.printer.spinUp } }) ?_ (.same (by rfl))) (.of_idles (v := s.reach (i + ms 2000)) (.same (by rfl)) ?_)
    · exact (s.reach_keeps _).trans (State.eased_keeps _ { fault := fun hf => absurd hf hne })
    · by_cases hr : (s.reach (i + ms 2000)).afterPaperOut = .ready
      · exact .of_ready rfl rfl hr (if_pos (by simpa using hr))
      · exact .of_stopped rfl rfl hr (if_neg (by simpa using hr))
  · exact .refl _ _

/-! ### The punch -/

/-- The punch's own items are read by no measure. -/
theorem State.setPunch_done {c : Instr} {s : State} (i : Nat) {q : Punch} (h : s.punch.Eased q) :
    Done c s (State.settle { s.reach i with punch := q }) :=
  .of_settle ((s.reach_keeps i).trans (State.punchEased_keeps _ h)) (.of_stands (.same (by rfl)))

theorem execTakingAClaim_done {s t : State} (h : execTakingAClaim s = .next t) : Done .takingAClaim s t := by
  refine .of_whenPowered h ?_
  dsimp only
  split
  · rename_i hc
    simp only [Bool.and_eq_true, beq_iff_eq] at hc
    have hidle : s.punch.state = .idle := hc.1.1.1.1
    exact .of_settle (s.punchEased_keeps
      { running := fun _ _ => rfl, fault := fun hf => by rw [hidle] at hf; cases hf }) (.of_stands (.same (by rfl)))
  · exact .refl _ _

theorem execAdvancingEnd_done {s t : State} (h : execAdvancingEnd s = .next t) : Done .advancingEnd s t := by
  refine .of_whenPowered h ?_
  dsimp only
  split
  · exact .refl _ _
  · rename_i r hr
    split
    · refine State.setPunch_done _ { row := ?_, fault := fun _ hn => by rw [hn] at hr; cases hr }
      rintro r' hr'
      cases hr'
      exact ⟨r, hr, rfl⟩
    · exact .refl _ _

/-- The row gone from the punch's hand at the end of its cycle. -/
def State.rowEnded (s : State) (i : Nat) : State := { s.reach i with punch := { s.punch with row := none } }

theorem State.rowEnded_keeps (s : State) (i : Nat) : Keeps s (s.rowEnded i) :=
  (s.reach_keeps i).trans (State.punchEased_keeps _
    { row := nofun, running := fun h => absurd rfl h, fault := fun hf _ => ⟨hf, rfl⟩ })

theorem State.countRow_row (s : State) (c : RowContent) : (s.countRow c).punch.row = s.punch.row ∧
    (s.countRow c).punch.state = s.punch.state := by
  cases c <;> exact ⟨rfl, rfl⟩

/-- A row counted at the end of its cycle (R180). -/
theorem State.countRow_keeps {s : State} {r : Row} (hr : s.punch.row = some r) (i : Nat) :
    Keeps s ((s.rowEnded i).countRow r.content) := by
  have hend := s.rowEnded_keeps i
  cases hc : r.content with
  | leader =>
    refine hend.setPunch _ (fun h => h.manual) (fun hp => ⟨hp.positions, ?_, nofun, nofun⟩)
      fun hf => absurd (hr.symm.trans hf.2) (by simp)
    exact hp.leaderRow r hr hc
  | manual =>
    refine hend.setPunch _ (fun h => Nat.le_trans (Nat.sub_le _ _) h.manual) (fun hp => ⟨hp.positions, hp.leader, nofun, nofun⟩)
      fun hf => absurd (hr.symm.trans hf.2) (by simp)
  | cell d =>
    refine hend.onPunch (fun x => ⟨rfl, rfl⟩) fun hp => ⟨fun x hx => ?_, hp.leader, nofun, nofun⟩
    obtain ⟨-, y, hy, hpos⟩ := hp.cellRow r d hr hc
    rcases mem_updateFirst hx with hx | ⟨z, hz, rfl⟩
    · exact hp.positions x hx
    · have hyz : z = y := Option.some.inj (hz.symm.trans hy)
      rw [hyz] at hz ⊢
      have hlive := List.find?_some hz
      obtain ⟨p, hp', -, -⟩ := y.punchLive_iff.mp hlive
      have hval : (Rec.stepPunch y).punchPos = y.punchPos + 1 := by
        simp [Rec.punchPos, Rec.stepPunch, hp']
      rw [hval]
      exact hpos

theorem State.finishEnded_row (s : State) : s.finishEnded.punch.row = s.punch.row := by
  unfold State.finishEnded
  split <;> rfl

/-- What waited for the row takes effect; a punch with a row in its cycle was not in FAULT with none (R182, R186). -/
theorem State.afterRow_keeps {s u : State} (hu : Keeps s u) (hrow : u.punch.row = none) (hs : s.punch.row ≠ none) :
    Keeps s u.afterRow := by
  have hset (q : Punch) (v : State) (hv : Keeps s v) (hvp : v.PunchInRange → q.leader ≤ 10) (hq : q.row = none)
      (hm : v.CountersInRange → q.manual ≤ 20) : Keeps s { v with punch := q } := by
    refine hv.setPunch q (fun h => hm (hv.counters h)) (fun hp => ?_) fun hf => absurd hf.2 hs
    exact ⟨(hv.punch hp).positions, hvp (hv.punch hp), fun r hr => absurd (hq.symm.trans hr) (by simp),
      fun r c hr => absurd (hq.symm.trans hr) (by simp)⟩
  unfold State.afterRow
  split
  · exact hset _ _ (hu.trans (u.latch_keeps .tapeOut)) (fun h => h.leader) hrow fun _ => Nat.zero_le _
  · split
    · exact hset _ _ hu (fun h => h.leader) hrow fun h => h.manual
    · exact hu

theorem State.afterRow_stands (s : State) : Stands s s.finishEnded.afterRow := by
  have hfin : Stands s s.finishEnded := by
    unfold State.finishEnded
    split
    · exact .same (by rfl)
    · exact .same (by rfl)
  refine hfin.trans ?_
  unfold State.afterRow
  split
  · exact .same (by rfl)
  · split
    · exact .same (by rfl)
    · exact .same (by rfl)

theorem execRowSettlingEnd_done {s t : State} (h : execRowSettlingEnd s = .next t) : Done .rowSettlingEnd s t := by
  refine .of_whenPowered h ?_
  dsimp only
  split
  · exact .refl _ _
  · rename_i r hr
    split
    · have hcount := State.countRow_keeps hr (r.since + ms 22)
      have hnone := ((s.rowEnded (r.since + ms 22)).countRow_row r.content).1
      have hstands : Stands s ((s.rowEnded (r.since + ms 22)).countRow r.content) := by
        cases r.content <;> exact .same (by rfl)
      refine .of_settle (State.afterRow_keeps (hcount.trans (State.finishEnded_keeps hnone))
        ((State.finishEnded_row _).trans hnone) (by simp [hr])) (.of_stands (hstands.trans (State.afterRow_stands _)))
    · exact .refl _ _

theorem State.dropWaitingRow_notInCycle {s : State} (h : s.punch.rowInCycle = false) :
    s.dropWaitingRow.punch.row = none := by
  unfold State.dropWaitingRow
  split
  · assumption
  · rename_i r hr
    have hw : r.stage = .waiting := by
      rw [Punch.rowInCycle, hr] at h
      simpa [Row.inCycle] using h
    rw [if_pos (by simpa using hw)]

theorem execTapeOut_done {s t : State} {active : Bool} (h : execTapeOut s active = .next t) :
    Done (.tapeOut active) s t := by
  refine .of_whenPowered h ?_
  dsimp only
  have hactive (hne : s.punch.state ≠ .fault) : Done (.tapeOut active) s
      (if !active then { s with punch := { s.punch with tapeOutActive := active } }
        else if s.punch.rowInCycle then
          { s with punch := { s.punch with tapeOutActive := active, tapeOutPending := true } }
        else (State.dropWaitingRow { s with punch := { s.punch with tapeOutActive := active } }).enterTapeOut.settle) := by
    split
    · exact .of_still (.same (by rfl)) (.of_stands (.same (by rfl))) (.same (by rfl))
    · split
      · exact .of_still (.same (by rfl)) (.of_stands (.same (by rfl))) (.same (by rfl))
      · rename_i hcycle
        have hinput : Keeps s { s with punch := { s.punch with tapeOutActive := active } } := .same (by rfl)
        generalize hu : ({ s with punch := { s.punch with tapeOutActive := active } } : State) = u at hinput
        have hrow : u.dropWaitingRow.punch.row = none :=
          State.dropWaitingRow_notInCycle (by subst hu; exact Bool.eq_false_iff.mpr hcycle)
        have hstate : u.dropWaitingRow.punch.state ≠ .fault := by
          rw [u.dropWaitingRow_row.1]
          subst hu
          exact hne
        have hstands : Stands s u := by subst hu; exact .same (by rfl)
        exact .of_settle ((hinput.trans u.dropWaitingRow_keeps).trans (State.enterTapeOut_keeps (.inl hrow) hstate))
          (.of_stands ((hstands.trans u.dropWaitingRow_stands).trans (.same (by rfl))))
  split
  case h_1 => exact .refl _ _
  case h_2 => exact .of_still (.same (by rfl)) (.of_stands (.same (by rfl))) (.same (by rfl))
  all_goals
    rename_i hs
    exact hactive (by rw [hs]; decide)

theorem execTapeRestored_done {s t : State} (h : execTapeRestored s = .next t) : Done .tapeRestored s t := by
  refine .of_whenPowered h ?_
  dsimp only
  split
  · rename_i i hs hm
    exact State.setPunch_done _
      { running := fun _ hr => absurd (hs.symm.trans hr) (by simp)
        fault := fun hf => absurd (hs.symm.trans hf) (by simp) }
  · exact .refl _ _

theorem execTapeLow_done {s t : State} {active : Bool} (h : execTapeLow active s = .next t) :
    Done (.tapeLow active) s t :=
  .of_whenPowered h (.of_still (.same (by rfl)) (.of_stands (.same (by rfl))) (.same (by rfl)))

/-! ### The pacer -/

theorem State.setPacer_keeps (s : State) {p : Pacer} (h : s.pacer.h ≤ 65535 → p.h ≤ 65535) :
    Keeps s { s with pacer := p } :=
  { counters := fun hc => { hc with heat := h hc.heat } }

theorem execCoolingStep_done {s t : State} (h : execCoolingStep s = .next t) : Done .coolingStep s t := by
  refine .of_whenPowered h ?_
  dsimp only
  split
  · exact .refl _ _
  · exact .of_still ((s.reach_keeps _).trans (State.setPacer_keeps _ fun h => Nat.le_trans (Nat.sub_le _ _) h)) (.of_stands (.same (by rfl))) (.same (by rfl))

theorem State.coolAndDecide_keeps (s : State) : Keeps s s.coolAndDecide ∧ Still s s.coolAndDecide ∧
    Stands s s.coolAndDecide := by
  have hp : Keeps s { s with pacer := s.pacer.decided } := s.setPacer_keeps fun h => Nat.le_trans (Nat.sub_le _ _) h
  obtain ⟨-, h⟩ | ⟨-, -, h⟩ | ⟨-, -, h⟩ := s.coolAndDecide_cases <;> rw [h]
  · exact ⟨hp, (.same (by rfl)), (.same (by rfl))⟩
  · exact ⟨hp.trans (State.latch_keeps _ _), (.same (by rfl)), (.same (by rfl))⟩
  · exact ⟨hp.trans (State.latch_keeps _ _), (.same (by rfl)), (.same (by rfl))⟩

/-- Where a character is offered nothing is in hand, nothing moves, a column is left, and the phase has it (R151). -/
theorem State.offer_onCharacter {s : State} {c : Code} (h : s.offer = some c) :
    s.printer.motion = .none ∧ s.printer.column ≠ some 72 ∧ s.OnCharacter := by
  unfold State.offer at h
  split at h
  · rename_i hc
    simp only [Bool.and_eq_true, beq_iff_eq, bne_iff_ne] at hc
    refine ⟨hc.1.1.1.1.1.1.2, hc.1.2, ?_⟩
    split at h
    · cases h
    · rename_i r hr
      unfold State.OnCharacter
      split at h
      · rename_i hp
        rw [hp]
        exact ⟨r, hr, (List.getElem?_eq_some_iff.mp h).1⟩
      · rename_i hp
        rw [hp]
        split at h
        · exact ⟨r, hr, by assumption⟩
        · cases h
      · rename_i hp
        rw [hp]
        exact ⟨r, hr, (List.getElem?_eq_some_iff.mp h).1⟩
      all_goals cases h
  · cases h

theorem State.fire_keeps {s : State} {c : Code} (h : s.offer = some c) (p : Pacer) (hand : Hand)
    (hp : s.pacer.h ≤ 65535 → p.h ≤ 65535) :
    Keeps s { s with pacer := p, printer := { s.printer with hand := some hand } } := by
  obtain ⟨hmotion, hcolumn, hon⟩ := State.offer_onCharacter h
  refine (s.setPacer_keeps hp).setPrinter _ (fun hc => ⟨hc.feeds, hc.column, fun hq => absurd hq hcolumn⟩) (fun hr => ?_) id
  have hm : ∀ m : Motion, m ≠ .none → s.printer.motion ≠ m := fun m hm h => hm (h.symm.trans hmotion)
  exact ⟨hr.positions, hr.index, fun _ => State.OnCharacter.congr (s := s) rfl rfl rfl hon,
    fun n hn => absurd hn (hm _ (by simp)), fun _ _ _ _ _ hn => absurd hn (hm _ (by simp)),
    fun _ _ hn => absurd hn (hm _ (by simp))⟩

theorem State.giveGrant_still (s : State) (p : Party) : Still s (s.giveGrant p) := by
  cases p with
  | print => exact .same (by rfl)
  | punch => exact .same (by rfl)
  | test =>
    have hstarting : (s.giveGrant .test).diag.starting = s.diag.starting := by
      show s.diag.granted.starting = _
      rw [s.diag.granted_frame]
    exact ⟨rfl, rfl, rfl, rfl, by rw [State.restCondition, hstarting]; rfl, rfl, rfl, rfl, rfl⟩

theorem Still.trans {s t u : State} (h : Still s t) (k : Still t u) : Still s u :=
  ⟨k.rest.trans h.rest, k.dormancy.trans h.dormancy, k.power.trans h.power, k.attend.trans h.attend,
    k.condition.trans h.condition, k.printWork.trans h.printWork, k.punchWork.trans h.punchWork,
    k.printer.trans h.printer, k.work.trans h.work⟩

theorem State.grantIfFree_still (s : State) : Still s s.grantIfFree := by
  unfold State.grantIfFree
  split
  · split
    · exact .same (by rfl)
    · exact s.giveGrant_still _
  · exact .same (by rfl)

theorem execSlotBoundary_done {s t : State} (h : execSlotBoundary s = .next t) : Done .slotBoundary s t := by
  refine .of_whenPowered h ?_
  dsimp only
  split
  · obtain ⟨hkeeps, hstill, hstands⟩ := (s.reach s.pacer.nextStep).coolAndDecide_keeps
    have hkeeps' := (s.reach_keeps s.pacer.nextStep).trans hkeeps
    have hstill' : Still s (s.reach s.pacer.nextStep).coolAndDecide := Still.trans (.same (by rfl)) hstill
    have hstands' : Stands s (s.reach s.pacer.nextStep).coolAndDecide := Stands.trans (.same (by rfl)) hstands
    generalize (s.reach s.pacer.nextStep).coolAndDecide = u at hkeeps' hstill' hstands'
    have hhold : Done .slotBoundary s { u with pacer := { u.pacer with lastFired := false } } :=
      .of_still (hkeeps'.trans (u.setPacer_keeps id)) (.of_stands (hstands'.trans (.same (by rfl)))) (hstill'.trans (.same (by rfl)))
    split
    · rename_i c hc
      split
      · unfold State.fire
        dsimp only
        split
        · exact .of_settle (hkeeps'.trans (State.fire_keeps hc _ _ fun _ => Nat.min_le_right ..))
            (.of_stands (hstands'.trans (.same (by rfl))))
        · exact .of_still ((hkeeps'.trans (State.fire_keeps hc _ _ fun _ => Nat.min_le_right ..)).trans
            (State.request_keeps _ .print)) (.of_idles (hstands'.trans (.same (by rfl))) (State.request_idles _ .print))
            (hstill'.trans (Still.trans (.same (by rfl)) (State.grantIfFree_still _)))
      · exact hhold
    · exact hhold
  · exact .refl _ _

/-! ### Grants, tests and sweeps -/

theorem State.endPrintGrant_keeps (s : State) : Keeps s s.endPrintGrant := by
  refine Keeps.trans (State.eased_keeps s { hand := fun h => ?_ }) (State.handBack_keeps _)
  split at h
  · exact absurd rfl h
  · exact fun hn => h (by rw [hn]; rfl)

theorem State.endPunchGrant_keeps (s : State) : Keeps s s.endPunchGrant := by
  refine Keeps.trans ?_ (State.handBack_keeps _)
  refine Keeps.ite s.enterPunchFault_keeps (s.punchEased_keeps { row := fun r hr => ?_, fault := fun h k => ⟨h, ?_⟩ })
  · obtain ⟨r', hr', rfl⟩ := Option.map_eq_some_iff.mp hr
    exact ⟨r', hr', rfl⟩
  · simp [k]

theorem State.endPunchGrant_idles (s : State) : Idles s s.endPunchGrant :=
  Idles.trans (Idles.ite (.same (by rfl)) (.same (by rfl))) (State.handBack_idles _)

theorem State.needleFault_idles (s : State) : Idles s s.needleFault := by
  unfold State.needleFault
  exact Idles.ite (.same (by rfl)) s.enterPrinterFault_idles

theorem State.excludeNeedle_idles (s : State) (n : Nat) : Idles s (s.excludeNeedle n) := by
  unfold State.excludeNeedle
  split
  · exact .same (by rfl)
  · dsimp only
    split
    · exact Idles.trans (.same (by rfl)) (State.needleFault_idles _)
    · exact .same (by rfl)

theorem State.motionFault_idles (s : State) : Idles s s.motionFault := by
  unfold State.motionFault
  exact Idles.ite (.same (by rfl)) (Idles.trans (.same (by rfl)) (State.enterPrinterFault_idles _))

theorem State.punchFault_idles (s : State) : Idles s s.punchFault := by
  unfold State.punchFault
  split
  · exact .same (by rfl)
  · split
    · exact .same (by rfl)
    · split
      · exact .same (by rfl)
      · split <;> exact .same (by rfl)

theorem State.failing_idles (s : State) (ch : Channel) (c : ChanCode) : Idles s (s.failing ch c) := by
  refine Idles.trans (t := s.mergeFinding ch c) (.same (by rfl)) ?_
  cases ch with
  | needle i => exact State.excludeNeedle_idles _ _
  | track i => exact State.punchFault_idles _
  | tapeAdvance => exact State.punchFault_idles _
  | motion => exact State.motionFault_idles _

theorem State.offStateFinding_idles (s : State) (ch : Channel) (f : TestFinding) : Idles s (s.offStateFinding ch f) := by
  cases f with
  | passed => exact .same (by rfl)
  | opened => exact Idles.trans (t := s.latch .selfCheck) (.same (by rfl)) (State.failing_idles _ _ _)
  | shorted => exact Idles.trans (t := s.latch .selfCheck) (.same (by rfl)) (State.failing_idles _ _ _)

theorem State.endSweep_idles (s : State) (w : Sweep) : Idles s (s.endSweep w) := by
  unfold State.endSweep
  dsimp only
  split
  · exact Idles.ite (.same (by rfl)) (.same (by rfl))
  · exact .same (by rfl)
  · exact .same (by rfl)

theorem State.advanceSweep_idles (s : State) (result : Option TestFinding) : Idles s (s.advanceSweep result) := by
  unfold State.advanceSweep
  split
  · exact .same (by rfl)
  · exact Idles.ite (.same (by rfl)) (State.endSweep_idles s _)

theorem State.checkStarting_idles (s : State) : Idles s s.checkStarting := by
  have hwork : ∀ u : State, Idles u u.workAppears := fun u => by
    have h := u.workAppears_side
    exact .of_same (congrArg State.now h.frame :) h.apart.answer (by rw [h.apart.printer]) h.apart.idleSince
  unfold State.checkStarting
  split
  · exact Idles.trans (.same (by rfl)) (hwork _)
  · exact .same (by rfl)

theorem State.endTestGrant_keeps (s : State) (f : TestFinding) : Keeps s (s.endTestGrant f) ∧ Idles s (s.endTestGrant f) := by
  unfold State.endTestGrant
  split
  · exact ⟨s.handBack_keeps, s.handBack_idles⟩
  · rename_i t ht
    dsimp only
    have hback : ∀ u : State, Keeps u ({ u with diag := { u.diag with testing := none } } : State).handBack.printerRun.punchRun ∧
        Idles u ({ u with diag := { u.diag with testing := none } } : State).handBack.printerRun.punchRun := fun u =>
      ⟨((Keeps.trans (.same (by rfl)) (State.handBack_keeps _)).trans (State.printerRun_keeps _)).trans (State.punchRun_keeps _),
        ((Idles.trans (.same (by rfl)) (State.handBack_idles _)).trans (State.printerRun_idles _)).trans (State.punchRun_idles _)⟩
    have hfound := (s.offStateFinding_keeps (channelAt t.index) f).trans (hback _).1
    have hfound' := (s.offStateFinding_idles (channelAt t.index) f).trans (hback _).2
    exact ⟨(hfound.trans (Keeps.ite (State.advanceSweep_keeps _ _) (.refl _))).trans (State.checkStarting_keeps _),
      (hfound'.trans (Idles.ite (State.advanceSweep_idles _ _) (.refl _))).trans (State.checkStarting_idles _)⟩

theorem execGrantEnd_done {s t : State} {f : TestFinding} (h : execGrantEnd f s = .next t) :
    Done (.grantEnd f) s t := by
  refine .of_whenPowered h ?_
  dsimp only
  split
  · exact .refl _ _
  · rename_i p hp
    have hreach := (s.reach_written s.arb.until').apart.stands
    cases p with
    | print =>
      refine .of_settle ((s.reach_keeps _).trans (State.endPrintGrant_keeps _)) (.of_idles hreach ?_)
      exact Idles.trans (.same (by rfl)) (State.handBack_idles _)
    | punch => exact .of_settle ((s.reach_keeps _).trans (State.endPunchGrant_keeps _)) (.of_idles hreach (State.endPunchGrant_idles _))
    | test =>
      exact .of_settle ((s.reach_keeps _).trans (State.endTestGrant_keeps _ f).1) (.of_idles hreach (State.endTestGrant_keeps _ f).2)

theorem execTestRequestTimeout_done {s t : State} (h : execTestRequestTimeout s = .next t) :
    Done .testRequestTimeout s t := by
  refine .of_whenPowered h ?_
  dsimp only
  split
  · exact .refl _ _
  · rename_i w hw
    split
    · exact .refl _ _
    · exact .refl _ _
    · rename_i i hi
      have hkeeps : Keeps s (if w.kind == .selfCheck then ((s.reach (i + ms 200)).withdraw .test).latch .selfCheck
          else (s.reach (i + ms 200)).withdraw .test) :=
        Keeps.ite (Keeps.trans (t := (s.reach (i + ms 200)).withdraw .test) (.same (by rfl)) (State.latch_keeps _ _)) (.same (by rfl))
      have hstands : Stands s (if w.kind == .selfCheck then ((s.reach (i + ms 200)).withdraw .test).latch .selfCheck
          else (s.reach (i + ms 200)).withdraw .test) := by
        split <;> exact .same (by rfl)
      refine .of_settle ((((hkeeps.trans (State.advanceSweep_keeps _ none)).trans (State.printerRun_keeps _)).trans
        (State.punchRun_keeps _)).trans (State.checkStarting_keeps _)) (.of_idles hstands ?_)
      exact (((State.advanceSweep_idles _ none).trans (State.printerRun_idles _)).trans (State.punchRun_idles _)).trans
        (State.checkStarting_idles _)

theorem execIdleSweep_done {s t : State} (h : execIdleSweep s = .next t) : Done .idleSweep s t := by
  refine .of_whenPowered h ?_
  dsimp only
  split
  · exact .refl _ _
  · rename_i i hi
    split
    · rename_i hr
      have hready : Idles (s.reach (i + ms 60000)) { s.reach (i + ms 60000) with diag := { s.diag with
          idleSince := some (s.reach (i + ms 60000)).now } } := .of_ready rfl rfl (by simpa using hr) rfl
      have hreach := (s.reach_written (i + ms 60000)).apart.stands
      split
      · exact .of_still (.same (by rfl)) (.of_idles hreach hready) (.same (by rfl))
      · exact .of_settle (.same (by rfl)) (.of_idles hreach (hready.trans (.same (by rfl))))
    · exact .refl _ _

theorem execOvercurrentFinding_done {s t : State} {ch : Channel} (h : execOvercurrentFinding ch s = .next t) :
    Done (.overcurrentFinding ch) s t := by
  refine .of_whenPowered h ?_
  split
  · exact .of_settle (s.failing_keeps _ _) (.of_idles (.same (by rfl)) (s.failing_idles _ _))
  · exact .refl _ _

theorem execSupplyLowOnset_done {s t : State} (h : execSupplyLowOnset s = .next t) : Done .supplyLowOnset s t := by
  refine .of_whenPowered h ?_
  split
  · exact .refl _ _
  · exact .of_still (Keeps.trans (t := { s with arb := { s.arb with supplyLow := true } }) (.same (by rfl)) (State.latch_keeps _ _))
      (.of_stands (.same (by rfl))) (.same (by rfl))

theorem execSupplyLowEnd_done {s t : State} (h : execSupplyLowEnd s = .next t) : Done .supplyLowEnd s t := by
  refine .of_whenPowered h ?_
  split
  · exact .of_still (Keeps.trans (t := { s with arb := { s.arb with supplyLow := false } }) (.same (by rfl)) (State.grantIfFree_keeps _))
      (.of_idles (.same (by rfl)) (Idles.trans (t := { s with arb := { s.arb with supplyLow := false } }) (.same (by rfl)) (State.grantIfFree_idles _)))
      (Still.trans (t := { s with arb := { s.arb with supplyLow := false } }) (.same (by rfl)) (State.grantIfFree_still _))
  · exact .refl _ _

end Sys2Proof.Machine
end

section
/-! Every command but a reset is `Done`, and what every step keeps: O3, O4, O5, O6, O7, O8 and O9. -/
namespace Sys2Proof.Machine

/-- A command other than a reset carries out one operation that keeps every invariant, followed by the follow-ups of
the command or by nothing. -/
theorem exec_done {c : Instr} {s t : State} (hc : isResetCommand c = false) (h : exec c s = .next t) : Done c s t := by
  cases c with
  | powerOnReset pins => exact absurd hc (by simp [isResetCommand])
  | resetPin pins => exact absurd hc (by simp [isResetCommand])
  | settlingEnd => exact execSettlingEnd_done h
  | start samples => exact execStart_done h
  | characterReceived samples => exact execCharacterReceived_done h
  | generatedRecordTaken => exact execGeneratedRecordTaken_done h
  | heldEventRetry => exact execHeldEventRetry_done h
  | firstMarkSample => exact execFirstMarkSample_done h
  | endOfStopElement => exact execEndOfStopElement_done h
  | breakBegun => exact execBreakBegun_done h
  | lineOpen => exact execLineOpen_done h
  | restoration => exact execRestoration_done h
  | stall => exact execStall_done h
  | deferralComplete lastMark => exact execDeferralComplete_done h
  | characterSent => exact execCharacterSent_done h
  | mismatch element => exact execMismatch_done h
  | holdEnded => exact execHoldEnded_done h
  | receiptWatchDeadline => exact execReceiptWatchDeadline_done h
  | keyScan counts => exact execKeyScan_done h
  | seedingScan counts => exact execSeedingScan_done h
  | seeded counts => exact execSeeded_done h
  | pressEvent position => exact execPressEvent_done h
  | repeatEvent => exact execRepeatEvent_done h
  | stuckKey position => exact execStuckKey_done h
  | excursionReseed position => exact execExcursionReseed_done h
  | attendTimerExpiry => exact execAttendTimerExpiry_done h
  | restMeasureExpiry => exact execRestMeasureExpiry_done h
  | dormancyMeasureExpiry => exact execDormancyMeasureExpiry_done h
  | characterKey => exact execCharacterKey_done h
  | modifierKey => exact execModifierKey_done h
  | callKey => exact execCallKey_done h
  | returnKey => exact execReturnKey_done h
  | ruboutKey => exact execRuboutKey_done h
  | sendKey => exact execSendKey_done h
  | queryKey => exact execQueryKey_done h
  | hereKey => exact execHereKey_done h
  | cancelKey => exact execCancelKey_done h
  | breakKey => exact execBreakKey_done h
  | localKey => exact execLocalKey_done h
  | attendKey => exact execAttendKey_done h
  | statusKey => exact execStatusKey_done h
  | feedKey => exact execFeedKey_done h
  | punchKey => exact execPunchKey_done h
  | ctrlFeed => exact execCtrlFeed_done h
  | ctrlHere => exact execCtrlHere_done h
  | ctrlLocal => exact execCtrlLocal_done h
  | writeCycleStep lastMark => exact execWriteCycleStep_done h
  | lockCycleEnd lastMark => exact execLockCycleEnd_done h
  | coolingStep => exact execCoolingStep_done h
  | slotBoundary => exact execSlotBoundary_done h
  | grantEnd finding => exact execGrantEnd_done h
  | testRequestTimeout => exact execTestRequestTimeout_done h
  | idleSweep => exact execIdleSweep_done h
  | overcurrentFinding channel => exact execOvercurrentFinding_done h
  | stepEnd => exact execStepEnd_done h
  | carriageReturnStep home => exact execCarriageReturnStep_done h
  | carriageReturnEnd => exact execCarriageReturnEnd_done h
  | jam => exact execJam_done h
  | lineFeedEnd => exact execLineFeedEnd_done h
  | spinUpEnd => exact execSpinUpEnd_done h
  | paperAbsent absent => exact execPaperAbsent_done h
  | paperRestored => exact execPaperRestored_done h
  | supplyLowOnset => exact execSupplyLowOnset_done h
  | supplyLowEnd => exact execSupplyLowEnd_done h
  | takingAClaim => exact execTakingAClaim_done h
  | advancingEnd => exact execAdvancingEnd_done h
  | tapeOut active => exact execTapeOut_done h
  | tapeRestored => exact execTapeRestored_done h
  | tapeLow active => exact execTapeLow_done h
  | markToSpaceEdge => exact execMarkToSpaceEdge_done h
  | rowSettlingEnd => exact execRowSettlingEnd_done h
  | lossOfPower => exact absurd hc (by simp [isResetCommand])

/-! ### Resets and loss of power -/

theorem State.beginSweep_keeps (s : State) (k : SweepKind) : Keeps s (s.beginSweep k) := .same (by rfl)

/-- The findings of a reset and the beginning of its self-check keep every invariant. -/
theorem resetFindings_keeps {s : State} (pins : Pins) (hprinter : s.printer.state ≠ .fault)
    (hpunch : s.punch.state ≠ .fault) (hrow : s.punch.row = none) :
    Keeps s (resetFindings pins s).beginSelfCheck := by
  have hlost : ∀ b : Prop, [Decidable b] → ∀ (u : State) (e : Event), Keeps u (if b then u.latch e else u) :=
    fun b _ u e => Keeps.ite (u.latch_keeps e) (.refl u)
  have hkeep : ∀ b : Prop, [Decidable b] → ∀ (u : State) (e : Event),
      (if b then u.latch e else u).printer = u.printer ∧ (if b then u.latch e else u).punch = u.punch := by
    intro b _ u e
    split <;> exact ⟨rfl, rfl⟩
  have hfirst := (hlost (s.answer.memory.openCycle = true) s .identityLost).trans (hlost (pins.supplyLow = true) _ .supplyLow)
  obtain ⟨k1, k2⟩ := hkeep (s.answer.memory.openCycle = true) s .identityLost
  obtain ⟨k3, k4⟩ := hkeep (pins.supplyLow = true) (if s.answer.memory.openCycle then s.latch .identityLost else s) .supplyLow
  suffices hfind : Keeps s (resetFindings pins s) from
    (hfind.trans (State.beginSweep_keeps _ .selfCheck)).trans (State.testGo_keeps _)
  unfold resetFindings
  dsimp only
  generalize (if pins.supplyLow then (if s.answer.memory.openCycle then s.latch .identityLost else s).latch .supplyLow
    else if s.answer.memory.openCycle then s.latch .identityLost else s) = u at hfirst k3 k4
  rw [k1] at k3
  rw [k2] at k4
  have htape : Keeps u (if pins.tapeOut then u.enterTapeOut else u) ∧
      (if pins.tapeOut then u.enterTapeOut else u).printer = u.printer := by
    split
    · exact ⟨State.enterTapeOut_keeps (.inl (by rw [k4]; exact hrow)) (by rw [k4]; exact hpunch), rfl⟩
    · exact ⟨.refl u, rfl⟩
  refine (hfirst.trans htape.1).trans (Keeps.ite (.refl _) (State.enterPaperOut_keeps fun hf => hprinter ?_))
  rw [← k3, ← htape.2]
  exact hf.1

/-- The state a reset pin starts from, its RESTART latched and its findings not yet made (R20, R141, R174, R200, R201). -/
def State.restartBase (s : State) (pins : Pins) : State :=
  { resetCommon pins s with
    store := s.store.restart
    interp := { Interp.reset with comps := s.interp.comps.map Comp.restart, nextSerial := s.interp.nextSerial }
    pacer := { Pacer.reset with h := 40000 }
    diag := { (resetCommon pins s).diag with
      latched := s.diag.latched, again := s.diag.again, errorTotal := s.diag.errorTotal } }

theorem State.powerOn_keeps (s : State) (pins : Pins) : Keeps (resetCommon pins s) (s.powerOn pins) :=
  resetFindings_keeps pins (show PrinterState.starting ≠ .fault by decide) (show PunchState.idle ≠ .fault by decide) rfl

theorem State.restart_keeps (s : State) (pins : Pins) : Keeps (s.restartBase pins) (s.restart pins) :=
  (State.latch_keeps _ .restart).trans (resetFindings_keeps pins (show PrinterState.starting ≠ .fault by decide) (show PunchState.idle ≠ .fault by decide) rfl)

/-- What a command does: an operation and its follow-ups, a reset or the loss of power. -/
theorem exec_cases {c : Instr} {s t : State} (h : exec c s = .next t) : Done c s t ∨
    (∃ pins, c = .powerOnReset pins ∧ t = s.powerOn pins) ∨ (∃ pins, c = .resetPin pins ∧ t = s.restart pins) ∨
    (c = .lossOfPower ∧ t = s.powerOff) := by
  cases hc : isResetCommand c with
  | false => exact .inl (exec_done hc h)
  | true =>
    have hpowered : ∀ {f : State → State}, whenPowered s f = .next t → Done c s t ∨ t = f s := by
      intro f hf
      cases hp : s.powered with
      | true => rw [whenPowered_of_powered hp] at hf; cases hf; exact .inr rfl
      | false => rw [whenPowered_of_not_powered hp] at hf; cases hf; exact .inl (.refl c s)
    cases c with
    | powerOnReset pins => cases h; exact .inr (.inl ⟨pins, rfl, rfl⟩)
    | resetPin pins => exact (hpowered (f := fun s => s.restart pins) h).imp_right fun h => .inr (.inl ⟨pins, rfl, h⟩)
    | lossOfPower => exact (hpowered (f := State.powerOff) h).imp_right fun h => .inr (.inr ⟨rfl, h⟩)
    | _ => cases hc

/-- A step is a tick or a command with the rest of the queue behind it (log 34). -/
theorem step_cases {s t : State} (h : step s = .next t) :
    t = s.tick ∨ ∃ c rest, exec c { s with pending := rest } = .next t := by
  unfold step at h
  split at h
  · cases h; exact .inl rfl
  · exact .inr ⟨_, _, h⟩

/-- An invariant that every operation keeps, that the values of a reset meet and the pin keeps, is kept by every step. -/
theorem step_preserves {P : State → Prop} (hsound : ∀ {s t : State}, Sound s t → P s → P t)
    (hon : ∀ (s : State) (pins : Pins), P (resetCommon pins s)) (hpin : ∀ (s : State) (pins : Pins), P s → P (s.restartBase pins))
    (hoff : ∀ s : State, P s.powerOff) {s t : State} (h : step s = .next t) (hs : P s) : P t := by
  obtain rfl | ⟨c, rest, hexec⟩ := step_cases h
  · exact hsound s.tick_keeps.toSound hs
  · have hs' : P { s with pending := rest } := hsound (Keeps.same (by rfl)).toSound hs
    obtain hdone | ⟨pins, -, rfl⟩ | ⟨pins, -, rfl⟩ | ⟨-, rfl⟩ := exec_cases hexec
    · exact hsound hdone.sound hs'
    · exact hsound (State.powerOn_keeps _ pins).toSound (hon _ pins)
    · exact hsound (State.restart_keeps _ pins).toSound (hpin _ pins hs')
    · exact hoff _

/-! ### The values of the resets -/

theorem State.StoreShape.of_empty {s : State} (hrecs : s.store.recs = []) (hw : s.store.w = 0)
    (hparser : s.recv.parser = .idle) (hlocal : s.interp.localOpen = false) : s.StoreShape := by
  refine RecsShape.storeShape ?_ ?_ ?_ ?_
  · rw [hrecs, hw]
    exact ⟨by decide, by decide, by decide, trivial, by simp⟩
  · rw [Store.blockOpen, hrecs, hparser]
    exact ⟨nofun, nofun⟩
  · rw [hparser]
    rintro (h | h | h) <;> cases h
  · rw [Store.localOpen, hrecs]
    exact hlocal

theorem generatorSeed_ne_zero (code : Station) : generatorSeed code ≠ 0#16 := by
  intro h
  have hbit := congrArg (fun g => g.getLsbD 15) h
  simp [generatorSeed] at hbit

/-- The counters a reset leaves (R61, R63, R68, R115, R155, R167, R188, R201). -/
theorem State.CountersInRange.of_reset {s : State} (hreplies : s.sender.replies = []) (hgenerator : s.sender.generator ≠ 0#16)
    (hqueue : s.interp.queue = []) (hheat : s.pacer.h ≤ 65535) (herrors : s.diag.errorTotal ≤ 255)
    (hfeeds : s.printer.pendingFeeds = 0) (hmanual : s.punch.manual = 0) (hcolumn : s.printer.column = none) :
    s.CountersInRange where
  replies := by rw [hreplies]; exact Nat.zero_le _
  generator := hgenerator
  presses := by rw [hqueue]; exact Nat.zero_le _
  heat := hheat
  errors := herrors
  feeds := by rw [hfeeds]; exact Nat.zero_le _
  manual := by rw [hmanual]; exact Nat.zero_le _
  column c hc := by rw [hcolumn] at hc; cases hc
  stepRoom hc := by rw [hcolumn] at hc; cases hc

theorem State.KeysInRange.of_reset {s : State} (h : s.keys = .reset) : s.KeysInRange := by
  constructor <;> rw [h]
  · rfl
  · intro r hr
    rw [List.eq_of_mem_replicate hr]
    exact KeyRec.reset_inRange

theorem State.CompsInBounds.of_empty {s : State} (h : s.interp.comps = []) : s.CompsInBounds := by
  constructor <;> simp [Interp.usedCells, h]

theorem State.RecordsInRange.of_empty {s : State} (h : s.store.recs = []) : s.RecordsInRange := by
  constructor <;> simp [h]

theorem State.PrintInRange.of_empty {s : State} (hrest : s.printer.atRest) (hindex : s.printer.index = 0)
    (hrecs : s.store.recs = []) : s.PrintInRange :=
  .of_atRest hrest (by simp [hrecs]) (by rw [hindex]; exact Nat.zero_le _)

theorem State.PrintInRange.of_reset {s : State} (hrest : s.printer.atRest) (hindex : s.printer.index = 0)
    (hrecs : ∀ r ∈ s.store.recs, r.print.pos ≤ r.length) : s.PrintInRange :=
  .of_atRest hrest hrecs (by rw [hindex]; exact Nat.zero_le _)

theorem State.PunchInRange.of_reset {s : State} (hrow : s.punch.row = none) (hleader : s.punch.leader = 0)
    (hrecs : ∀ r ∈ s.store.recs, r.punchPos ≤ r.length) : s.PunchInRange where
  positions := hrecs
  leader := by rw [hleader]; exact Nat.zero_le _
  leaderRow r hr := by rw [hrow] at hr; cases hr
  cellRow r c hr := by rw [hrow] at hr; cases hr

theorem State.PunchInRange.of_empty {s : State} (hrow : s.punch.row = none) (hleader : s.punch.leader = 0)
    (hrecs : s.store.recs = []) : s.PunchInRange :=
  .of_reset hrow hleader (by simp [hrecs])

/-! ### What the reset pin keeps -/

/-- A restarted record lies where it lay, and is not OPEN (R20). -/
theorem Rec.restart_isOpen (r : Rec) : r.restart.isOpen = false := by
  show ((if r.isOpen then RecState.closed .restarted else r.state) == .opened) = false
  split
  · rfl
  · rename_i h
    simpa [Rec.isOpen] using h

theorem State.StoreShape.restart {s : State} (h : s.StoreShape) (pins : Pins) : (s.restartBase pins).StoreShape := by
  have hclosed : ∀ r ∈ s.store.restart.recs, r.isOpen = false := by
    intro r hr
    obtain ⟨x, -, rfl⟩ := List.mem_map.mp hr
    exact x.restart_isOpen
  obtain ⟨hb, hl⟩ := Store.not_open_of_closed hclosed
  refine RecsShape.storeShape (h.recsShape.map (f := Rec.restart) (fun _ => ⟨rfl, rfl⟩) fun r hr => ?_) ?_ ?_ hl.symm
  · rw [r.restart_isOpen] at hr; cases hr
  · exact ⟨fun h => absurd (hb.symm.trans h) (by decide), fun h => by cases h.1⟩
  · rintro (h | h | h) <;> cases h

theorem Rec.restart_print_le {r : Rec} (h : r.print.pos ≤ r.length) : r.restart.print.pos ≤ r.restart.length := by
  show (if r.print.done then r.print else { r.print with pos := 0 }).pos ≤ r.length
  split
  · exact h
  · exact Nat.zero_le _

theorem Rec.restart_punchPos_le {r : Rec} (h : r.punchPos ≤ r.length) : r.restart.punchPos ≤ r.restart.length := by
  unfold Rec.punchPos at h
  unfold Rec.punchPos Rec.restart
  cases hp : r.punch with
  | none => exact Nat.zero_le _
  | some p =>
    rw [hp] at h
    dsimp only [Option.map_some]
    split
    · exact h
    · exact Nat.zero_le _

theorem Comp.restart_inRange {c : Comp} (h : c.InRange) : c.restart.InRange := by
  unfold Comp.restart
  split
  · exact ⟨h.number, h.noRepeat, nofun, fun _ _ hn => absurd rfl hn, h.yields⟩
  all_goals exact ⟨h.number, h.noRepeat, h.digit, h.digitRoom, h.yields⟩

theorem Comp.restart_isOpen (c : Comp) : c.restart.isOpen = c.isOpen := by
  unfold Comp.restart
  split
  case h_2 h => rw [Comp.isOpen, Comp.isOpen, h]; rfl
  case h_3 h => rw [Comp.isOpen, Comp.isOpen, h]; rfl
  all_goals rfl

theorem Comp.restart_cells (c : Comp) : c.restart.cells = c.cells := by
  unfold Comp.restart
  split <;> rfl

theorem State.CompsInBounds.restart {s : State} (h : s.CompsInBounds) (pins : Pins) : (s.restartBase pins).CompsInBounds := by
  have hcomps : (s.restartBase pins).interp.comps = s.interp.comps.map Comp.restart := rfl
  refine ⟨?_, ?_, ?_, ?_⟩
  · rw [hcomps, List.length_map]; exact h.number
  · rw [hcomps]
    exact Nat.le_trans (length_filter_map_le (fun c hc => (Comp.restart_isOpen c).symm.trans hc) _) h.oneOpen
  · rw [Interp.usedCells, hcomps, List.map_map, show Comp.cells ∘ Comp.restart = Comp.cells from
      funext Comp.restart_cells]
    exact h.cells
  · rw [hcomps]
    intro c hc
    obtain ⟨x, hx, rfl⟩ := List.mem_map.mp hc
    exact Comp.restart_inRange (h.fields x hx)

theorem State.RecordsInRange.restart {s : State} (h : s.RecordsInRange) (pins : Pins) : (s.restartBase pins).RecordsInRange := by
  constructor <;> intro r hr <;> obtain ⟨x, hx, rfl⟩ := List.mem_map.mp hr
  · exact h.errors x hx
  · exact h.dropped x hx

/-! ### The statements -/

/-- Settles O3: every operation stores through `Memory.write`, which keeps the form. -/
theorem memoryKeepsCanonicalForm : Obligations.MemoryKeepsCanonicalForm := fun _ _ hs h =>
  step_preserves (P := State.memoryCanonical) (fun k => k.memory) (fun _ _ => rfl) (fun _ _ => id) (fun _ => rfl) h hs

/-- Settles O4, from the shape that every operation keeps (R1, R2, R6). -/
theorem storeKeepsItsShape : Obligations.StoreKeepsItsShape := by
  intro s t hs h
  have ht : t.StoreShape := step_preserves (P := State.StoreShape) (fun k => k.shape)
    (fun _ _ => .of_empty rfl rfl rfl rfl) (fun _ pins hs => hs.restart pins) (fun _ => .of_empty rfl rfl rfl rfl) h hs
  exact ⟨ht, Nat.sub_add_cancel ht.used, Nat.sub_add_cancel ht.descriptors⟩

/-- Settles O5, from the ranges that every operation keeps. -/
theorem blocksStayInRange : Obligations.BlocksStayInRange := by
  intro s t h
  refine ⟨?counters, ?keys, ?comps, ?records, ?print, ?punch⟩
  case counters =>
    exact step_preserves (fun k => k.counters)
      (fun _ pins => .of_reset rfl (generatorSeed_ne_zero _) rfl (Nat.zero_le _) (Nat.zero_le _) rfl rfl rfl)
      (fun _ pins hs => .of_reset rfl (generatorSeed_ne_zero _) rfl (show 40000 ≤ 65535 by decide) hs.errors rfl rfl rfl)
      (fun _ => .of_reset rfl (show 0x8000#16 ≠ 0#16 by decide) rfl (Nat.zero_le _) (Nat.zero_le _) rfl rfl rfl) h
  case keys =>
    exact step_preserves (fun k => k.keys) (fun _ _ => .of_reset rfl) (fun _ _ _ => .of_reset rfl)
      (fun _ => .of_reset rfl) h
  case comps =>
    exact step_preserves (fun k => k.comps) (fun _ _ => .of_empty rfl) (fun _ pins hs => hs.restart pins)
      (fun _ => .of_empty rfl) h
  case records =>
    exact step_preserves (fun k => k.records) (fun _ _ => .of_empty rfl) (fun _ pins hs => hs.restart pins)
      (fun _ => .of_empty rfl) h
  case print =>
    refine step_preserves (fun k => k.print) (fun _ _ => .of_empty ⟨rfl, rfl⟩ rfl rfl)
      (fun s pins hs => .of_reset ⟨rfl, rfl⟩ rfl fun r hr => ?_) (fun _ => .of_empty ⟨rfl, rfl⟩ rfl rfl) h
    obtain ⟨x, hx, rfl⟩ := List.mem_map.mp hr
    exact Rec.restart_print_le (hs.positions x hx)
  case punch =>
    refine step_preserves (fun k => k.punch) (fun _ _ => .of_empty rfl rfl rfl)
      (fun s pins hs => .of_reset rfl rfl fun r hr => ?_) (fun _ => .of_empty rfl rfl rfl) h
    obtain ⟨x, hx, rfl⟩ := List.mem_map.mp hr
    exact Rec.restart_punchPos_le (hs.positions x hx)

/-- Settles O6: no operation but a reset writes the straps. -/
theorem strapsHoldUntilReset : Obligations.StrapsHoldUntilReset := by
  intro c s t hon hpin h
  obtain hdone | ⟨pins, hc, -⟩ | ⟨pins, hc, -⟩ | ⟨-, rfl⟩ := exec_cases h
  · exact hdone.sound.straps
  · exact absurd hc (hon pins)
  · exact absurd hc (hpin pins)
  · rfl

/-- Settles O7: the memory is written in a cycle alone, which a locked one does not begin, and kept at a reset and
through loss of power (R83, R88, R89). -/
theorem lockedIdentityNeverChanges : Obligations.LockedIdentityNeverChanges := by
  intro s t hs h
  obtain rfl | ⟨c, rest, hexec⟩ := step_cases h
  · exact s.tick_keeps.identity hs
  · have hs' : State.IdentityLocked { s with pending := rest } := ⟨hs.locked, hs.noDraft, hs.noCycle⟩
    obtain hdone | ⟨pins, -, rfl⟩ | ⟨pins, -, rfl⟩ | ⟨-, rfl⟩ := exec_cases hexec
    · exact hdone.sound.identity hs'
    · have hbase : (resetCommon pins { s with pending := rest }).IdentityLocked := ⟨hs.locked, rfl, rfl⟩
      exact (State.powerOn_keeps _ pins).identity hbase
    · have hbase : (State.restartBase { s with pending := rest } pins).IdentityLocked := ⟨hs.locked, rfl, rfl⟩
      exact (State.restart_keeps _ pins).identity hbase
    · exact ⟨⟨hs.locked, rfl, rfl⟩, rfl⟩

/-- Settles O8: no operation leaves FAULT. -/
theorem faultsAreLeftOnlyByReset : Obligations.FaultsAreLeftOnlyByReset := fun _ _ _ hc h =>
  ⟨(exec_done hc h).sound.printerFault, (exec_done hc h).sound.punchFault⟩

/-- Settles O9: an operation only adds to the latched events, a written report alone takes from them (R200, R204). -/
theorem latchedEventsStand : Obligations.LatchedEventsStand := by
  refine ⟨fun s e x => ⟨s.mem_latch e x, s.mem_latch_again e x, rfl⟩, fun c s t e hon hoff hstatus h he => ?_⟩
  obtain hdone | ⟨pins, hc, -⟩ | ⟨pins, -, rfl⟩ | ⟨hc, -⟩ := exec_cases h
  · exact hdone.latched hstatus e he
  · exact absurd hc (hon pins)
  · exact (s.restart_keeps pins).latched e he
  · exact absurd hc hoff

end Sys2Proof.Machine
end

section
/-! Steps, and what the two resets and a loss of power leave (R20, R21, R89, R198): O1, O2, O10, O11, O12 and O13. -/
namespace Sys2Proof.Machine

/-! ### Steps and unpowered commands -/

/-- Settles O1: `step` is `exec` at the front of the queue. -/
theorem stepCarriesOutFrontCommand : Obligations.StepCarriesOutFrontCommand := fun _ _ _ => rfl

/-- Every command but a power-on reset asks for power first (log 11). -/
theorem exec_of_unpowered {c : Instr} {s : State} (h : s.powered = false) (hc : ∀ pins, c ≠ .powerOnReset pins) :
    exec c s = .next s := by
  obtain ⟨now, powered⟩ := s
  cases h
  cases c
  case powerOnReset pins => exact absurd rfl (hc pins)
  all_goals rfl

/-- Settles O2. -/
theorem idleAndUnpoweredSteps : Obligations.IdleAndUnpoweredSteps := by
  refine ⟨fun s h => ?_, fun c s h hc => exec_of_unpowered h hc⟩
  unfold step
  split
  · rfl
  · rename_i hs
    rw [hs] at h
    cases h

/-! ### The reset values meet the invariants -/

theorem State.reset_measuresRun : State.reset.MeasuresRun := by
  constructor <;> decide

theorem State.reset_printerAtWork : State.reset.PrinterAtWork := by
  constructor <;> decide

/-- Settles O10, from the values of the blocks at reset. -/
theorem resetMeetsInvariants : Obligations.ResetMeetsInvariants :=
  ⟨rfl, .of_empty rfl rfl rfl rfl, .of_reset rfl (show 0x8000#16 ≠ 0#16 by decide) rfl (Nat.zero_le _) (Nat.zero_le _) rfl rfl rfl,
    .of_reset rfl, .of_empty rfl, .of_empty rfl, .of_empty ⟨rfl, rfl⟩ rfl rfl, .of_empty rfl rfl rfl,
    State.reset_measuresRun, State.reset_printerAtWork⟩

/-! ### Loss of power -/

/-- Settles O13: without power nothing is driven, and all but the identity memory is lost (R21, R83, R89). -/
theorem lossOfPowerKeepsIdentityMemory : Obligations.LossOfPowerKeepsIdentityMemory := by
  intro s h
  refine ⟨s.powerOff, whenPowered_of_powered h _, rfl, rfl, rfl, rfl, rfl, rfl, rfl, rfl, fun ch => ?_, rfl, rfl, rfl⟩
  cases ch <;> rfl

/-! ### The findings of a reset and its first test -/

/-- `x` is `y` with the state of the printer and of the punch changed, and events latched. -/
def State.Found (x y : State) (print : PrinterState) (punch : PunchState) : Prop :=
  y = { x with
    printer := { x.printer with state := print }
    punch := { x.punch with state := punch }
    diag := { x.diag with latched := y.diag.latched, again := y.diag.again } }

theorem State.Found.latchIf {x y : State} {print : PrinterState} {punch : PunchState} (h : x.Found y print punch)
    (p : Bool) (e : Event) : x.Found (if p then y.latch e else y) print punch := by
  split
  · rw [State.Found, h]; rfl
  · exact h

/-- TAPE OUT found at a reset: its measure does not run, the tape being out (R187, R192). -/
theorem State.Found.tapeOut {x y : State} {print : PrinterState} {p : Bool} (h : x.Found y print .idle)
    (hpunch : x.punch = { Punch.reset with tapeOutActive := p }) :
    x.Found (if p then y.enterTapeOut else y) print (if p then .tapeOut else .idle) := by
  cases p
  · exact h
  · rw [State.Found, h, hpunch]
    rfl

/-- PAPER OUT found at a reset: the return is owed already, and the paper measure does not run (R156, R160). -/
theorem State.enterPaperOut_of_reset {s : State} (hprinter : s.printer = { Printer.reset with paperAbsent := true })
    (hidle : s.diag.idleSince = none) :
    s.enterPaperOut = { s.latch .paperOut with printer := { s.printer with state := .paperOut } } := by
  obtain ⟨now, powered, pending, bells, straps, line, recv, sender, answer, store, keys, interp, printer, pacer, arb, punch,
    diag⟩ := s
  obtain ⟨codes, latched, again, errorTotal, request, sweep, testing, findings, idleSince, starting, tapeLow⟩ := diag
  dsimp only at hprinter hidle
  subst hprinter hidle
  rfl

theorem State.Found.paperOut {x y : State} {punch : PunchState} {p : Bool} (h : x.Found y .starting punch)
    (hprinter : x.printer = { Printer.reset with paperAbsent := !p }) (hidle : x.diag.idleSince = none) :
    x.Found (if p then y else y.enterPaperOut) (if p then .starting else .paperOut) punch := by
  cases p
  · rw [State.Found, if_neg (by decide),
      State.enterPaperOut_of_reset (by rw [h, hprinter]; rfl) (by rw [h]; exact hidle), h]
    rfl
  · exact h

/-- What a reset finds changes the state of the printer and of the punch and latches events (R156, R160, R186, R192). -/
theorem resetFindings_found {pins : Pins} {b : State} (hprinter : b.printer = { Printer.reset with paperAbsent := !pins.paper })
    (hpunch : b.punch = { Punch.reset with tapeOutActive := pins.tapeOut }) (hidle : b.diag.idleSince = none) :
    b.Found (resetFindings pins b) (if pins.paper then .starting else .paperOut)
      (if pins.tapeOut then .tapeOut else .idle) := by
  have hbase : b.Found b .starting .idle := by
    have hp : b.printer = { b.printer with state := .starting } := by rw [hprinter]; rfl
    have hq : b.punch = { b.punch with state := .idle } := by rw [hpunch]; rfl
    rw [State.Found, ← hp, ← hq]
  exact (((hbase.latchIf _ _).latchIf _ _).tapeOut hpunch).paperOut hprinter hidle

/-- An event latched under a condition, by an operation that latches it among other things. -/
theorem State.mem_latched_ite {f : State → State} {e : Event} (hf : ∀ s, (f s).diag.latched = (s.latch e).diag.latched)
    (s : State) (p : Bool) (x : Event) :
    x ∈ (if p then f s else s).diag.latched ↔ x ∈ s.diag.latched ∨ (x = e ∧ p = true) := by
  cases p
  · simp
  · rw [if_pos rfl, hf, s.mem_latch]
    simp [or_comm]

theorem mem_resetFindings (pins : Pins) (b : State) (e : Event) : e ∈ (resetFindings pins b).diag.latched ↔
    e ∈ b.diag.latched ∨ (e = .identityLost ∧ b.answer.memory.openCycle = true) ∨
      (e = .supplyLow ∧ pins.supplyLow = true) ∨ (e = .tapeOut ∧ pins.tapeOut = true) ∨
      (e = .paperOut ∧ pins.paper = false) := by
  have hpaper : ∀ u : State, (if pins.paper then u else u.enterPaperOut) = if !pins.paper then u.enterPaperOut else u :=
    fun u => by cases pins.paper <;> rfl
  rw [resetFindings, hpaper, State.mem_latched_ite (f := State.enterPaperOut) (e := .paperOut) fun _ => rfl,
    State.mem_latched_ite (f := State.enterTapeOut) (e := .tapeOut) fun _ => rfl,
    State.mem_latched_ite (f := fun s => s.latch .supplyLow) fun _ => rfl,
    State.mem_latched_ite (f := fun s => s.latch .identityLost) fun _ => rfl]
  simp only [or_assoc, Bool.not_eq_true']

/-- The self-check's first test is under its grant at once, or waits while the supply is low (R162, R164, R198). -/
theorem State.beginSelfCheck_of_reset {s : State} {low : Bool} (harb : s.arb = { Arbiter.reset with supplyLow := low })
    (hnow : s.now = 0) (htesting : s.diag.testing = none) :
    s.beginSelfCheck = { s with
      arb := { s.arb with
        holder := if low then none else some .test
        until' := if low then 0 else 528
        waitTest := low }
      diag := { s.diag with
        sweep := some {
          kind := .selfCheck, index := 0, findings := List.replicate 17 none
          stage := if low then .waiting 0 else .granted }
        testing := if low then none else some { index := 0, counts := true } } } := by
  obtain ⟨now, powered, pending, bells, straps, line, recv, sender, answer, store, keys, interp, printer, pacer, arb, punch,
    diag⟩ := s
  obtain ⟨codes, latched, again, errorTotal, request, sweep, testing, findings, idleSince, starting, tapeLow⟩ := diag
  dsimp only at harb hnow htesting
  subst harb hnow htesting
  cases low <;> rfl

/-- A reset, with the base state it begins from: what its findings and its first test leave. -/
theorem resetFindings_eq {pins : Pins} {b : State} (hprinter : b.printer = { Printer.reset with paperAbsent := !pins.paper })
    (hpunch : b.punch = { Punch.reset with tapeOutActive := pins.tapeOut })
    (harb : b.arb = { Arbiter.reset with supplyLow := pins.supplyLow }) (hnow : b.now = 0)
    (hidle : b.diag.idleSince = none) (htesting : b.diag.testing = none) :
    ∃ l a, (resetFindings pins b).beginSelfCheck = { b with
      printer := { b.printer with state := if pins.paper then .starting else .paperOut }
      punch := { b.punch with state := if pins.tapeOut then .tapeOut else .idle }
      arb := { b.arb with
        holder := if pins.supplyLow then none else some .test
        until' := if pins.supplyLow then 0 else 528
        waitTest := pins.supplyLow }
      diag := { b.diag with
        latched := l
        again := a
        sweep := some {
          kind := .selfCheck, index := 0, findings := List.replicate 17 none
          stage := if pins.supplyLow then .waiting 0 else .granted }
        testing := if pins.supplyLow then none else some { index := 0, counts := true } } } ∧
    ∀ e, e ∈ l ↔ e ∈ b.diag.latched ∨ (e = .identityLost ∧ b.answer.memory.openCycle = true) ∨
      (e = .supplyLow ∧ pins.supplyLow = true) ∨ (e = .tapeOut ∧ pins.tapeOut = true) ∨
      (e = .paperOut ∧ pins.paper = false) := by
  have hfound : resetFindings pins b = _ := resetFindings_found hprinter hpunch hidle
  refine ⟨(resetFindings pins b).diag.latched, (resetFindings pins b).diag.again, ?_, mem_resetFindings pins b⟩
  generalize resetFindings pins b = u at hfound
  generalize u.diag.latched = l, u.diag.again = a at hfound
  subst hfound
  exact State.beginSelfCheck_of_reset harb hnow htesting

/-- Settles O11, from the base values of a reset, what it finds and its first test. -/
theorem powerOnResetValues : Obligations.PowerOnResetValues := by
  intro pins s
  obtain ⟨l, a, heq, hmem⟩ := resetFindings_eq (pins := pins) (b := resetCommon pins s) rfl rfl rfl rfl rfl rfl
  refine ⟨s.powerOn pins, rfl, ?_⟩
  rw [State.powerOn, heq]
  refine ⟨rfl, rfl, rfl, rfl, rfl, rfl, rfl, rfl, rfl, rfl, rfl, rfl, rfl, rfl, rfl, rfl, rfl, rfl, rfl, rfl, rfl, rfl, rfl, rfl, rfl, rfl, rfl, rfl, rfl, rfl, rfl, rfl, rfl, rfl, rfl, rfl, fun r hr => ?_, rfl, rfl, rfl, rfl, rfl, rfl, rfl, rfl, rfl, rfl, rfl, rfl, rfl, rfl, rfl, rfl, rfl, rfl, rfl, rfl, rfl, rfl, rfl, rfl, rfl, fun e => (hmem e).trans (or_congr_left (List.mem_singleton))⟩
  rw [List.eq_of_mem_replicate hr]
  exact ⟨rfl, rfl, rfl, rfl⟩

theorem Rec.restart_state (r : Rec) : r.restart.state = if r.state = .opened then .closed .restarted else r.state := by
  show (if r.isOpen then RecState.closed .restarted else r.state) = _
  simp [Rec.isOpen]

theorem Rec.restart_print (r : Rec) :
    r.restart.print = if r.print.done then r.print else { pos := 0, done := false } := by
  show (if r.print.done then r.print else { r.print with pos := 0 }) = _
  cases h : r.print.done
  · rw [← h]
  · rfl

theorem Rec.restart_punch (r : Rec) : r.restart.punch =
    r.punch.map fun p => if p.done || p.skipped then p else { pos := 0, done := false, skipped := false } := by
  show (r.punch.map fun p => if p.done || p.skipped then p else { p with pos := 0 }) = _
  congr 1
  funext ⟨pos, done, skipped⟩
  cases done <;> cases skipped <;> rfl

theorem Comp.restart_facts (c : Comp) :
    c.restart.state = (match c.state with
      | .sending | .awaiting | .held => .held
      | .openAddressing => .openAddressing
      | .openText => .openText
      | .ready => .ready) ∧
    c.restart.kind = c.kind ∧ c.restart.dests = c.dests ∧ c.restart.text = c.text ∧
    c.restart.yields = c.yields ∧ c.restart.serial = c.serial ∧
    (c.state = .openAddressing → c.restart.pendingDigit = none) := by
  unfold Comp.restart
  cases h : c.state <;> simp [h]

/-- Settles O12, as O11, from what the reset pin keeps. -/
theorem resetPinValues : Obligations.ResetPinValues := by
  refine ⟨fun pins s hp => ?_, fun r => ⟨r.restart_state, r.restart_print, fun p h => ?_, fun h => ?_, rfl, rfl, rfl,
    rfl, rfl, rfl, rfl⟩,
    Comp.restart_facts⟩
  · obtain ⟨l, a, heq, hmem⟩ := resetFindings_eq (pins := pins) (b := (s.restartBase pins).latch .restart) rfl rfl rfl rfl rfl rfl
    refine ⟨s.restart pins, whenPowered_of_powered hp fun s => s.restart pins, ?_⟩
    rw [show s.restart pins = _ from heq]
    refine ⟨rfl, rfl, rfl, rfl, rfl, rfl, rfl, rfl, rfl, rfl, rfl, rfl, rfl, rfl, rfl, rfl, rfl, rfl, rfl, rfl, rfl, rfl, rfl, rfl, rfl, rfl, rfl, rfl, rfl, rfl, rfl, rfl, rfl, rfl, rfl, fun r hr => ?_, rfl, rfl, rfl, rfl, rfl, rfl, rfl, rfl, rfl, rfl, rfl, rfl, rfl, rfl, rfl, rfl, rfl, rfl, rfl, rfl, rfl, rfl, rfl, rfl, rfl, rfl, rfl, rfl, rfl, fun e => (hmem e).trans ?_⟩
    · rw [List.eq_of_mem_replicate hr]
      exact ⟨rfl, rfl, rfl, rfl⟩
    · rw [State.mem_latch, or_assoc, or_left_comm]
      rfl
  · rw [r.restart_punch, h]; rfl
  · rw [r.restart_punch, h]; rfl

end Sys2Proof.Machine
end

section
/-! The store (spec/01_the_message_store.md): reading a cell, the append and the records' coming and going: O26, O27
and O28. -/
namespace Sys2Proof.Machine

/-! ### Reading over writing -/

/-- Below every listed address nothing has been written. -/
theorem Memory.read_of_lt {m : List Host.Cell} {a : Nat} (h : ∀ c ∈ m, a < c.1) : Memory.read m a = Memory.unlisted := by
  induction m with
  | nil => rfl
  | cons c m ih =>
    obtain ⟨b, v⟩ := c
    have hab : a ≠ b := Nat.ne_of_lt (h (b, v) (by simp))
    rw [Memory.read, if_neg hab]
    exact ih fun c hc => h c (by simp [hc])

theorem Memory.wf_cons {b : Nat} {x : BitVec 8} {m : List Host.Cell} (h : Memory.wf ((b, x) :: m) = true) :
    (∀ c ∈ m, b < c.1) ∧ Memory.wf m = true := by
  obtain ⟨hrise, hlisted⟩ := (Memory.wf_iff _).1 h
  rw [List.pairwise_cons] at hrise
  exact ⟨hrise.1, (Memory.wf_iff _).2 ⟨hrise.2, fun c hc => hlisted c (by simp [hc])⟩⟩

/-- Reading a cell after a write, by the place of the address among the listed ones (R1). -/
theorem Memory.read_write {m : List Host.Cell} (h : Memory.wf m = true) (a b : Nat) (v : BitVec 8) :
    Memory.read (Memory.write m a v) b = if b = a then v else Memory.read m b := by
  induction m with
  | nil =>
    unfold Memory.write
    split
    next hv => simp [Memory.read, hv]
    next => simp [Memory.read]
  | cons c m ih =>
    obtain ⟨b', x⟩ := c
    obtain ⟨hlt, hm⟩ := Memory.wf_cons h
    have ih := ih hm
    unfold Memory.write
    split
    next hab =>
      have hbelow : Memory.read ((b', x) :: m) a = Memory.unlisted := by
        refine Memory.read_of_lt fun c hc => ?_
        rcases List.mem_cons.mp hc with rfl | hc
        · exact hab
        · exact Nat.lt_trans hab (hlt c hc)
      split
      next hv =>
        split
        next hb => rw [hb, hbelow, hv]
        next => rfl
      next => rfl
    next hab =>
      split
      next heq =>
        subst heq
        split
        next hv =>
          split
          next hb => rw [hb, Memory.read_of_lt hlt, hv]
          next hb => rw [Memory.read, if_neg hb]
        next =>
          by_cases hb : b = a <;> simp [Memory.read, hb]
      next hne =>
        rw [Memory.read, Memory.read, ih]
        by_cases hb : b = b'
        · rw [if_pos hb, if_pos hb, if_neg (by omega)]
        · rw [if_neg hb, if_neg hb]

/-- Settles O26. -/
theorem cellReadsBackWhatWasWritten : Obligations.CellReadsBackWhatWasWritten :=
  ⟨fun _ _ => rfl, fun _ a b v h => Memory.read_write h a b v⟩

/-! ### The OPEN record -/

theorem satSucc_eq (top n : Nat) : satSucc top n = if n < top then n + 1 else top := by
  unfold satSucc
  split <;> omega

/-- The OPEN record stands last, every other one closed (R6). -/
structure Store.OpenLast (st : Store) (l : List Rec) (r : Rec) : Prop where
  recs : st.recs = l ++ [r]
  isOpen : r.isOpen = true
  closed : ∀ x ∈ l, x.isOpen = false

theorem Store.OpenLast.openRec {st : Store} {l : List Rec} {r : Rec} (h : st.OpenLast l r) : st.openRec = some r := by
  rw [Store.openRec, h.recs]
  exact find?_append_cons [] h.closed h.isOpen

theorem Store.OpenLast.updateOpen {st : Store} {l : List Rec} {r : Rec} (h : st.OpenLast l r) (f : Rec → Rec) :
    st.updateOpen f = { st with recs := l ++ [f r] } := by
  rw [Store.updateOpen, h.recs, map_ite_append_cons f (by simpa using h.closed) h.isOpen]

theorem Store.updateOpen_of_closed {st : Store} (h : ∀ r ∈ st.recs, r.isOpen = false) (f : Rec → Rec) :
    st.updateOpen f = st := by
  have hid : (st.recs.map fun r => if r.isOpen then f r else r) = st.recs :=
    (List.map_congr_left fun r hr => by rw [h r hr]; rfl).trans (List.map_id _)
  rw [Store.updateOpen, hid]

theorem Store.openRec_of_closed {st : Store} (h : ∀ r ∈ st.recs, r.isOpen = false) : st.openRec = none :=
  List.find?_eq_none.mpr fun r hr => by simp [h r hr]

/-- The space steps leave the OPEN record last (R14). -/
theorem SpaceSteps.openLast {s t : State} {l : List Rec} {r : Rec} (h : SpaceSteps s t) (ho : s.store.OpenLast l r) :
    ∃ l', t.store.OpenLast l' r := by
  obtain ⟨n, hn, hclosed⟩ := h.recs
  have hle : n ≤ l.length := by
    refine Classical.byContradiction fun hlt => ?_
    have hmem : r ∈ s.store.recs.take n := by
      rw [ho.recs, List.take_of_length_le (by simp; omega)]
      simp
    exact absurd ho.isOpen (by simp [hclosed r hmem])
  exact ⟨l.drop n, by rw [hn, ho.recs, List.drop_append_of_le_length hle], ho.isOpen,
    fun x hx => ho.closed x (List.drop_subset n l hx)⟩

/-! ### Space -/

theorem State.makeRoom_step (met : Store → Bool) (n : Nat) (s : State) : s.makeRoom met (n + 1) =
    if met s.store then s else if s.headReleasable then s.releaseHead.makeRoom met n else s := rfl

/-- Once there are as many steps as records, more make no difference. -/
theorem State.makeRoom_succ (met : Store → Bool) {n : Nat} {s : State} (h : s.store.recs.length ≤ n) :
    s.makeRoom met (n + 1) = s.makeRoom met n := by
  induction n generalizing s with
  | zero =>
    have hempty := List.length_eq_zero_iff.mp (Nat.le_zero.mp h)
    exact State.makeRoom_of_not_releasable (by simp [State.headReleasable, hempty]) 1
  | succ n ih =>
    rw [State.makeRoom_step met (n + 1), State.makeRoom_step met n s]
    by_cases hr : s.headReleasable = true
    · have hlt := (State.releaseHead_spaceSteps hr).2
      rw [ih (s := s.releaseHead) (by omega)]
    · rw [if_neg hr, if_neg hr]

/-- A release first where one is called for (R14). -/
theorem State.makeRoom_releaseHead {met : Store → Bool} {s : State} {n : Nat} (hmet : met s.store = false)
    (h : s.headReleasable = true) (hn : s.store.recs.length ≤ n) : s.makeRoom met n = s.releaseHead.makeRoom met n := by
  have hlt := (State.releaseHead_spaceSteps h).2
  obtain ⟨m, rfl⟩ : ∃ m, n = m + 1 := ⟨n - 1, by omega⟩
  rw [State.makeRoom_succ (s := s.releaseHead) met (by omega)]
  rw [State.makeRoom_step, hmet, if_neg (by decide), if_pos h]

/-! ### The append -/

section
variable {s : State} {l : List Rec} {r : Rec} (h : s.store.OpenLast l r)
include h

theorem State.append_of_truncated (ht : r.truncated = true) (c : Code) : s.append c =
    { s with store := { s.store with recs := l ++ [{ r with dropped := satSucc 65535 r.dropped }] } } := by
  simp only [State.append, h.openRec, ht, if_true, h.updateOpen]

theorem State.append_of_room (ht : r.truncated = false) (c : Code) : s.append c =
    if 0 < s.roomForCell.store.free then { s.roomForCell with store := s.roomForCell.store.storeChar c }
    else s.roomForCell.truncateRecord := by
  simp only [State.append, h.openRec, ht, Bool.false_eq_true, if_false]

theorem State.append_of_free (ht : r.truncated = false) (hfree : 0 < s.store.free) (c : Code) : s.append c =
    { s with store := { s.store with
      cells := Memory.write s.store.cells (s.store.w % 4096) (c.setWidth 8)
      w := (s.store.w + 1) % 4096
      recs := l ++ [{ r with length := r.length + 1 }] } } := by
  have hroom : s.roomForCell = s := State.makeRoom_of_met (by simpa using hfree) _
  have hput : (s.store.put c).OpenLast l r := ⟨h.recs, h.isOpen, h.closed⟩
  rw [State.append_of_room h ht, hroom, if_pos hfree, Store.storeChar, hput.updateOpen]
  rfl

theorem State.append_of_full (ht : r.truncated = false) (hfree : s.store.free = 0) (hr : s.headReleasable = false)
    (c : Code) : s.append c = ({ s with store := { s.store with
      recs := l ++ [{ r with truncated := true, dropped := satSucc 65535 r.dropped }] } }).latch .storeFull := by
  have hroom : s.roomForCell = s := State.makeRoom_of_not_releasable hr _
  rw [State.append_of_room h ht, hroom, if_neg (by omega), State.truncateRecord, h.updateOpen]

/-- With no cell free a head that may be released gives way first (R14, R15). -/
theorem State.append_of_releasable (ht : r.truncated = false) (hfree : s.store.free = 0) (hr : s.headReleasable = true)
    (hn : s.store.recs.length ≤ 24) (c : Code) : s.append c = s.releaseHead.append c := by
  obtain ⟨l', ho⟩ := (State.releaseHead_spaceSteps hr).1.openLast h
  have hroom : s.roomForCell = s.releaseHead.roomForCell :=
    State.makeRoom_releaseHead (by simpa using hfree) hr hn
  rw [State.append_of_room h ht, State.append_of_room ho ht, hroom]

end

/-- Settles O27, from the append to the OPEN record by its truncated mark and the space there is. -/
theorem appendStoresOrTruncates : Obligations.AppendStoresOrTruncates := by
  refine ⟨fun s c hclosed => ⟨?_, ?_⟩, fun s c l r hrecs hopen hclosed => ?_⟩
  · simp only [State.append, Store.openRec_of_closed hclosed]
  · rw [State.reportError, Store.updateOpen_of_closed hclosed]
  · have h : s.store.OpenLast l r := ⟨hrecs, hopen, hclosed⟩
    refine ⟨fun ht => ?_, fun ht hfree => State.append_of_free h ht hfree c, fun ht hfree hr hn => ⟨?_, fun hfree' => ?_⟩,
      fun ht hfree hr => ?_, ?_⟩
    · rw [State.append_of_truncated h ht, satSucc_eq]
    · exact State.append_of_releasable h ht hfree hr hn c
    · obtain ⟨l', ho⟩ := (State.releaseHead_spaceSteps hr).1.openLast h
      refine ⟨l', ho.recs, ?_⟩
      rw [State.append_of_releasable h ht hfree hr hn, State.append_of_free ho ht hfree']
      rfl
    · rw [State.append_of_full h ht hfree hr, satSucc_eq]
    · rw [State.reportError, h.updateOpen, satSucc_eq]

/-! ### Records -/

theorem Rec.reclaimable_iff_state (r : Rec) : r.reclaimable = true ↔ r.state ≠ .opened ∧ r.print.done = true ∧
    ∀ p, r.punch = some p → p.done = true ∨ p.skipped = true := by
  rw [r.reclaimable_iff, r.isOpen_eq_false_iff, r.punchLive_eq_false_iff]

theorem Rec.not_reclaimable_iff (r : Rec) : r.reclaimable = false ↔ r.isOpen = true ∨ r.print.done = false ∨
    ∃ p, r.punch = some p ∧ p.done = false ∧ p.skipped = false := by
  rw [← r.punchLive_iff]
  cases h : r.isOpen <;> cases h' : r.print.done <;> simp [Rec.reclaimable, h, h']

theorem Store.blockOpen_iff (st : Store) :
    st.blockOpen = true ↔ ∃ x ∈ st.recs, x.state = .opened ∧ x.kind ≠ .localTyping := by
  simp only [Store.blockOpen, List.any_eq_true, Rec.isOpenBlock, Bool.and_eq_true, Rec.isOpen_iff, bne_iff_ne]

theorem Store.localOpen_iff (st : Store) :
    st.localOpen = true ↔ ∃ x ∈ st.recs, x.state = .opened ∧ x.kind = .localTyping := by
  simp only [Store.localOpen, List.any_eq_true, Rec.isOpenLocal, Bool.and_eq_true, Rec.isOpen_iff, beq_iff_eq]

theorem State.headReleasable_iff_claim (s : State) : s.headReleasable = true ↔
    ∃ r l p, s.store.recs = r :: l ∧ r.state ≠ .opened ∧ r.print.done = true ∧
      r.punch = some p ∧ p.done = false ∧ p.skipped = false ∧ s.punch.state ≠ .running := by
  simp only [s.headReleasable_iff, Rec.isOpen_eq_false_iff, Rec.punchLive_iff]
  constructor
  · rintro ⟨r, l, hrecs, hclosed, hdone, ⟨p, hp, hd, hs⟩, hrun⟩
    exact ⟨r, l, p, hrecs, hclosed, hdone, hp, hd, hs, hrun⟩
  · rintro ⟨r, l, p, hrecs, hclosed, hdone, hp, hd, hs, hrun⟩
    exact ⟨r, l, hrecs, hclosed, hdone, ⟨p, hp, hd, hs⟩, hrun⟩

/-- Reclaim takes finished records off the head, and stops at the first that is not (R13). -/
theorem Store.reclaim_spec (st : Store) : ∃ n, st.reclaim.recs = st.recs.drop n ∧
    (∀ r ∈ st.recs.take n, r.reclaimable = true) ∧ ∀ r, st.reclaim.recs.head? = some r → r.reclaimable = false := by
  obtain ⟨n, hn, htaken⟩ := reclaim_drops st
  refine ⟨n, hn, htaken, fun r hr => ?_⟩
  have hhead := List.head?_dropWhile_not Rec.reclaimable st.recs
  rw [show st.recs.dropWhile Rec.reclaimable = st.reclaim.recs from rfl, hr] at hhead
  simpa using hhead

/-- The head's release (R15). -/
theorem State.releaseHead_eq {s : State} {r : Rec} {l : List Rec} (hrecs : s.store.recs = r :: l)
    (hclosed : r.isOpen = false) (hdone : r.print.done = true) :
    s.releaseHead = { s.latch .punchSkipped with
      store := { s.store with recs := l.dropWhile Rec.reclaimable }
      punch := { s.punch with leader := 0 } } := by
  rw [← s.releaseHead_recs hrecs hclosed hdone]
  rfl

/-! ### Opening and splitting -/

theorem punchSelected_iff (punchsel : BitVec 2) (k : RecKind) : punchSelected punchsel k = true ↔
    (k = .received ∧ punchsel ≠ 0#2) ∨ (k = .sent ∧ (punchsel = 2#2 ∨ punchsel = 3#2)) ∨
      (k = .localTyping ∧ punchsel = 3#2) := by
  cases k
  all_goals
    revert punchsel
    decide

/-- The store opens a record at once where a descriptor is free (R2, R3, R4, R7). -/
theorem State.openRecord_of_free {s : State} (h : s.store.recs.length < 24) (k : RecKind) (peer : Option Station) :
    s.openRecord k peer = (s.addRec k peer, true) := by
  have hfree : 0 < s.store.freeRecs := Nat.sub_pos_of_lt h
  have hroom : s.roomForRec = s := State.makeRoom_of_met (by simpa using hfree) _
  rw [State.openRecord, hroom, if_pos hfree]

theorem Store.freeRecs_of_full {st : Store} (h : st.recs.length = 24) : st.freeRecs = 0 := by
  rw [Store.freeRecs, h]; rfl

/-- With no descriptor free a head that may be released gives way (R14, R15). -/
theorem State.openRecord_of_releasable {s : State} (h : s.store.recs.length = 24) (hr : s.headReleasable = true)
    (k : RecKind) (peer : Option Station) : s.openRecord k peer = s.releaseHead.openRecord k peer := by
  have hroom : s.roomForRec = s.releaseHead.roomForRec :=
    State.makeRoom_releaseHead (by simp [Store.freeRecs_of_full h]) hr (Nat.le_of_eq h)
  rw [State.openRecord, State.openRecord, hroom]

/-- With none to be had the request is refused (R7, R17). -/
theorem State.openRecord_of_full {s : State} (h : s.store.recs.length = 24) (hr : s.headReleasable = false)
    (k : RecKind) (peer : Option Station) : s.openRecord k peer = (s.latch .storeFull, false) := by
  have hroom : s.roomForRec = s := State.makeRoom_of_not_releasable hr _
  rw [State.openRecord, hroom, if_neg (by rw [Store.freeRecs_of_full h]; decide)]

/-- An OPEN LOCAL record is closed SPLIT (R6, R9). -/
theorem State.splitLocal_of_open {s : State} (h : s.store.localOpen = true) :
    s.splitLocal = { s.closeRecord .split with interp := { s.interp with localOpen := false } } := by
  rw [State.splitLocal, if_pos h]
  rfl

/-- Settles O28. -/
theorem recordsComeAndGo : Obligations.RecordsComeAndGo := by
  refine ⟨fun r st => ⟨r.isOpen_iff, r.reclaimable_iff_state, st.blockOpen_iff, st.localOpen_iff, rfl, rfl⟩,
    fun s => ⟨s.headReleasable_iff_claim, fun h => by rw [State.splitLocal, h]; rfl⟩, fun st => ?_,
    fun s r l p hrecs hclosed hdone hp hd hs => ⟨?_, s.releaseHead_eq hrecs hclosed hdone⟩,
    fun s k peer => ⟨fun h => ?_, fun h hr => ⟨?_, State.openRecord_of_releasable h hr k peer⟩,
      fun h hr => State.openRecord_of_full h hr k peer, fun l r hrecs hopen hkind hclosed => ?_⟩⟩
  · obtain ⟨n, hn, htaken, hhead⟩ := st.reclaim_spec
    refine ⟨n, hn, fun r hr => ?_, fun r hr => (r.not_reclaimable_iff).1 (hhead r hr), rfl, rfl, rfl⟩
    obtain ⟨hclosed, hdone, hpunch⟩ := (r.reclaimable_iff_state).1 (htaken r hr)
    exact ⟨r.isOpen_eq_false_iff.2 hclosed, hdone, hpunch⟩
  · rw [s.headReleasable_iff_claim]
    exact ⟨fun ⟨_, _, _, _, _, _, _, _, _, hrun⟩ => hrun,
      fun hrun => ⟨r, l, p, hrecs, r.isOpen_eq_false_iff.1 hclosed, hdone, hp, hd, hs, hrun⟩⟩
  · rw [State.openRecord_of_free h]
    simp only [State.addRec, newRec, punchSelected_iff]
  · exact h ▸ (State.releaseHead_spaceSteps hr).2
  · have ho : s.store.OpenLast l r := ⟨hrecs, hopen, hclosed⟩
    have hlocal : s.store.localOpen = true :=
      s.store.localOpen_iff.2 ⟨r, by rw [hrecs]; simp, r.isOpen_iff.1 hopen, hkind⟩
    rw [State.splitLocal_of_open hlocal]
    refine ⟨?_, rfl, rfl⟩
    show ((s.store.updateOpen _).recs).dropWhile Rec.reclaimable = _
    rw [ho.updateOpen]

end Sys2Proof.Machine
end

section
/-! The Sender (spec/04_contention_sending_and_receipts.md): its choice of a source and the span of it, the block it sends,
and the ways a block ends: O14, O29, O30, O31, O32 and O33. -/
namespace Sys2Proof.Machine

/-! ### The choice of a source -/

theorem State.maySendComp_iff (s : State) :
    s.maySendComp = true ↔ s.sender.watch = .none ∧ ∀ c ∈ s.interp.comps, c.state ≠ .sending := by
  simp [State.maySendComp]

theorem Interp.oldestReady_iff (i : Interp) (c : Comp) : i.oldestReady = some c ↔
    ∃ l l', i.comps = l ++ c :: l' ∧ c.state = .ready ∧ ∀ x ∈ l, x.state ≠ .ready := by
  simp only [Interp.oldestReady, List.find?_eq_some_iff_append, beq_iff_eq]
  constructor
  · rintro ⟨hc, l, l', hl, hne⟩
    exact ⟨l, l', hl, hc, fun x hx => by simpa using hne x hx⟩
  · rintro ⟨l, l', hl, hc, hne⟩
    exact ⟨hc, l, l', hl, fun x hx => by simpa using hne x hx⟩

theorem Interp.oldestReady_eq_none (i : Interp) : i.oldestReady = none ↔ ∀ x ∈ i.comps, x.state ≠ .ready := by
  simp [Interp.oldestReady]

/-- The yield count of a composition whose serial no other before it has (R67). -/
theorem Interp.yieldsOf_of_comps {i : Interp} {c : Comp} {l l' : List Comp} (hcomps : i.comps = l ++ c :: l')
    (hne : ∀ x ∈ l, x.serial ≠ c.serial) : i.yieldsOf c.serial = c.yields := by
  rw [Interp.yieldsOf, hcomps, find?_append_cons l' (fun x hx => by simpa using hne x hx) (by simp)]

theorem State.chosenSource_of_replies {s : State} (h : s.sender.replies ≠ []) : s.chosenSource = .reply := by
  simp [State.chosenSource, h]

theorem State.chosenSource_of_ready {s : State} {c : Comp} (hreplies : s.sender.replies = [])
    (hmay : s.maySendComp = true) (hready : s.interp.oldestReady = some c) : s.chosenSource = .comp c.serial := by
  simp [State.chosenSource, hreplies, hmay, hready]

theorem State.chosenSource_of_idle {s : State} (hreplies : s.sender.replies = [])
    (h : s.maySendComp = false ∨ s.interp.oldestReady = none) : s.chosenSource = .none := by
  rcases h with h | h <;> simp [State.chosenSource, hreplies, h]

/-! ### The span and the choice together -/

theorem State.beginSpan_of_quiet {s : State} (h : s.line.condition = .quiet) : s.beginSpan = s.startSpan := by
  simp [State.beginSpan, h]

theorem State.beginSpan_of_not_quiet {s : State} (h : s.line.condition ≠ .quiet) :
    s.beginSpan = { s with sender := { s.sender with span := none, spanReached := false } } := by
  simp [State.beginSpan, h, Sender.noSpan]

theorem State.chooseNext_of_none {s : State} (h : s.diag.starting = true ∨ s.chosenSource = .none) :
    s.chooseNext = { s with sender := { s.sender with
      state := .idle, source := .none, span := none, spanReached := false } } := by
  unfold State.chooseNext
  split
  · rfl
  · rename_i hs
    rw [h.resolve_left hs]
    rfl

theorem State.chooseNext_of_source {s : State} {src : Source} (hs : s.diag.starting = false)
    (hsrc : s.chosenSource = src) (hne : src ≠ .none) :
    s.chooseNext = { s with sender := { s.sender with state := .deferring, source := src } }.beginSpan := by
  unfold State.chooseNext
  rw [hs, hsrc]
  cases src with
  | none => exact absurd rfl hne
  | reply => rfl
  | comp n => rfl

/-- With no work, or while STARTING, the Sender is IDLE (R64, R198). -/
theorem State.chooseNext_idle {s : State} (h : s.diag.starting = true ∨
    (s.sender.replies = [] ∧ (s.maySendComp = false ∨ s.interp.oldestReady = none))) :
    s.chooseNext = { s with sender := { s.sender with
      state := .idle, source := .none, span := none, spanReached := false } } :=
  State.chooseNext_of_none (h.imp_right fun ⟨hreplies, hc⟩ => State.chosenSource_of_idle hreplies hc)

/-- The head reply comes first, with the reply gap on a QUIET line (R64, R66). -/
theorem State.chooseNext_reply {s : State} (hs : s.diag.starting = false) (h : s.sender.replies ≠ []) :
    (s.line.condition = .quiet → s.chooseNext = { s with sender := { s.sender with
      state := .deferring, source := .reply, span := some 1, draw := 0, spanReached := false } }) ∧
    (s.line.condition ≠ .quiet → s.chooseNext = { s with sender := { s.sender with
      state := .deferring, source := .reply, span := none, spanReached := false } }) := by
  rw [State.chooseNext_of_source hs (State.chosenSource_of_replies h) (by simp)]
  exact ⟨fun hq => State.beginSpan_of_quiet hq, fun hq => State.beginSpan_of_not_quiet hq⟩

/-- Then the oldest READY composition, with its quiet gap, draw and courtesy slots on a QUIET line (R64, R66, R67). -/
theorem State.chooseNext_comp {s : State} {c : Comp} (hs : s.diag.starting = false) (hreplies : s.sender.replies = [])
    (hmay : s.maySendComp = true) (hready : s.interp.oldestReady = some c) :
    (s.line.condition = .quiet → s.chooseNext = { s with sender := { s.sender with
      state := .deferring, source := .comp c.serial
      draw := s.sender.generator.toNat % 2 ^ (3 - s.interp.yieldsOf c.serial), spanReached := false
      span := some (3 + s.sender.generator.toNat % 2 ^ (3 - s.interp.yieldsOf c.serial) +
        if s.sender.courtesy then 4 else 0) } }) ∧
    (s.line.condition ≠ .quiet → s.chooseNext = { s with sender := { s.sender with
      state := .deferring, source := .comp c.serial, span := none, spanReached := false } }) := by
  rw [State.chooseNext_of_source hs (State.chosenSource_of_ready hreplies hmay hready) (by simp)]
  exact ⟨fun hq => State.beginSpan_of_quiet hq, fun hq => State.beginSpan_of_not_quiet hq⟩

/-! ### The line becomes QUIET -/

/-- The line once QUIET, the Sender not yet told (R30). -/
def State.quietNow (s : State) : State := { s with line := { s.line with condition := .quiet, quietSince := s.now } }

theorem State.becomeQuiet_of_deferring {s : State} (h : s.sender.state = .deferring) :
    s.becomeQuiet = s.quietNow.chooseNext := by
  unfold State.becomeQuiet
  exact if_pos (by simpa using h)

theorem State.becomeQuiet_of_not_deferring {s : State} (h : s.sender.state ≠ .deferring) :
    s.becomeQuiet = s.quietNow := by
  unfold State.becomeQuiet
  exact if_neg (by simpa using h)

theorem State.becomeQuiet_frame (s : State) : s.becomeQuiet.line = s.quietNow.line ∧
    s.becomeQuiet = { s with line := s.becomeQuiet.line, sender := s.becomeQuiet.sender } := by
  by_cases h : s.sender.state = .deferring
  · obtain ⟨r, hr, -⟩ := s.quietNow.chooseNext_frame
    rw [State.becomeQuiet_of_deferring h, hr]
    exact ⟨rfl, rfl⟩
  · rw [State.becomeQuiet_of_not_deferring h]
    exact ⟨rfl, rfl⟩

/-- Settles O14, from the choice of a source on a QUIET line. -/
theorem becomingQuietStartsSpan : Obligations.BecomingQuietStartsSpan := by
  refine ⟨State.maySendComp_iff, fun i c => ⟨i.oldestReady_iff c, i.oldestReady_eq_none, fun l l' => Interp.yieldsOf_of_comps⟩,
    fun s => ⟨s.becomeQuiet_frame.1, s.becomeQuiet_frame.2, fun hd hs => ?_, fun hd => ?_, fun hd hs => ⟨fun hr => ?_,
      fun c hr hmay hc => ?_, fun hr hc => ?_⟩⟩⟩
  · rw [State.becomeQuiet_of_deferring hd, State.chooseNext_idle (s := s.quietNow) (.inl hs)]
    rfl
  · rw [State.becomeQuiet_of_not_deferring hd]
    rfl
  · rw [State.becomeQuiet_of_deferring hd, (State.chooseNext_reply (s := s.quietNow) hs hr).1 rfl, ← hd]
    rfl
  · refine ⟨_, Nat.mod_lt _ (Nat.two_pow_pos _), rfl, ?_⟩
    rw [State.becomeQuiet_of_deferring hd, (State.chooseNext_comp (s := s.quietNow) hs hr hmay hc).1 rfl, ← hd]
    rfl
  · rw [State.becomeQuiet_of_deferring hd, State.chooseNext_idle (s := s.quietNow) (.inr ⟨hr, hc⟩)]
    rfl

/-! ### The block a source is sent as -/

theorem Comp.codes_eq (c : Comp) : c.codes = c.text.flatMap fun
    | .char x => [x]
    | .lineEnd => [0x0D#7, 0x0A#7] :=
  congrArg c.text.flatMap (funext fun u => by cases u <;> rfl)

/-- Settles O29, by the kind of source. -/
theorem blockIsBuilt : Obligations.BlockIsBuilt := by
  refine ⟨Comp.codes_eq, fun s header hcodes hall => ?_⟩
  have hheader : header = fun d => headerOf d s.straps.code := by
    funext d
    cases d with
    | codes l => exact hcodes l
    | all => exact hall
  subst hheader
  refine ⟨fun d letter rest hsrc hreplies => ?_, fun d rest hsrc hreplies => ?_, fun n c hsrc hc =>
    ⟨fun hk => ?_, fun hk => ?_, fun hk => ?_⟩⟩
  · simp [State.buildBlock, hsrc, hreplies]
  · simp [State.buildBlock, hsrc, hreplies, State.identityContent]
  · simp [State.buildBlock, hsrc, hc, hk]
  · simp [State.buildBlock, hsrc, hc, hk]
  · simp [State.buildBlock, hsrc, hc, hk, State.identityContent]

/-! ### START -/

/-- One sample instant alone lies within one interval after the present one (R35). -/
theorem State.nextSample_eq {s : State} {at' k : Nat} (hq : s.line.quietSince ≤ s.now)
    (hat : at' = s.line.quietSince + s.samples k) (hlt : s.now < at') (hle : at' ≤ s.now + s.samples 1) :
    s.nextSample = at' := by
  obtain ⟨hlt', hle', k', hat'⟩ := s.nextSample_spec hq
  rw [s.samples_eq] at hat hat'
  have hk : k = k' := by
    refine Classical.byContradiction fun hne => ?_
    rcases Nat.lt_or_gt_of_ne hne with h | h
    · have := Nat.mul_le_mul_right (s.samples 1) h
      rw [Nat.succ_mul] at this
      omega
    · have := Nat.mul_le_mul_right (s.samples 1) h
      rw [Nat.succ_mul] at this
      omega
  rw [hat, hat', hk]

theorem State.orderStart_now (s : State) (lastMark : Bool) : (s.orderStart lastMark).now = max s.now s.nextSample := by
  obtain ⟨-, h⟩ | ⟨-, -, h⟩ | ⟨-, header, block, -, h⟩ := s.orderStart_cases lastMark <;> rw [h] <;> rfl

/-- START refused (R70). -/
theorem State.orderStart_refused {s : State} {at' : Nat} (hat : s.nextSample = at') (hlt : s.now < at') :
    s.orderStart false = { s with now := at', sender := { s.sender with span := none, spanReached := false } } := by
  rw [State.orderStart, hat, State.reach, Nat.max_eq_right (Nat.le_of_lt hlt)]
  rfl

/-- START taken: CALL begins, and the Sender is SENDING (R35, R69, R72). -/
theorem State.orderStart_taken {s : State} {at' : Nat} {header block : List Code} (hat : s.nextSample = at')
    (hlt : s.now < at') (hb : s.buildBlock = some (header, block)) :
    s.orderStart true = { s with
      now := at'
      line := { s.line with tx := .shifting 0x01#7 at' }
      sender := { s.sender with
        state := .sending, span := none, spanReached := false, block := block, position := 1
        headerLength := header.length
        courtesy := if s.sender.source = .reply then s.sender.courtesy else false }
      interp := { s.interp with comps := s.interp.comps.map fun c =>
        if s.sender.source = .comp c.serial then { c with state := .sending } else c } } := by
  have hb' : State.buildBlock { s with now := at' } = some (header, block) := hb
  rw [State.orderStart, hat, State.reach, Nat.max_eq_right (Nat.le_of_lt hlt)]
  simp only [if_true, hb', State.beginBlock, Sender.noSpan, beq_iff_eq]

theorem State.sourceIsIdent_iff (s : State) : s.sourceIsIdent = true ↔
    (s.sender.source = .reply ∧ ∃ d, s.sender.replies.head? = some (.ident d)) ∨
    (∃ n, s.sender.source = .comp n ∧ ∃ c ∈ s.interp.comps, c.serial = n ∧ c.kind = .here) := by
  unfold State.sourceIsIdent
  cases s.sender.source with
  | none => simp
  | reply =>
    cases s.sender.replies.head? with
    | none => simp
    | some r => cases r <;> simp
  | comp n =>
    simp only [List.any_eq_true, Bool.and_eq_true, beq_iff_eq, reduceCtorEq, false_and, false_or, Source.comp.injEq,
      exists_eq_left']

theorem exec_deferralComplete {s : State} {n : Nat} (hp : s.powered = true) (hspan : s.sender.span = some n)
    (hd : s.sender.state = .deferring) (hq : s.line.condition = .quiet) (lastMark : Bool) :
    exec (.deferralComplete lastMark) s =
      .next ((s.reach (s.line.quietSince + s.charTimes n)).spanComplete lastMark).settle := by
  show execDeferralComplete lastMark s = _
  rw [execDeferralComplete, whenPowered_of_powered hp]
  simp [hspan, hd, hq]

/-- An IDENT block waits for a WRITING identity memory, and no other does (R71). -/
theorem State.spanComplete_cases (s : State) (lastMark : Bool) :
    (s.sourceIsIdent = true → s.answer.cycle ≠ .idle →
      s.spanComplete lastMark = { s with sender := { s.sender with spanReached := true } }) ∧
    (s.sourceIsIdent = false ∨ s.answer.cycle = .idle → s.spanComplete lastMark = s.orderStart lastMark) := by
  unfold State.spanComplete
  constructor
  · intro hi hc
    simp [hi, hc]
  · rintro (hi | hc)
    · simp [hi]
    · simp [hc]

/-- Settles O30, from START at the next sample instant. -/
theorem deferralCompletes : Obligations.DeferralCompletes := by
  refine ⟨fun s at' k hq hat hlt hle => ?_, State.sourceIsIdent_iff, fun s u n lastMark hp hspan hd hq hu => ⟨fun hi hc => ?_, fun h => ?_⟩⟩
  · have hnext := State.nextSample_eq hq hat hlt hle
    exact ⟨State.orderStart_refused hnext hlt, fun header block hb => State.orderStart_taken hnext hlt hb⟩
  · refine ⟨_, exec_deferralComplete hp hspan hd hq lastMark, ?_⟩
    rw [← hu, (u.spanComplete_cases lastMark).1 (by rw [hu]; exact hi) (by rw [hu]; exact hc)]
    rw [show u.sender = s.sender by rw [hu]; rfl]
    exact State.settle_followUp _
  · have hstart := (u.spanComplete_cases lastMark).2 (by rw [hu]; exact h)
    have hf := (u.orderStart lastMark).settle_followUp
    refine ⟨_, exec_deferralComplete hp hspan hd hq lastMark, ?_⟩
    rw [← hu, hstart]
    refine ⟨hf, fun at' k hat hlt hle => ?_⟩
    have hnext : u.nextSample = at' := by
      refine State.nextSample_eq (k := k) ?_ (by rw [hat, hu]; rfl) hlt (by rw [hu] at hle ⊢; exact hle)
      rw [hu]
      exact Nat.le_trans (Nat.le_add_right ..) (Nat.le_max_right ..)
    refine ⟨?_, fun hm => ?_, fun header block hm hb => ?_⟩
    · rw [hf.now, u.orderStart_now, hnext, Nat.max_eq_right (Nat.le_of_lt hlt)]
    · subst hm
      rw [hf.line, hf.sender, State.orderStart_refused hnext hlt, hu]
      exact ⟨rfl, rfl⟩
    · subst hm
      rw [hf.line, hf.sender, State.orderStart_taken (header := header) (block := block) hnext hlt (by rw [hu]; exact hb), hu]
      exact ⟨rfl, rfl, rfl, rfl, rfl⟩

/-! ### The end of a block -/

theorem State.drivingLine_iff (s : State) : s.drivingLine = true ↔ s.powered = true ∧ ((∃ due, s.line.tx = .holding due) ∨
    ∃ c since, s.line.tx = .shifting c since ∧
      sentMark c ((s.now - since) / (16 * sampleTicks s.straps.speed)) = false) := by
  unfold State.drivingLine State.elements State.samples
  cases s.line.tx with
  | idle => simp
  | holding due => simp
  | shifting c since =>
    simp only [Bool.and_eq_true, Bool.not_eq_true']
    refine and_congr_right fun _ => ⟨fun h => .inr ⟨c, since, rfl, h⟩, ?_⟩
    rintro (⟨_, h⟩ | ⟨_, _, h, hs⟩)
    · cases h
    · cases h
      exact hs

/-- What the choice of a source and the follow-ups of a command leave of the Sender, the line and the compositions. -/
theorem State.chosen_facts {v t : State} (h : FollowUp v.chooseNext t) :
    t.line = v.line ∧ t.interp = v.interp ∧ t.sender.replies = v.sender.replies ∧ t.sender.watch = v.sender.watch ∧
      t.sender.courtesy = v.sender.courtesy ∧ t.sender.block = v.sender.block ∧
      t.sender.abandoning = v.sender.abandoning ∧ (t.sender.state = .idle ∨ t.sender.state = .deferring) := by
  obtain ⟨r, hr, hreplies, hwatch, hcourtesy, hblock, -, -, habandoning, -, hstate⟩ := v.chooseNext_frame
  rw [h.line, h.interp, h.sender, hr]
  exact ⟨rfl, rfl, hreplies, hwatch, hcourtesy, hblock, habandoning, hstate⟩

/-- The end of a reply's block: the reply leaves the queue (R73). -/
theorem State.finishBlock_reply {s : State} (h : s.sender.source = .reply) (i : Nat) :
    s.finishBlock i = State.chooseNext { s with sender := { s.sender with
      replies := s.sender.replies.tail, block := [], position := 0, headerLength := 0, abandoning := false } } := by
  rw [State.finishBlock, if_pos (by simpa using h)]
  simp only [Sender.setCourtesy, Sender.noBlock, h, beq_self_eq_true, if_true]

/-- The end of a composition's block: the courtesy mark is set (R69). -/
theorem State.finishBlock_comp {s : State} (h : s.sender.source ≠ .reply) (i : Nat) :
    s.finishBlock i = State.chooseNext { s.finishComp i with sender := { (s.finishComp i).sender with
      block := [], position := 0, headerLength := 0, abandoning := false, courtesy := true } } := by
  have hsrc : (s.finishComp i).sender.source = s.sender.source := by
    unfold State.finishComp
    split
    · rfl
    · split <;> rfl
  rw [State.finishBlock, if_neg (by simpa using h)]
  simp [Sender.setCourtesy, Sender.noBlock, hsrc, h]

theorem Comp.receiptFrom_of_single {c : Comp} {d : Station} (hk : c.kind = .message) (hd : c.dests = .codes [d]) :
    c.receiptFrom = some d := by
  simp [Comp.receiptFrom, hk, hd, Dests.single]

theorem Comp.receiptFrom_of_not_single {c : Comp} (h : c.kind ≠ .message ∨ ∀ d, c.dests ≠ .codes [d]) :
    c.receiptFrom = none := by
  unfold Comp.receiptFrom
  split
  case h_1 hk =>
    unfold Dests.single
    split
    case h_1 d hd => exact absurd hd (h.resolve_left (absurd hk) d)
    all_goals rfl
  all_goals rfl

/-- The SENDING composition, for what becomes of it at the end of its block. -/
def Interp.sendingComp (i : Interp) : Option Comp := i.comps.find? fun c => c.state == .sending

/-- A single-destination MESSAGE becomes AWAITING, the watch set (R79). -/
theorem State.finishComp_of_single {s : State} {x : Comp} {d : Station} (hx : s.interp.sendingComp = some x)
    (hr : x.receiptFrom = some d) (i : Nat) : s.finishComp i = { s with
      sender := { s.sender with watch := .waiting d (i + s.charTimes 30) x.serial }
      interp := { s.interp with comps := s.interp.comps.map fun y =>
        if y.state = .sending then { y with state := .awaiting } else y } } := by
  rw [Interp.sendingComp] at hx
  simp only [State.finishComp, hx, hr, Interp.onSending, beq_iff_eq]

/-- Any other composition is removed (R73). -/
theorem State.finishComp_of_not_single {s : State} {x : Comp} (hx : s.interp.sendingComp = some x)
    (hr : x.receiptFrom = none) (i : Nat) : s.finishComp i = { s with interp := { s.interp with
      comps := s.interp.comps.filter fun y => y.state != .sending } } := by
  rw [Interp.sendingComp] at hx
  simp only [State.finishComp, hx, hr]

/-- An abandoned block's composition is gone already (R76). -/
theorem State.finishComp_of_gone {s : State} (h : ∀ y ∈ s.interp.comps, y.state ≠ .sending) (i : Nat) :
    s.finishComp i = s := by
  have hx : (s.interp.comps.find? fun c => c.state == .sending) = none := by simpa using h
  simp only [State.finishComp, hx]

theorem exec_characterSent_last {s : State} {c : Code} {since : Nat} (hp : s.powered = true) (htx : s.line.tx = .shifting c since)
    (hlast : s.sender.block[s.sender.position]? = none) : exec .characterSent s =
      .next (State.finishBlock { s.reach (since + s.charTimes 1) with line := { s.line with tx := .idle } }
        (since + s.charTimes 1)).settle := by
  show execCharacterSent s = _
  rw [execCharacterSent, whenPowered_of_powered hp]
  simp [htx, hlast]

/-- Settles O31, from the choice of a source and the end of a block by its source. -/
theorem characterIsSent : Obligations.CharacterIsSent := by
  refine ⟨fun s => ⟨State.chooseNext_idle, State.chooseNext_reply, fun x d hs hreplies hmay hready hd => ?_, ?_⟩,
    State.drivingLine_iff, fun s c since hp htx => ⟨fun next hnext => ?_, fun hlast => ?_⟩⟩
  · subst hd
    exact State.chooseNext_comp hs hreplies hmay hready
  · simp [State.workAppears]
  · show execCharacterSent s = _
    rw [execCharacterSent, whenPowered_of_powered hp]
    simp [htx, hnext]
  · refine ⟨_, exec_characterSent_last hp htx hlast, ?_⟩
    by_cases hsrc : s.sender.source = .reply
    · rw [State.finishBlock_reply (by exact hsrc)]
      have hf := State.settle_followUp (State.chooseNext { s.reach (since + s.charTimes 1) with
        line := { s.line with tx := .idle }
        sender := { s.sender with
          replies := s.sender.replies.tail, block := [], position := 0, headerLength := 0, abandoning := false } })
      obtain ⟨hline, hinterp, hreplies, -, hcourtesy, hblock, habandoning, -⟩ := State.chosen_facts hf
      refine ⟨congrArg LineIf.tx hline, hblock, habandoning, ?_, fun _ => ⟨hreplies, hinterp⟩,
        fun _ _ h => absurd hsrc h, fun _ h => absurd hsrc h, fun u hu => ⟨fun _ => ?_, fun h => absurd hsrc h⟩⟩
      · rw [if_pos hsrc]
        exact hcourtesy
      · subst hu
        simp only [if_pos hsrc]
        exact hf
    · rw [State.finishBlock_comp (by exact hsrc)]
      generalize hw : ({ s.reach (since + s.charTimes 1) with line := { s.line with tx := .idle } } : State) = w
      have hf := State.settle_followUp (State.chooseNext { w.finishComp (since + s.charTimes 1) with
        sender := { (w.finishComp (since + s.charTimes 1)).sender with
          block := [], position := 0, headerLength := 0, abandoning := false, courtesy := true } })
      generalize State.settle _ = t at hf ⊢
      obtain ⟨hline, hinterp, hreplies, hwatch, hcourtesy, hblock, habandoning, -⟩ := State.chosen_facts hf
      have hside : (w.finishComp (since + s.charTimes 1)).line = w.line :=
        (congrArg State.line (w.finishComp_side (since + s.charTimes 1)).frame :)
      have hcomp : ∀ {x : Comp}, s.interp.comps.find? (fun y => y.state == .sending) = some x →
          w.interp.sendingComp = some x := fun h => hw ▸ h
      refine ⟨congrArg LineIf.tx (hline.trans (hside.trans (by rw [← hw]))), hblock, habandoning, hcourtesy.trans (if_neg hsrc).symm,
        fun h => absurd h hsrc, fun x d _ hx hk hd => ?_, fun x _ hx h => ?_, fun u hu => ⟨fun h => absurd h hsrc,
          fun _ => ⟨fun x hx => ⟨fun d hk hd => ?_, fun h => ?_⟩, fun hgone => ?_⟩⟩⟩
      · rw [State.finishComp_of_single (hcomp hx) (Comp.receiptFrom_of_single hk hd)] at hwatch hinterp
        subst hw
        exact ⟨hwatch, congrArg Interp.comps hinterp⟩
      · rw [State.finishComp_of_not_single (hcomp hx) (Comp.receiptFrom_of_not_single h)] at hwatch hinterp
        subst hw
        exact ⟨hwatch, congrArg Interp.comps hinterp⟩
      all_goals
        subst hu hw
        simp only [if_neg hsrc]
      · rw [State.finishComp_of_single (hcomp hx) (Comp.receiptFrom_of_single hk hd)] at hf
        exact hf
      · rw [State.finishComp_of_not_single (hcomp hx) (Comp.receiptFrom_of_not_single h)] at hf
        exact hf
      · rw [State.finishComp_of_gone (by exact hgone)] at hf
        exact hf

/-! ### A mismatch -/

/-- A block cut after its header (R75, R76). -/
theorem State.cutBlock_eq (s : State) : s.cutBlock = { s with
    sender := { s.sender with
      source := .none, block := [], position := 0, headerLength := 0, abandoning := false
      courtesy := if s.sender.source = .reply then s.sender.courtesy else true
      replies := if s.sender.source = .reply then s.sender.replies.tail else s.sender.replies }
    interp := { s.interp with comps := s.interp.comps.map fun x =>
      if x.state = .sending then { x with state := .held } else x } } := by
  simp only [State.cutBlock, Interp.onSending, Sender.setCourtesy, Sender.noBlock, beq_iff_eq]

/-- What a yield makes of the Sender and the compositions, the span not begun (R74). -/
def State.yielded (s : State) : State :=
  { s with
    sender := { s.sender with state := .deferring, block := [], position := 0, headerLength := 0, abandoning := false }
    interp := { s.interp with comps := s.interp.comps.map fun x =>
      if x.state = .sending then
        { x with state := .ready, yields := if x.yields < 3 then x.yields + 1 else 3 } else x } }

theorem State.yieldBlock_eq (s : State) :
    s.yieldBlock = (if s.sender.source = .reply then s.yielded else s.yielded.wake).beginSpan := by
  simp only [State.yieldBlock, State.yielded, Interp.onSending, Sender.noBlock, beq_iff_eq, satSucc_eq]

theorem State.wake_power (s : State) : s.wake.answer.power = .active := by
  unfold State.wake
  split
  next h => simpa using h
  next => rfl

/-- A wake does not read the Sender (R98). -/
theorem State.wake_setSender (s : State) (r : Sender) : State.wake { s with sender := r } = { s.wake with sender := r } := by
  unfold State.wake
  split <;> rfl

theorem exec_mismatch {s : State} {c : Code} {since e : Nat} (hp : s.powered = true) (htx : s.line.tx = .shifting c since)
    (h1 : 1 ≤ e) (h9 : e ≤ 9) (hsent : sentMark c e = true) {w : State}
    (hw : w = { s.reach (since + s.samples (16 * e + 9)) with line := { s.line with tx := .idle } }) :
    (s.sender.abandoning = false → s.sender.position ≤ s.sender.headerLength →
      exec (.mismatch e) s = .next w.yieldBlock.settle) ∧
    (s.sender.abandoning = true ∨ s.sender.headerLength < s.sender.position →
      exec (.mismatch e) s = .next w.cutBlock.chooseNext.settle) := by
  have hexec : exec (.mismatch e) s = .next (if !s.sender.abandoning && s.sender.position ≤ s.sender.headerLength
      then w.yieldBlock.settle else w.cutBlock.chooseNext.settle) := by
    show execMismatch e s = _
    rw [execMismatch, whenPowered_of_powered hp, hw]
    simp only [htx]
    rw [if_pos (by simp [h1, h9, hsent])]
    rfl
  constructor
  · intro ha hle
    rw [hexec, ha, if_pos (by simpa using hle)]
  · intro h
    rw [hexec, if_neg]
    rcases h with h | h
    · simp [h]
    · simp [h]

/-- Settles O32, from the two ways a mismatch ends the sending. -/
theorem mismatchYieldsOrBreaks : Obligations.MismatchYieldsOrBreaks := by
  refine ⟨State.cutBlock_eq, fun s c since e hp htx h1 h9 hsent => ?_⟩
  obtain ⟨w, hw⟩ : ∃ w : State,
    w = { s.reach (since + s.samples (16 * e + 9)) with line := { s.line with tx := .idle } } := ⟨_, rfl⟩
  obtain ⟨hyield, hbreak⟩ := exec_mismatch hp htx h1 h9 hsent hw
  refine ⟨fun ha hle => ⟨_, hyield ha hle, ?_⟩, fun h => ⟨_, hbreak h, ?_⟩⟩
  · rw [State.yieldBlock_eq]
    have hsrc : w.sender.source = s.sender.source := by rw [hw]; rfl
    have hwake : FollowUp w.yielded (if w.sender.source = .reply then w.yielded else w.yielded.wake) := by
      split
      · exact FollowUp.refl _
      · exact State.wake_followUp _
    have hquiet : s.line.condition ≠ .quiet → FollowUp { w.yielded with sender := w.yielded.sender.noSpan }
        (State.beginSpan (if w.sender.source = .reply then w.yielded else w.yielded.wake)).settle := by
      intro hc
      have hc' : (if w.sender.source = .reply then w.yielded else w.yielded.wake).line.condition ≠ .quiet := by
        rw [hwake.line, hw]; exact hc
      rw [State.beginSpan_of_not_quiet hc']
      refine FollowUp.trans ?_ (State.settle_followUp _)
      rw [hwake.sender]
      split
      · exact FollowUp.refl _
      · rw [← State.wake_setSender]
        exact State.wake_followUp _
    have hpower : w.sender.source ≠ .reply →
        (if w.sender.source = .reply then w.yielded else w.yielded.wake).answer.power = .active := by
      intro h
      rw [if_neg h]
      exact State.wake_power _
    generalize (if w.sender.source = .reply then w.yielded else w.yielded.wake) = y at *
    obtain ⟨span, draw, hspan⟩ := y.beginSpan_frame
    have hf := y.beginSpan.settle_followUp
    generalize y.beginSpan.settle = t at *
    rw [hspan] at hf
    have hline := hf.line.trans hwake.line
    have hsender := hf.sender
    have hinterp := hf.interp.trans hwake.interp
    have hlatched := hf.latched.trans hwake.latched
    rw [hwake.sender] at hsender
    subst hw
    refine ⟨hline, (congrArg Sender.state hsender :), (congrArg Sender.source hsender :), (congrArg Sender.replies hsender :),
      (congrArg Sender.courtesy hsender :), (congrArg Sender.block hsender :), (congrArg Sender.position hsender :),
      (congrArg Sender.headerLength hsender :), hlatched, congrArg Interp.comps hinterp, fun h => ?_, fun hc => ?_⟩
    · exact hf.power.elim (fun h' => h'.trans (hpower h)) id
    · rw [hinterp]
      exact hquiet hc
  · have hf := w.cutBlock.chooseNext.settle_followUp
    obtain ⟨hline, hinterp, hreplies, -, hcourtesy, -, habandoning, hstate⟩ := State.chosen_facts hf
    generalize w.cutBlock.chooseNext.settle = t at *
    rw [State.cutBlock_eq] at hline hinterp hreplies hcourtesy habandoning
    subst hw
    exact ⟨hline, hstate, habandoning, hcourtesy, hreplies, congrArg Interp.comps hinterp, hf⟩

/-! ### The end of a hold and of the watch -/

theorem State.workAppears_frame (s : State) : ∃ r : Sender, s.workAppears = { s with sender := r } ∧ r.watch = s.sender.watch := by
  unfold State.workAppears
  split
  · obtain ⟨r, hr, -, hwatch, -⟩ := s.chooseNext_frame
    exact ⟨r, hr, hwatch⟩
  · exact ⟨s.sender, rfl, rfl⟩

/-- A CONFIRM request or STATUS requests alone: whether a CONFIRM request is pending (R11). -/
def Store.confirmPending (st : Store) : Bool := st.requests.any fun r => r != .status

theorem Store.confirmPending_iff (st : Store) : st.confirmPending = true ↔ ∃ r ∈ st.requests, r ≠ .status := by
  simp [Store.confirmPending]

/-- The watch settled (R80, R81): the bell unless the letter is K, the CONFIRM request or the bell that refuses it, the
composition removed, and the Sender may choose. -/
theorem State.settleWatch_eq (s : State) (d : Station) (letter : Option Letter) : s.settleWatch d letter =
    State.workAppears { s with
      bells := s.bells + (if letter = some .k then 0 else 1) + (if s.store.confirmPending = true then 1 else 0)
      store := { s.store with requests :=
        if s.store.confirmPending = true then s.store.requests else s.store.requests ++ [.confirm d letter] }
      sender := { s.sender with watch := .none }
      interp := { s.interp with comps := s.interp.comps.filter fun c => c.state != .awaiting } } := by
  have hbell : (if letter == some .k then s else s.bell) = { s with bells := s.bells + if letter = some .k then 0 else 1 } := by
    by_cases h : letter = some .k <;> simp [h, State.bell]
  rw [State.settleWatch, hbell]
  unfold State.requestConfirm
  cases hb : s.store.confirmPending
  · rw [if_neg (by exact Bool.eq_false_iff.mp hb)]
    simp
  · rw [if_pos (by exact hb)]
    simp [State.bell]

theorem exec_receiptWatchDeadline {s : State} {d : Station} {deadline serial : Nat} (hp : s.powered = true)
    (hw : s.sender.watch = .waiting d deadline serial) :
    exec .receiptWatchDeadline s = .next ((s.reach deadline).settleWatch d none).settle := by
  show execReceiptWatchDeadline s = _
  rw [execReceiptWatchDeadline, whenPowered_of_powered hp]
  simp only [hw]

/-- Settles O33. -/
theorem holdAndWatchEnd : Obligations.HoldAndWatchEnd := by
  refine fun s hp => ⟨fun due htx => ?_, fun d deadline serial hw => ⟨_, exec_receiptWatchDeadline hp hw, ?_⟩⟩
  · refine ⟨_, ?_, State.settle_followUp _⟩
    show execHoldEnded s = _
    rw [execHoldEnded, whenPowered_of_powered hp]
    simp only [htx]
    rfl
  · have hf := State.settle_followUp ((s.reach deadline).settleWatch d none)
    generalize State.settle _ = t at hf ⊢
    rw [State.settleWatch_eq] at hf
    obtain ⟨r, hr, hwatch⟩ := State.workAppears_frame { s.reach deadline with
      bells := s.bells + 1 + (if s.store.confirmPending = true then 1 else 0)
      store := { s.store with requests :=
        if s.store.confirmPending = true then s.store.requests else s.store.requests ++ [.confirm d none] }
      sender := { s.sender with watch := .none }
      interp := { s.interp with comps := s.interp.comps.filter fun c => c.state != .awaiting } }
    have hrequests : t.store.requests =
        if s.store.confirmPending = true then s.store.requests else s.store.requests ++ [.confirm d none] := by
      rw [hf.requests]
      exact congrArg (fun u => u.store.requests) hr
    refine ⟨?_, ?_, ?_, ?_, ?_, fun busy hbusy => ?_⟩
    · rw [hf.sender]
      exact (congrArg (fun u => u.sender.watch) hr).trans hwatch
    · refine Nat.lt_of_lt_of_le ?_ (le_of_eq_of_le (congrArg State.bells hr).symm hf.bells)
      show s.bells < s.bells + 1 + _
      omega
    · rw [hf.now]
      exact congrArg State.now hr
    · rw [hf.interp]
      exact congrArg (fun u => u.interp.comps) hr
    · rw [hrequests]
      simp only [Store.confirmPending_iff]
    · have hb : busy = s.store.confirmPending := Bool.eq_iff_iff.mpr (hbusy.trans s.store.confirmPending_iff.symm)
      rw [hrequests, hb]
      exact hf

end Sys2Proof.Machine
end

section
/-! The line (spec/02_line_signalling.md): its ways to QUIET, characters begun, delivered and sent, BREAK and LINE OPEN: O15,
O16, O17, O18, O19 and O20. -/
namespace Sys2Proof.Machine

/-! ### Durations and conditions -/

theorem LineIf.spaced_iff (l : LineIf) : l.spaced = true ↔ l.condition = .inBreak ∨ l.condition = .lineOpen := by
  simp [LineIf.spaced]

/-- 16 samples an element, the element the 1/baud of a second in ticks of 1/264000 s (R23). -/
theorem baud_sampleTicks (speed : BitVec 3) : (if speed = 0#3 then 50 else if speed = 1#3 then 75 else if speed = 3#3 then 150
    else if speed = 4#3 then 300 else 110) * (16 * sampleTicks speed) = 264000 := by
  revert speed
  decide

theorem State.charTimes_eq (s : State) (n : Nat) : s.charTimes n = n * (160 * sampleTicks s.straps.speed) := by
  unfold State.charTimes State.elements State.samples
  rw [← Nat.mul_assoc n, show 16 * (10 * n) = n * 160 by omega]

/-! ### The ways to QUIET -/

theorem exec_settlingEnd {s : State} (hp : s.powered = true) (hs : s.line.sampler = .settling) (hc : s.line.spaced = false) :
    exec .settlingEnd s = .next (State.becomeQuiet { s.reach (s.line.markSince + s.samples 159) with
      line := { s.line with sampler := .hunting } }).settle := by
  show execSettlingEnd s = _
  rw [execSettlingEnd, whenPowered_of_powered hp]
  simp only [hs, hc]
  rfl

theorem exec_endOfStopElement {s : State} {stop : Nat} (hp : s.powered = true) (hstop : s.line.stopEnd = some stop)
    (hs : s.line.sampler = .hunting) (hc : s.line.condition = .busy) :
    exec .endOfStopElement s = .next (State.becomeQuiet { s.reach stop with line := { s.line with stopEnd := none } }).settle := by
  show execEndOfStopElement s = _
  rw [execEndOfStopElement, whenPowered_of_powered hp]
  simp only [hstop]
  rw [if_pos (by simp [hs, hc])]
  rfl

theorem exec_firstMarkSample {s : State} (hp : s.powered = true) (hs : s.line.sampler = .waitingMark)
    (hc : s.line.spaced = false) : exec .firstMarkSample s = .next (
      if s.line.nullHeld then State.deliver { s with line := { s.line with
        sampler := .hunting, nullHeld := false, markSince := s.now } } chNul true
      else State.becomeQuiet { s with line := { s.line with
        sampler := .hunting, nullHeld := false, markSince := s.now } }).settle := by
  show execFirstMarkSample s = _
  rw [execFirstMarkSample, whenPowered_of_powered hp]
  simp only [hs, hc]
  rfl

theorem exec_restoration {s : State} (hp : s.powered = true) (hc : s.line.spaced = true) {u : State}
    (hu : u = { s.reach (s.line.markSince + s.samples 159) with
      line := { s.line with sampler := .hunting, nullHeld := false } }) :
    exec .restoration s = .next (State.becomeQuiet
      (if s.line.condition = .inBreak then u.breakEndedReport else u)).settle := by
  show execRestoration s = _
  rw [execRestoration, whenPowered_of_powered hp, hu]
  simp only [hc, if_true, beq_iff_eq]
  rfl

/-- Settles O15, from each way to QUIET. -/
theorem lineReturnsToQuiet : Obligations.LineReturnsToQuiet := by
  refine ⟨fun speed baud h => h ▸ baud_sampleTicks speed,
    fun s n => ⟨rfl, rfl, s.charTimes_eq n, rfl, s.line.spaced_iff⟩, fun s hp => ⟨fun hs hc => ?_,
      fun stop hstop hs hc => ?_, fun hs hc hn => ?_, fun h => ?_, fun hc hs => ?_, fun hc => ?_⟩⟩
  · exact ⟨_, exec_settlingEnd hp hs hc, State.settle_followUp _⟩
  · exact ⟨_, exec_endOfStopElement hp hstop hs hc, State.settle_followUp _⟩
  · refine ⟨_, exec_firstMarkSample hp hs hc, ?_⟩
    simp only [hn, Bool.false_eq_true, if_false]
    exact State.settle_followUp _
  · show execFirstMarkSample s = _
    rw [execFirstMarkSample, whenPowered_of_powered hp]
    dsimp only
    rw [if_neg (by rcases h with h | h <;> simp [h]), if_pos (by simpa using h)]
  · show execFirstMarkSample s = _
    rw [execFirstMarkSample, whenPowered_of_powered hp]
    dsimp only
    rw [if_neg (by rcases hs with h | h <;> simp [h]), if_neg (by rcases hs with h | h <;> simp [h, hc])]
  · refine ⟨_, exec_restoration hp (s.line.spaced_iff.2 (.inr hc)) rfl, ?_⟩
    rw [if_neg (by simp [hc])]
    exact State.settle_followUp _

/-! ### A character begins -/

theorem getLsbD_topBit (top : Bool) {i : Nat} (h : i < 15) : (if top then 0x8000#16 else 0#16).getLsbD i = false := by
  cases top
  · simp
  · have hbits : ∀ i : Fin 15, (0x8000#16).getLsbD i = false := by decide
    exact hbits ⟨i, h⟩

/-- One step of the generator, bit by bit (R68). -/
theorem generatorStep_getLsbD (g : BitVec 16) :
    (∀ i, i < 15 → (generatorStep g).getLsbD i = g.getLsbD (i + 1)) ∧
    (generatorStep g).getLsbD 15 = (g.getLsbD 0 ^^ (g.getLsbD 2 ^^ (g.getLsbD 3 ^^ g.getLsbD 5))) := by
  constructor
  · intro i hi
    rw [generatorStep, BitVec.getLsbD_or, getLsbD_topBit _ hi, BitVec.getLsbD_ushiftRight, Bool.or_false, Nat.add_comm]
  · rw [generatorStep, BitVec.getLsbD_or, BitVec.getLsbD_ushiftRight, BitVec.getLsbD_of_ge g (1 + 15) (by decide), Bool.false_or,
      Bool.xor_assoc, Bool.xor_assoc]
    generalize (g.getLsbD 0 ^^ (g.getLsbD 2 ^^ (g.getLsbD 3 ^^ g.getLsbD 5))) = top
    cases top <;> rfl

theorem majority_eq (v : BitVec 3) : majority v = decide (2 ≤ ((List.range 3).filter fun i => v.getLsbD i).length) := by
  revert v
  decide

/-- The condition leaves QUIET, and a DEFERRING Sender's span restarts (R30, R70). -/
theorem State.leaveQuiet_eq (s : State) (c : LineCondition) : s.leaveQuiet c = { s with
    line := { s.line with condition := c }
    sender := if s.sender.state = .deferring then { s.sender with span := none, spanReached := false } else s.sender } := by
  by_cases h : s.sender.state = .deferring <;> simp [State.leaveQuiet, Sender.noSpan, h]

/-- The start element's decision steps the generator once (R25, R26, R68). -/
theorem exec_start {s : State} (hp : s.powered = true) (hs : s.line.sampler = .framing) (hc : s.line.startConfirmed = false)
    (v : BitVec 3) : exec (.start v) s = .next (
      if majority v then (State.becomeQuiet { (s.reach (s.line.frameStart + s.samples 9)).stepGenerator 1 with
        line := { s.line with sampler := .hunting } }).settle
      else State.startReport { (s.reach (s.line.frameStart + s.samples 9)).stepGenerator 1 with
        line := { s.line with startConfirmed := true } }) := by
  show execStart v s = _
  rw [execStart, whenPowered_of_powered hp]
  dsimp only
  rw [if_pos (by simp [hs, hc])]
  rfl

/-- Settles O16, from the edge and the two decisions of a start element. -/
theorem characterBegins : Obligations.CharacterBegins := by
  refine ⟨fun g n => ⟨(generatorStep_getLsbD g).1, (generatorStep_getLsbD g).2, rfl, rfl⟩, fun s hp => ⟨fun hs hc => ?_, fun h => ?_⟩,
    majority_eq, fun v s u hp hs hc hu => ⟨fun hv => ?_, fun hv => ?_⟩⟩
  · show execMarkToSpaceEdge s = _
    rw [execMarkToSpaceEdge, whenPowered_of_powered hp]
    dsimp only
    rw [if_pos (by simpa [State.endMarkRun, hs, LineIf.spaced] using hc), State.leaveQuiet_eq]
    rfl
  · show execMarkToSpaceEdge s = _
    rw [execMarkToSpaceEdge, whenPowered_of_powered hp]
    dsimp only
    rw [if_neg]
    · rfl
    · have hspaced : (State.endMarkRun { s with line := { s.line with lastEdge := s.now } }).line.spaced = s.line.spaced := rfl
      rw [hspaced]
      rcases h with h | h <;> simp [State.endMarkRun, h]
  · rw [exec_start hp hs hc v, if_pos hv, hu]
    exact ⟨_, rfl, State.settle_followUp _⟩
  · rw [exec_start hp hs hc v, if_neg (by simp [hv]), hu]
    rfl

/-! ### A character is delivered -/

theorem exec_characterReceived {s u : State} (hp : s.powered = true) (hs : s.line.sampler = .framing)
    (hc : s.line.startConfirmed = true)
    (hu : u = (s.reach (s.line.frameStart + s.samples 153)).stepGenerator 9) (v : BitVec 27) :
    exec (.characterReceived v) s = .next (
      if isNullFrame v then { u with line := { s.line with sampler := .waitingMark, nullHeld := true, startConfirmed := false } }
      else (State.deliver { u with line := { s.line with
          sampler := if framingError v then .waitingMark else .hunting
          stopEnd := if framingError v then none else some (s.line.frameStart + s.samples 159)
          startConfirmed := false } } (codeFrom v) (parityError v || framingError v)).settle) := by
  show execCharacterReceived v s = _
  rw [execCharacterReceived, whenPowered_of_powered hp, hu]
  dsimp only
  rw [if_pos (by simp [hs, hc])]
  rfl

/-- Settles O17. -/
theorem characterIsDelivered : Obligations.CharacterIsDelivered := by
  refine ⟨fun v s u hp hs hc hu => ?_, fun s hp hs hc hn => ⟨_, exec_firstMarkSample hp hs hc, ?_⟩, fun s c => ⟨rfl, ?_⟩⟩
  · have hexec := exec_characterReceived hp hs hc hu v
    refine ⟨fun hn => ?_, fun hn => ?_⟩
    · rw [hexec, if_pos hn]
    · rw [hexec, if_neg (by simp [hn])]
      exact ⟨_, rfl, State.settle_followUp _⟩
  · rw [hn, if_pos rfl]
    exact State.settle_followUp _
  · show State.takeCharacter s.countError c true = _
    rw [State.countError, satSucc_eq]

/-! ### What a transmitter sends -/

/-- An element is the majority of its samples 7 to 9 (R27). -/
theorem elementOf_eq (v : BitVec 27) (e : Nat) : elementOf v e =
    decide (2 ≤ ((List.range 3).filter fun i => v.getLsbD (3 * (e - 1) + i)).length) := by
  have hbits : (List.range 3).filter (fun i => (v.extractLsb' (3 * (e - 1)) 3).getLsbD i) =
      (List.range 3).filter (fun i => v.getLsbD (3 * (e - 1) + i)) := by
    refine List.filter_congr fun i hi => ?_
    simp [List.mem_range.mp hi]
  rw [elementOf, majority_eq, hbits]

theorem codeFrom_getLsbD (v : BitVec 27) {i : Nat} (h : i < 7) : (codeFrom v).getLsbD i = elementOf v (i + 1) := by
  show (BitVec.ofBoolListLE _).getLsbD i = _
  rw [BitVec.getLsbD_ofBoolListLE, List.getD_eq_getElem?_getD, List.getElem?_eq_getElem (by simpa using h), Option.getD_some]
  simp

theorem isNullFrame_iff (v : BitVec 27) : isNullFrame v = true ↔ ∀ e, 1 ≤ e → e ≤ 9 → elementOf v e = false := by
  rw [isNullFrame, beq_iff_eq, marks, List.length_eq_zero_iff, List.filter_eq_nil_iff]
  constructor
  · intro h e h1 h9
    have := h (e - 1) (List.mem_range.mpr (by omega))
    rw [Nat.sub_add_cancel h1] at this
    simpa using this
  · intro h i hi
    simp [h (i + 1) (by omega) (by have := List.mem_range.mp hi; omega)]

theorem sentMark_data (c : Code) {e : Nat} (h1 : 1 ≤ e) (h7 : e ≤ 7) : sentMark c e = c.getLsbD (e - 1) := by
  rw [sentMark, if_neg (by omega), if_pos h7]

/-- The parity element makes the marks of elements 1 to 8 even in number (R27, R35). -/
theorem sentMark_parity (c : Code) : ((List.range 8).filter fun i => sentMark c (i + 1)).length % 2 = 0 := by
  have hdata : (List.range 7).filter (fun i => sentMark c (i + 1)) = (List.range 7).filter fun i => c.getLsbD i :=
    List.filter_congr fun i hi => sentMark_data c (by omega) (by have := List.mem_range.mp hi; omega)
  rw [List.range_succ, List.filter_append, List.length_append, hdata]
  have hparity : sentMark c 8 = (((List.range 7).filter fun i => c.getLsbD i).length % 2 == 1) := rfl
  rw [List.filter_cons, hparity]
  split
  · simp_all
    omega
  · simp_all

/-- Settles O18: the elements sent are the elements decided. -/
theorem sentFrameIsReceived : Obligations.SentFrameIsReceived := by
  refine ⟨fun v e _ _ => elementOf_eq v e, fun v => ⟨fun i => codeFrom_getLsbD v, ?_, rfl, isNullFrame_iff v⟩,
    fun c => ⟨rfl, fun e => sentMark_data c, sentMark_parity c, rfl⟩, fun c v h => ⟨?_, ?_, ?_, ?_⟩⟩
  · rfl
  · refine BitVec.eq_of_getLsbD_eq fun i hi => ?_
    rw [codeFrom_getLsbD v hi, h (i + 1) (by omega) (by omega), sentMark_data c (by omega) (by omega), Nat.add_sub_cancel]
  · have hmarks : marks v 8 = ((List.range 8).filter fun i => sentMark c (i + 1)).length :=
      congrArg List.length (List.filter_congr fun i hi => h (i + 1) (by omega) (by have := List.mem_range.mp hi; omega))
    rw [parityError, hmarks, sentMark_parity]
    rfl
  · rw [framingError, h 9 (by omega) (by omega)]
    rfl
  · rw [Bool.eq_false_iff, ne_eq, isNullFrame_iff]
    intro hn
    exact absurd ((h 9 (by omega) (by omega)).symm.trans (hn 9 (by omega) (by omega))) (by simp [sentMark])

/-! ### BREAK -/

/-- The Block Receiver at the beginning of a break (R45, R54). -/
def Receiver.atBreak (r : Receiver) : Receiver :=
  match r.parser with
  | .idle => r
  | .text => { r with breakPending := true, stall := none }
  | .dests | .sender | .kind | .skip => { r with parser := .idle, stall := none }

theorem State.breakBegunReport_eq (s : State) : s.breakBegunReport = { s with recv := s.recv.atBreak } := by
  cases h : s.recv.parser <;> simp only [State.breakBegunReport, Receiver.atBreak, State.parserIdle, h]

/-- The line at the beginning of a break, the Block Receiver not yet told (R31). -/
def State.lineInBreak (s : State) : State :=
  State.leaveQuiet { s.reach (s.line.lastEdge + 320 * sampleTicks s.straps.speed) with line := { s.line with
    sampler := if s.line.sampler = .settling then .settling else .waitingMark
    nullHeld := false, startConfirmed := false, stopEnd := none, breakEdge := s.line.lastEdge
    markSince := max s.now (s.line.lastEdge + 320 * sampleTicks s.straps.speed) } } .inBreak

/-- BREAK HEARD is latched unless the transmitter is HOLDING (R31). -/
theorem exec_breakBegun {s : State} (hp : s.powered = true) (hc : s.line.spaced = false) :
    ∃ u : State, exec .breakBegun s = .next u.breakBegunReport.settle ∧ u = { s.lineInBreak with diag := u.diag } ∧
      ∀ e, e ∈ u.diag.latched ↔ e ∈ s.diag.latched ∨ (e = .breakHeard ∧ ∀ n, s.line.tx ≠ .holding n) := by
  have hexec : exec .breakBegun s = .next (State.settle (State.breakBegunReport (match s.line.tx with
      | .holding _ => s.lineInBreak
      | .idle | .shifting _ _ => s.lineInBreak.latch .breakHeard))) := by
    show execBreakBegun s = _
    rw [execBreakBegun, whenPowered_of_powered hp]
    dsimp only
    rw [if_neg (by simp [hc])]
    simp only [beq_iff_eq, State.leaveQuiet_eq, State.lineInBreak]
    rfl
  cases htx : s.line.tx with
  | holding n =>
    refine ⟨s.lineInBreak, ?_, rfl, fun e => ?_⟩
    · rw [hexec, htx]
    · rw [State.lineInBreak, State.leaveQuiet_eq]
      simp
  | _ =>
    refine ⟨s.lineInBreak.latch .breakHeard, ?_, rfl, fun e => ?_⟩
    · rw [hexec, htx]
    · rw [State.mem_latch, State.lineInBreak, State.leaveQuiet_eq]
      simp [or_comm]

/-- Settles O19. -/
theorem breakBegins : Obligations.BreakBegins := by
  intro s hp hc
  obtain ⟨u, hexec, hu, hlatched⟩ := exec_breakBegun hp hc
  have hf := u.breakBegunReport.settle_followUp
  rw [State.breakBegunReport_eq] at hexec hf
  refine ⟨_, hexec, ?_⟩
  generalize State.settle _ = t at hf ⊢
  have hline := hf.line
  have hrecv := hf.recv
  have hsender := hf.sender
  have hnow := hf.now
  rw [hu, State.lineInBreak, State.leaveQuiet_eq] at hnow hline hsender
  refine ⟨hnow, hline.trans ?_, hrecv.trans ?_, hsender, fun e => ?_, fun a => ?_, ?_, ?_, ?_, ?_⟩
  · rw [hnow]; rfl
  · rw [hu, State.lineInBreak, State.leaveQuiet_eq]
    show s.recv.atBreak = _
    cases h : s.recv.parser <;> simp only [Receiver.atBreak, h]
  · rw [hf.latched]; exact hlatched e
  · rw [hf.cells, hu, State.lineInBreak, State.leaveQuiet_eq]; rfl
  · rw [hf.interp, hu, State.lineInBreak, State.leaveQuiet_eq]; rfl
  · rw [hf.keys, hu, State.lineInBreak, State.leaveQuiet_eq]; rfl
  · rw [hf.pacer, hu, State.lineInBreak, State.leaveQuiet_eq]; rfl
  · rw [hf.straps, hu, State.lineInBreak, State.leaveQuiet_eq]; rfl

/-! ### LINE OPEN, restoration and the stall deadline -/

theorem exec_lineOpen {s u : State} (hp : s.powered = true) (hc : s.line.condition = .inBreak)
    (hu : u = ({ s.reach (s.line.breakEdge + ms 1500) with line := { s.line with condition := .lineOpen } } : State).latch .lineLost) :
    exec .lineOpen s = .next u.lineOpenReport.senderLineOpen.settle := by
  show execLineOpen s = _
  rw [execLineOpen, whenPowered_of_powered hp, hu]
  dsimp only
  rw [if_pos (by simp [hc])]
  rfl

theorem State.senderLineOpen_eq (s : State) : s.senderLineOpen = if s.sender.state = .sending
    then ({ s with line := { s.line with tx := .idle } }.cutBlock).chooseNext else s := by
  simp only [State.senderLineOpen, beq_iff_eq]

theorem State.append_line (s : State) (c : Code) : (s.append c).line = s.line := by
  rcases s.append_cases c with ⟨-, e⟩ | ⟨r, -, ⟨-, e⟩ | ⟨-, t, k, ⟨-, e⟩ | ⟨-, e⟩⟩⟩ <;> rw [e]
  · exact (congrArg State.line k.frame :)
  · exact (congrArg State.line k.frame :)

theorem State.appendHeld_line (s : State) (reason : EndReason) : (s.appendHeld reason).line = s.line := by
  unfold State.appendHeld
  split
  · rfl
  · dsimp only
    split <;> simp [State.append_line]

/-- A block's close leaves the line as it is. -/
theorem State.closeBlock_line (s : State) (reason : EndReason) : (s.closeBlock reason).line = s.line := by
  have hduties : ∀ v : State, (if reason = .complete then v.closeDuties else v).line = v.line := fun v => by
    split
    · exact (congrArg State.line v.closeDuties_side.frame :)
    · rfl
  refine (hduties _).trans ?_
  split
  · exact s.appendHeld_line reason
  · exact s.appendHeld_line reason

theorem State.lineOpenReport_line (s : State) : s.lineOpenReport.line = s.line := by
  unfold State.lineOpenReport
  split
  case h_6 =>
    split
    · exact s.closeBlock_line _
    · rfl
  all_goals rfl

/-- A block cut at LINE OPEN leaves the condition as it is (R78). -/
theorem State.senderLineOpen_condition (s : State) : s.senderLineOpen.line.condition = s.line.condition := by
  rw [State.senderLineOpen_eq]
  split
  · obtain ⟨r, hr, -⟩ := ({ s with line := { s.line with tx := .idle } } : State).cutBlock.chooseNext_frame
    rw [hr]
    rfl
  · rfl

/-- Settles O20. -/
theorem breaksAndStallsEndBlocks : Obligations.BreaksAndStallsEndBlocks := by
  refine ⟨fun s hp hc => ⟨fun u hu v hv => ?_, fun u hu => ?_⟩, fun s deadline hp hstall => ?_⟩
  · have hrecv : u.recv = s.recv := by rw [hu]; rfl
    have hreport : u.lineOpenReport = v := by
      rw [hv]
      cases h : s.recv.parser <;> cases hb : s.recv.breakPending <;>
        simp only [State.lineOpenReport, hrecv, h, hb, State.parserIdle, if_true, if_false, Bool.false_eq_true]
    refine ⟨_, exec_lineOpen hp hc hu, ?_⟩
    have hf := u.lineOpenReport.senderLineOpen.settle_followUp
    generalize State.settle _ = t at hf ⊢
    refine ⟨?_, ?_, ?_⟩
    · rw [hf.latched]
      refine ((State.lineOpenReport_written u).trans (State.senderLineOpen_written _)).keeps.latched _ ?_
      rw [hu]
      exact (State.mem_latch _ _ _).2 (.inl rfl)
    · rw [hf.line, State.senderLineOpen_condition, State.lineOpenReport_line, hu]
      rfl
    · rw [← State.senderLineOpen_eq, ← hreport]
      exact hf
  · refine ⟨_, exec_restoration hp (s.line.spaced_iff.2 (.inl hc)) hu, ?_⟩
    have hf := State.settle_followUp (State.becomeQuiet (if s.line.condition = .inBreak then u.breakEndedReport else u))
    generalize State.settle _ = t at hf ⊢
    refine ⟨?_, ?_⟩
    · rw [hf.line, (State.becomeQuiet_frame _).1]
      rfl
    · have hrecv : u.recv = s.recv := by rw [hu]; rfl
      simpa only [hc, if_true, State.breakEndedReport, hrecv, Bool.and_eq_true, beq_iff_eq] using hf
  · have hexec : exec .stall s = .next (s.reach deadline).stallReport.settle := by
      show execStall s = _
      rw [execStall, whenPowered_of_powered hp]
      simp only [hstall]
    refine ⟨_, hexec, ?_⟩
    have hf := (s.reach deadline).stallReport.settle_followUp
    generalize State.settle _ = t at hf ⊢
    by_cases ht : s.recv.parser = .text
    · have hreport : (s.reach deadline).stallReport = (s.reach deadline).closeBlock .stalled := if_pos (by simpa using ht)
      rw [hreport] at hf
      exact ⟨by rw [hf.recv]; rfl, by rw [hf.recv]; rfl, fun _ => hf, fun h => absurd ht h⟩
    · have hreport : (s.reach deadline).stallReport = (s.reach deadline).parserIdle := if_neg (by simpa using ht)
      rw [hreport] at hf
      exact ⟨by rw [hf.recv]; rfl, by rw [hf.recv]; rfl, fun h => absurd h ht, fun _ => hf⟩

end Sys2Proof.Machine
end

section
/-! # The Block Receiver

The header's grammar, the disposition of a block, its content, its close and what a close hands on. -/
namespace Sys2Proof.Machine

/-! ### Characters -/

/-- The characters of station codes are 40h to 5Fh (R24, R39). -/
theorem stationOf_iff (c : Code) (d : Station) : stationOf c = some d ↔ c = BitVec.ofNat 7 (0x40 + d.toNat) := by
  have hc := c.isLt
  have hd := d.isLt
  unfold stationOf
  split
  · rename_i h
    simp only [Bool.and_eq_true, decide_eq_true_eq] at h
    rw [Option.some_inj, ← BitVec.toNat_inj, ← BitVec.toNat_inj, BitVec.toNat_ofNat, BitVec.toNat_ofNat]
    omega
  · rename_i h
    simp only [Bool.and_eq_true, decide_eq_true_eq] at h
    refine ⟨nofun, fun he => absurd ?_ h⟩
    rw [he, BitVec.toNat_ofNat]
    omega

/-- A station's character is none of those with another meaning. -/
theorem ne_of_stationOf {c c' : Code} {d : Station} (h : stationOf c = some d) (h' : stationOf c' = none) : c ≠ c' :=
  fun e => by simp [← e, h] at h'

theorem kindOf_eq_none_iff (c : Code) : kindOf c = none ↔ c ≠ chBody ∧ c ≠ chQuery ∧ c ≠ chIdent ∧ c ≠ chReceipt := by
  unfold kindOf
  repeat' split
  all_goals simp_all

/-- A kind character is none of those a kind is not named by. -/
theorem ne_of_kindOf {c c' : Code} {k : BlockKind} (h : kindOf c = some k) (h' : kindOf c' = none) : c ≠ c' :=
  fun e => by simp [← e, h] at h'

theorem letterOf_iff (c : Code) (l : Letter) : letterOf c = some l ↔ c = l.code := by
  unfold letterOf
  refine ⟨fun h => ?_, fun h => by subst h; cases l <;> decide⟩
  repeat' split at h
  all_goals cases h
  all_goals assumption

/-! ### The header -/

section
variable {s : State}

theorem State.otherHeaderChar_of_ne {c : Code} (hcall : c ≠ chCall) (hover : c ≠ chOver) (hnul : c ≠ chNul) :
    s.otherHeaderChar c = s.parserTo .skip := by
  simp [State.otherHeaderChar, hcall, hover, hnul]

theorem State.otherHeaderChar_of_station {c : Code} {d : Station} (h : stationOf c = some d) :
    s.otherHeaderChar c = s.parserTo .skip :=
  State.otherHeaderChar_of_ne (ne_of_stationOf h rfl) (ne_of_stationOf h rfl) (ne_of_stationOf h rfl)

/-- A character in error in the header is a violation (R44). -/
theorem State.takeCharacter_error_of_header (h : s.recv.parser = .dests ∨ s.recv.parser = .sender ∨ s.recv.parser = .kind)
    (c : Code) : s.takeCharacter c true = s.parserTo .skip := by
  rcases h with h | h | h <;> simp only [State.takeCharacter, h, if_true]

theorem State.takeCharacter_dests (h : s.recv.parser = .dests) (c : Code) : s.takeCharacter c false = s.takeDest c := by
  simp [State.takeCharacter, h]

theorem State.takeCharacter_sender (h : s.recv.parser = .sender) (c : Code) : s.takeCharacter c false = s.takeSender c := by
  simp [State.takeCharacter, h]

theorem State.takeCharacter_kind (h : s.recv.parser = .kind) (c : Code) : s.takeCharacter c false = s.takeKind c := by
  simp [State.takeCharacter, h]

theorem State.takeCharacter_text (h : s.recv.parser = .text) (c : Code) (isError : Bool) :
    s.takeCharacter c isError = s.takeText c isError := by
  simp [State.takeCharacter, h]

theorem State.takeCharacter_idle (h : s.recv.parser = .idle) (c : Code) :
    s.takeCharacter c true = s ∧ s.takeCharacter c false = if c = chCall then s.takeCall else s := by
  simp [State.takeCharacter, h]

theorem State.takeCharacter_skip (h : s.recv.parser = .skip) (c : Code) :
    s.takeCharacter c true = s ∧
      s.takeCharacter c false = if c = chOver then s.parserIdle else if c = chCall then s.takeCall else s := by
  simp [State.takeCharacter, h]

/-- A control character that no header state takes for its own is another header character. -/
theorem State.takeCharacter_control (h : s.recv.parser = .dests ∨ s.recv.parser = .sender ∨ s.recv.parser = .kind)
    {c : Code} (hc : c = chCall ∨ c = chOver ∨ c = chNul) : s.takeCharacter c false = s.otherHeaderChar c := by
  have hfrom : c ≠ chFrom := by rcases hc with rfl | rfl | rfl <;> decide
  have hstar : c ≠ chStar := by rcases hc with rfl | rfl | rfl <;> decide
  have hstation : stationOf c = none := by rcases hc with rfl | rfl | rfl <;> rfl
  have hkind : kindOf c = none := by rcases hc with rfl | rfl | rfl <;> rfl
  rcases h with h | h | h
  · rw [State.takeCharacter_dests h, State.takeDest, if_neg hfrom]
    cases hd : s.recv.dests <;> simp [Dests.add, hstar, hstation]
  · simp [State.takeCharacter_sender h, State.takeSender, hstation]
  · simp [State.takeCharacter_kind h, State.takeKind, hkind]

/-- A destination character: a code after fewer than four (R41). -/
theorem State.takeDest_code {c : Code} {d : Station} {l : List Station} (h : stationOf c = some d)
    (hl : s.recv.dests = .codes l) : s.takeDest c =
      if l.length < 4 then { s with recv := { s.recv with dests := .codes (l ++ [d]) } } else s.parserTo .skip := by
  have hadd : s.recv.dests.add c = if l.length < 4 then some (.codes (l ++ [d])) else none := by
    simp [hl, Dests.add, ne_of_stationOf h (c' := chStar) rfl, h]
  rw [State.takeDest, if_neg (ne_of_stationOf h rfl), hadd]
  by_cases hlen : l.length < 4
  · simp only [if_pos hlen]
  · simp only [if_neg hlen]
    exact State.otherHeaderChar_of_station h

/-- A character that no destination list takes, FROM aside. -/
theorem State.takeDest_of_none {c : Code} (hfrom : c ≠ chFrom) (h : s.recv.dests.add c = none) :
    s.takeDest c = s.otherHeaderChar c := by
  rw [State.takeDest, if_neg hfrom, h]

/-- `*` first makes ALL (R41). -/
theorem State.takeDest_star : s.takeDest chStar =
    if s.recv.dests = .codes [] then { s with recv := { s.recv with dests := .all } } else s.parserTo .skip := by
  cases hd : s.recv.dests with
  | all =>
    rw [State.takeDest_of_none (by decide) (by rw [hd]; rfl), if_neg (by simp)]
    exact State.otherHeaderChar_of_ne (by decide) (by decide) (by decide)
  | codes l =>
    cases l with
    | nil =>
      rw [State.takeDest, if_neg (by decide), hd]
      rfl
    | cons d l =>
      rw [State.takeDest_of_none (by decide) (by rw [hd]; rfl), if_neg (by simp)]
      exact State.otherHeaderChar_of_ne (by decide) (by decide) (by decide)

/-- A character that names no station and is not `*` is none of a destination list (R41). -/
theorem Dests.add_of_not_station (d : Dests) {c : Code} (hstar : c ≠ chStar) (h : stationOf c = none) : d.add c = none := by
  cases d <;> simp [Dests.add, hstar, h]

theorem State.takeSender_station {c : Code} {d : Station} (h : stationOf c = some d) :
    s.takeSender c = { s with recv := { s.recv with parser := .kind, senderCode := some d } } := by
  simp [State.takeSender, h]

theorem State.takeSender_other {c : Code} (h : stationOf c = none) : s.takeSender c = s.otherHeaderChar c := by
  simp [State.takeSender, h]

end

/-- Settles O21, state by state of the parser. -/
theorem headerIsParsed : Obligations.HeaderIsParsed := by
  refine ⟨stationOf_iff, by decide, fun s opened idle skip c hopened hidle hskip => ?_⟩
  have hcall : s.takeCall = opened := hopened ▸ rfl
  rw [show idle = s.parserIdle from hidle, show skip = s.parserTo .skip from hskip, ← hcall]
  refine ⟨rfl, fun h => State.takeCharacter_idle h c, fun h => State.takeCharacter_skip h c, fun h => ⟨?_, ?_, ?_, ?_⟩,
    fun h => ⟨fun d hd => ?_, fun hd h1 h2 h3 => ?_⟩, fun h hb hq hi hr h1 h2 h3 => ?_,
    fun h => ⟨fun l d hl hd => ?_, fun d hl hd => ?_, ?_, ?_, fun hd hstar hfrom h1 h2 h3 => ?_⟩⟩
  · exact State.takeCharacter_error_of_header h c
  · exact State.takeCharacter_control h (.inl rfl)
  · exact State.takeCharacter_control h (.inr (.inl rfl))
  · exact State.takeCharacter_control h (.inr (.inr rfl))
  · rw [State.takeCharacter_sender h, State.takeSender_station hd]
  · rw [State.takeCharacter_sender h, State.takeSender_other hd, State.otherHeaderChar_of_ne h1 h2 h3]
  · rw [State.takeCharacter_kind h, State.takeKind, (kindOf_eq_none_iff c).2 ⟨hb, hq, hi, hr⟩]
    exact State.otherHeaderChar_of_ne h1 h2 h3
  · rw [State.takeCharacter_dests h, State.takeDest_code hd hl]
  · rw [State.takeCharacter_dests h, State.takeDest_of_none (ne_of_stationOf hd rfl) (by rw [hl]; rfl),
      State.otherHeaderChar_of_station hd]
  · rw [State.takeCharacter_dests h, State.takeDest_star]
  · rw [State.takeCharacter_dests h, State.takeDest, if_pos rfl]
    split <;> rfl
  · rw [State.takeCharacter_dests h, State.takeDest_of_none hfrom (Dests.add_of_not_station _ hstar hd),
      State.otherHeaderChar_of_ne h1 h2 h3]

/-! ### The disposition -/

section
variable {s : State}

theorem State.isOwnBlock_iff : s.isOwnBlock = true ↔ s.recv.senderCode = some s.straps.code ∧ s.sender.state = .sending := by
  simp [State.isOwnBlock, State.ownCodeHeard]

theorem State.dispositionOf_own (h : s.isOwnBlock = true) (k : BlockKind) :
    s.dispositionOf k = if k = .body then .recorded .sent else .passedOver := by
  cases k <;> simp [State.dispositionOf, h]

/-- A block for this station alone (R47). -/
theorem State.dispositionOf_single (h : s.isOwnBlock = false) (hd : s.recv.dests = .codes [s.straps.code]) (k : BlockKind) :
    s.dispositionOf k = match k with
      | .body => .recorded .received
      | .query => .identityQuery
      | .ident => .recorded .ident
      | .receipt => .candidateReceipt := by
  cases k <;> simp [State.dispositionOf, h, State.selected, State.singleToOwn, hd]

/-- A block for every station (R47). -/
theorem State.dispositionOf_all (h : s.isOwnBlock = false) (hd : s.recv.dests = .all) (k : BlockKind) :
    s.dispositionOf k = match k with
      | .body => .recorded .received
      | .query => .identityQuery
      | .ident => .recorded .ident
      | .receipt => .passedOver := by
  cases k <;> simp [State.dispositionOf, h, State.selected, State.singleToOwn, hd]

/-- A block for this station among others (R47). -/
theorem State.dispositionOf_listed (h : s.isOwnBlock = false) {l : List Station} (hd : s.recv.dests = .codes l)
    (hmem : s.straps.code ∈ l) (hne : l ≠ [s.straps.code]) (k : BlockKind) :
    s.dispositionOf k = match k with
      | .body => .recorded .received
      | .ident => .recorded .ident
      | .query | .receipt => .passedOver := by
  cases k <;> simp [State.dispositionOf, h, State.selected, State.singleToOwn, hd, hmem, hne]

/-- A block for other stations (R47). -/
theorem State.dispositionOf_unlisted (h : s.isOwnBlock = false) {l : List Station} (hd : s.recv.dests = .codes l)
    (hmem : s.straps.code ∉ l) (k : BlockKind) :
    s.dispositionOf k = if k = .body ∧ s.straps.monitor = true then .recorded .overheard else .passedOver := by
  cases k <;> simp [State.dispositionOf, h, State.selected, hd, hmem]

theorem State.peerFor_congr {u : State} (hdests : u.recv.dests = s.recv.dests)
    (hsender : u.recv.senderCode = s.recv.senderCode) (k : RecKind) : u.peerFor k = s.peerFor k := by
  cases k <;> simp [State.peerFor, hdests, hsender]

theorem State.askRecord_recorded {k : RecKind} {v : State} {opened : Bool}
    (h : s.splitLocal.openRecord k (s.peerFor k) = (v, opened)) : s.askRecord (.recorded k) =
      { v with recv := { v.recv with recordStatus := if opened = true then .opened else .noRecord } } := by
  simp only [State.askRecord, h]

theorem State.askRecord_of_not_recorded {d : Disposition} (h : ∀ k, d ≠ .recorded k) : s.askRecord d = s := by
  cases d with
  | recorded k => exact absurd rfl (h k)
  | _ => rfl

/-- An open request leaves the Block Receiver and every event latched as they are. -/
theorem State.openRecord_keeps_latched (s : State) (k : RecKind) (peer : Option Station) :
    (s.openRecord k peer).1.recv = s.recv ∧
      ∀ e ∈ s.diag.latched, e ∈ (s.openRecord k peer).1.diag.latched := by
  obtain ⟨t, ht, ⟨-, e⟩ | ⟨-, e⟩⟩ := s.openRecord_cases k peer <;> rw [e]
  · exact ⟨ht.recv, ht.kept⟩
  · exact ⟨ht.recv, fun x hx => (State.mem_latch _ _ _).2 (.inr (ht.kept x hx))⟩

/-- Asking for a record sets the record status alone in the Block Receiver, and keeps every event latched. -/
theorem State.askRecord_frame (s : State) (d : Disposition) : (∃ r, (s.askRecord d).recv = { s.recv with recordStatus := r }) ∧
    ∀ e ∈ s.diag.latched, e ∈ (s.askRecord d).diag.latched := by
  cases d with
  | recorded k =>
    obtain ⟨hrecv, hlatched⟩ := s.splitLocal.openRecord_keeps_latched k (s.peerFor k)
    have hdiag : s.splitLocal.diag = s.diag := by
      unfold State.splitLocal
      split <;> rfl
    rw [State.askRecord_recorded (v := (s.splitLocal.openRecord k (s.peerFor k)).1) rfl]
    dsimp only
    rw [hrecv, State.splitLocal_recv, ← hdiag]
    exact ⟨⟨_, rfl⟩, hlatched⟩
  | _ => exact ⟨⟨s.recv.recordStatus, rfl⟩, fun _ h => h⟩

/-- The kind character: what it sets, and the record asked for (R43, R46, R48). -/
theorem State.takeKindOf_eq {k : BlockKind} {u : State} (hu : u = { (if s.recv.senderCode = some s.straps.code ∧
      s.sender.state ≠ .sending then s.latch .duplicateCode else s) with recv := { s.recv with
      parser := .text, kind := some k, disposition := s.dispositionOf k, contentCount := 0
      contentError := false, firstContent := none, held := none } }) :
    s.takeKindOf k = u.askRecord (s.dispositionOf k) := by
  rw [hu]
  by_cases h : s.recv.senderCode = some s.straps.code ∧ s.sender.state ≠ .sending
  · rw [if_pos h, State.takeKindOf, if_pos (by simpa [State.ownCodeHeard] using h)]
    rfl
  · rw [if_neg h, State.takeKindOf, if_neg (by simpa [State.ownCodeHeard] using h)]

end

/-- Settles O22. -/
theorem dispositionIsDecided : Obligations.DispositionIsDecided := by
  refine ⟨kindOf_eq_none_iff, fun s k c hs hk => ?_⟩
  obtain ⟨u, hu⟩ : ∃ u : State, u = { (if s.recv.senderCode = some s.straps.code ∧
      s.sender.state ≠ .sending then s.latch .duplicateCode else s) with recv := { s.recv with
      parser := .text, kind := some k, disposition := s.dispositionOf k, contentCount := 0
      contentError := false, firstContent := none, held := none } } := ⟨_, rfl⟩
  have htake : s.takeCharacter c false = u.askRecord (s.dispositionOf k) := by
    rw [State.takeCharacter_kind hs, State.takeKind, hk]
    exact State.takeKindOf_eq hu
  have hown : s.recv.senderCode ≠ some s.straps.code ∨ s.sender.state ≠ .sending → s.isOwnBlock = false := fun h => by
    rw [Bool.eq_false_iff, ne_eq, State.isOwnBlock_iff]
    exact fun hc => h.elim (· hc.1) (· hc.2)
  obtain ⟨⟨status, hrecv⟩, hlatched⟩ := u.askRecord_frame (s.dispositionOf k)
  refine ⟨?_, fun u' hu' => ?_, ⟨rfl, rfl, rfl, rfl⟩, fun h1 h2 => State.dispositionOf_own (State.isOwnBlock_iff.2 ⟨h1, h2⟩) k,
    fun h1 h2 => ?_, fun h => ⟨fun hd => State.dispositionOf_single (hown h) hd k,
      fun hd => State.dispositionOf_all (hown h) hd k, fun l hd hmem hne => State.dispositionOf_listed (hown h) hd hmem hne k,
      fun l hd hmem => State.dispositionOf_unlisted (hown h) hd hmem k⟩,
    ⟨rfl, rfl, rfl, fun h => by simp [State.peerFor, h], fun d l h => by simp [State.peerFor, h]⟩⟩
  · rw [htake, hrecv, hu]
    exact ⟨rfl, rfl, rfl, rfl, rfl, rfl, rfl⟩
  · rw [htake, hu'.trans hu.symm]
    refine ⟨fun rk v opened hd hv => ?_, fun hd => State.askRecord_of_not_recorded hd⟩
    have hpeer : u.peerFor rk = s.peerFor rk := State.peerFor_congr (by rw [hu]) (by rw [hu]) rk
    rw [hd, State.askRecord_recorded (hpeer ▸ hv)]
  · rw [htake]
    refine hlatched _ ?_
    rw [hu, if_pos ⟨h1, h2⟩]
    exact (State.mem_latch _ _ _).2 (.inl rfl)

/-! ### Content -/

section
variable {s : State}

theorem State.storeContent_of_not_opened (h : s.recv.recordStatus ≠ .opened) (c : Code) : s.storeContent c = s := by
  simp [State.storeContent, h]

theorem State.storeContent_plain (h : s.recv.recordStatus = .opened) (hd : s.recv.disposition ≠ .recorded .ident)
    (c : Code) : s.storeContent c = s.append c := by
  simp [State.storeContent, h, hd]

/-- The first character of an IDENT record is held back (R50). -/
theorem State.storeContent_first (h : s.recv.recordStatus = .opened) (hd : s.recv.disposition = .recorded .ident)
    (hheld : s.recv.held = none) (c : Code) : s.storeContent c = { s with recv := { s.recv with held := some c } } := by
  simp [State.storeContent, h, hd, hheld]

/-- A later character of an IDENT record stores the one held before it (R50). -/
theorem State.storeContent_next {c' : Code} (h : s.recv.recordStatus = .opened) (hd : s.recv.disposition = .recorded .ident)
    (hheld : s.recv.held = some c') (c : Code) :
    s.storeContent c = { s.append c' with recv := { s.recv with held := some c } } := by
  simp [State.storeContent, h, hd, hheld, State.append_recv]

/-- A content character taken: what it counts, and the character stored (R49). -/
theorem State.takeContentAs_eq {u : State} {c : Code} {isError : Bool} (hu : u = { s with recv := { s.recv with
      contentCount := if s.recv.contentCount < 65535 then s.recv.contentCount + 1 else 65535
      contentError := s.recv.contentError || isError
      firstContent := if s.recv.firstContent = none then some c else s.recv.firstContent } }) :
    s.takeContentAs c isError =
      (if isError = true ∧ s.recv.recordStatus = .opened then u.reportError else u).storeContent c := by
  rw [State.takeContentAs, hu]
  simp only [satSucc_eq, Option.isNone_iff_eq_none, Bool.and_eq_true, beq_iff_eq]

theorem State.takeText_error (c : Code) : s.takeText c true = s.takeContentAs chErrorGlyph true := rfl

/-- A character out of place counts as one in error (R49). -/
theorem State.takeText_misplaced {c : Code} (h : c = chFrom ∨ ∃ k, kindOf c = some k) :
    s.takeText c false = s.takeContentAs chErrorGlyph true := by
  rw [State.takeText, if_neg (by decide), if_pos]
  simpa [Option.isSome_iff_exists] using h

theorem State.takeText_control {c : Code} (hfrom : c ≠ chFrom) (hkind : kindOf c = none) : s.takeText c false =
    if c = chNul then s
    else if c = chOver then s.closeBlock .complete
    else if c = chAbandon then s.closeBlock .abandoned
    else if c = chCall then (s.closeBlock .broken).takeCall
    else s.takeContentAs c false := by
  rw [State.takeText, if_neg (by decide), if_neg (by simp [hfrom, hkind])]

end

/-- Settles O23. -/
theorem contentIsTaken : Obligations.ContentIsTaken := by
  intro s c hs
  refine ⟨fun u hu hnul hover habandon hcall hfrom hkind => ?_, ?_, fun u hu => ?_⟩
  · have htake : s.takeCharacter c false = u.storeContent c := by
      rw [State.takeCharacter_text hs, State.takeText_control hfrom hkind, if_neg hnul, if_neg hover, if_neg habandon,
        if_neg hcall, State.takeContentAs_eq (u := u) (by rw [Bool.or_false]; exact hu), if_neg (by simp)]
    have hstatus : u.recv.recordStatus = s.recv.recordStatus := by rw [hu]
    have hdisposition : u.recv.disposition = s.recv.disposition := by rw [hu]
    have hheld : u.recv.held = s.recv.held := by rw [hu]
    rw [← hstatus, ← hdisposition, ← hheld, htake]
    refine ⟨fun h => State.storeContent_of_not_opened h c, fun h hd => State.storeContent_plain h hd c,
      fun h hd => ⟨fun hh => State.storeContent_first h hd hh c, fun c' hh => ?_⟩⟩
    rw [State.storeContent_next h hd hh, State.append_recv]
  · rw [State.takeCharacter_text hs]
    exact State.takeText_control (by decide) rfl
  · have herror : s.takeCharacter c true =
        (if s.recv.recordStatus = .opened then u.reportError else u).storeContent chErrorGlyph := by
      rw [State.takeCharacter_text hs, State.takeText_error,
        State.takeContentAs_eq (u := u) (by rw [Bool.or_true]; exact hu)]
      simp only [true_and]
    have hstatus : u.recv.recordStatus = s.recv.recordStatus := by rw [hu]
    have hdisposition : u.recv.disposition = s.recv.disposition := by rw [hu]
    have hheld : u.recv.held = s.recv.held := by rw [hu]
    refine ⟨fun h => ?_, fun h hd => ?_, fun h hd => ⟨fun hh => ?_, fun c' hh => ?_⟩, fun h => ?_⟩
    · rw [herror, if_neg h]
      exact State.storeContent_of_not_opened (hstatus ▸ h) _
    · rw [herror, if_pos h]
      exact State.storeContent_plain (s := u.reportError) (hstatus.trans h) (hdisposition ▸ hd) _
    · rw [herror, if_pos h]
      exact State.storeContent_first (s := u.reportError) (hstatus.trans h) (hdisposition.trans hd) (hheld.trans hh) _
    · rw [herror, if_pos h]
      exact State.storeContent_next (s := u.reportError) (hstatus.trans h) (hdisposition.trans hd) (hheld.trans hh) _
    · rw [State.takeCharacter_text hs, State.takeCharacter_text hs, State.takeText_misplaced h, State.takeText_error]

/-! ### The close -/

theorem State.appendHeld_none {s : State} (h : s.recv.held = none) (reason : EndReason) : s.appendHeld reason = s := by
  simp [State.appendHeld, h]

theorem State.appendHeld_some {s : State} {c : Code} (h : s.recv.held = some c) (reason : EndReason) :
    s.appendHeld reason = { (if reason = .complete then s.append chSpace else s).append c with
      recv := { s.recv with held := none } } := by
  simp only [State.appendHeld, h]
  split <;> simp [State.append_recv]

/-- A block that holds no character back closes its record and hands on what it owes (R52, R59). -/
theorem State.closeBlock_of_none {s u : State} (h : s.recv.held = none) (reason : EndReason)
    (hu : u = if s.recv.recordStatus = .opened then s.closeRecord reason else s) : s.closeBlock reason =
      { (if reason = .complete then u.closeDuties else u) with
        recv := { (if reason = .complete then u.closeDuties else u).recv with
          parser := .idle, stall := none, breakPending := false } } := by
  rw [State.closeBlock, State.appendHeld_none h, hu]
  simp only [beq_iff_eq]

/-- A character held back is stored first (R50). -/
theorem State.closeBlock_of_some {s u : State} {c : Code} (h : s.recv.held = some c) (reason : EndReason)
    (hu : u = if reason = .complete then (s.append chSpace).append c else s.append c) :
    s.closeBlock reason = { u with recv := { u.recv with held := none } }.closeBlock reason := by
  have happend : s.appendHeld reason = { u with recv := { u.recv with held := none } } := by
    rw [State.appendHeld_some h, hu]
    split <;> simp [State.append_recv]
  rw [State.closeBlock, State.closeBlock, happend,
    State.appendHeld_none (s := { u with recv := { u.recv with held := none } }) rfl]

/-- Settles O24. -/
theorem blockIsClosed : Obligations.BlockIsClosed := by
  refine ⟨fun s l r reason hl hr hclosed => ?_, fun s hs => ⟨?_, ?_, ?_, fun reason => ⟨rfl, rfl, rfl⟩,
    fun reason hheld u hu => ?_, fun c reason hheld u hu => State.closeBlock_of_some hheld reason hu⟩⟩
  · have ho : s.store.OpenLast l r := ⟨hl, (Rec.isOpen_iff r).2 hr, fun x hx =>
      Bool.eq_false_iff.2 fun h => hclosed x hx ((Rec.isOpen_iff x).1 h)⟩
    rw [State.closeRecord, ho.updateOpen]
    rfl
  · rw [State.takeCharacter_text hs]
    exact State.takeText_control (by decide) rfl
  · rw [State.takeCharacter_text hs]
    exact State.takeText_control (by decide) rfl
  · rw [State.takeCharacter_text hs]
    exact State.takeText_control (by decide) rfl
  · rw [State.closeBlock_of_none hheld reason hu]
    split <;> rfl

/-! ### What a close hands on -/

section
variable {s : State}

theorem State.addReply_of_full (h : 2 ≤ s.sender.replies.length) (r : Reply) : s.addReply r = s.latch .replyLost :=
  if_pos h

/-- A reply joins the queue and the Sender acts by its state (R62, R65). -/
theorem State.addReply_of_room {u : State} (h : s.sender.replies.length < 2) {r : Reply}
    (hu : u = { s with sender := { s.sender with replies := s.sender.replies ++ [r] } }) : s.addReply r =
      match s.sender.state with
      | .idle => u.workAppears
      | .deferring =>
        if s.sender.source = .reply then u
        else { u with sender := { u.sender with source := .reply, draw := 0 } }.beginSpan
      | .sending | .breaking => u := by
  rw [State.addReply, if_neg (by show ¬ 2 ≤ _; omega), hu]
  simp only [beq_iff_eq] <;> rfl

/-- A reply takes the place of a composition, with the reply gap as its span (R65, R66). -/
theorem State.replace_beginSpan (u : State) : State.beginSpan { u with sender := { u.sender with source := .reply, draw := 0 } } =
    { u with sender := { u.sender with
      source := .reply, draw := 0, spanReached := false
      span := if u.line.condition = .quiet then some 1 else none } } := by
  by_cases h : u.line.condition = .quiet
  · rw [State.beginSpan_of_quiet (by exact h), if_pos h]
    rfl
  · rw [State.beginSpan_of_not_quiet (by exact h), if_neg h]

theorem Sender.rest_of_idle {r : Sender} (h : r.state = .idle) (hsource : r.source = .none) (hspan : r.span = none)
    (hreached : r.spanReached = false) :
    ({ r with state := .idle, source := .none, span := none, spanReached := false } : Sender) = r := by
  rw [← h, ← hsource, ← hspan, ← hreached]

theorem State.addReply_replies (h : s.sender.replies.length < 2) (r : Reply) :
    (s.addReply r).sender.replies = s.sender.replies ++ [r] := by
  rw [State.addReply_of_room h rfl]
  cases s.sender.state with
  | idle =>
    dsimp only
    unfold State.workAppears
    split
    · obtain ⟨q, hq, hreplies, -⟩ :=
        ({ s with sender := { s.sender with replies := s.sender.replies ++ [r] } } : State).chooseNext_frame
      rw [hq]
      exact hreplies
    · rfl
  | deferring =>
    dsimp only
    split
    · rfl
    · exact congrArg (fun v => v.sender.replies)
        (State.replace_beginSpan { s with sender := { s.sender with replies := s.sender.replies ++ [r] } })
  | _ => rfl

theorem State.receiptHeard_of_none (h : s.sender.watch = .none) (d : Station) (l : Letter) : s.receiptHeard d l = s := by
  simp [State.receiptHeard, h]

theorem State.receiptHeard_of_waiting {d' : Station} {deadline n : Nat} (h : s.sender.watch = .waiting d' deadline n)
    (d : Station) (l : Letter) : s.receiptHeard d l = if d' = d then s.settleWatch d' (some l) else s := by
  simp [State.receiptHeard, h]

/-- The receipt owed for a block received for this station alone (R56, R57). -/
theorem State.closeDuties_received {d : Station} (hd : s.recv.senderCode = some d)
    (hdisp : s.recv.disposition = .recorded .received) : s.closeDuties =
      if s.recv.dests = .codes [s.straps.code] then s.addReply (.receipt d s.receiptOutcome) else s := by
  simp only [State.closeDuties, hd, hdisp, State.singleToOwn, beq_iff_eq]

theorem State.closeDuties_query {d : Station} (hd : s.recv.senderCode = some d)
    (hdisp : s.recv.disposition = .identityQuery) : s.closeDuties =
      if s.recv.contentCount = 0 then s.addReply (.ident d) else s := by
  simp only [State.closeDuties, hd, hdisp, Receiver.wellFormedQuery, beq_iff_eq]

theorem State.closeDuties_receipt {d : Station} (hd : s.recv.senderCode = some d)
    (hdisp : s.recv.disposition = .candidateReceipt) : s.closeDuties =
      match s.recv.receiptLetter with
      | some l => s.receiptHeard d l
      | none => s := by
  simp only [State.closeDuties, hd, hdisp] <;> rfl

theorem State.receiptOutcome_of_not_opened (h : s.recv.recordStatus ≠ .opened) : s.receiptOutcome = .x := by
  simp [State.receiptOutcome, h]

theorem State.receiptOutcome_of_opened (h : s.recv.recordStatus = .opened) {l : List Rec} {r : Rec}
    (hl : s.store.recs = l ++ [r]) : s.receiptOutcome = if r.truncated then .t else if 0 < r.errors then .e else .k := by
  simp [State.receiptOutcome, h, hl]

end

/-- Settles O25. -/
theorem closeHandsOn : Obligations.CloseHandsOn := by
  refine ⟨letterOf_iff, ⟨rfl, rfl, rfl, rfl⟩, fun s r h => State.addReply_of_full h r, fun s h => ?_,
    fun s u r h hu => ⟨fun hs => ?_, fun hs hsource => ?_, fun hs hsource => ?_, fun hs hstart hsource hspan hreached => ?_,
      fun hs hstart => ?_⟩,
    fun s d l => ⟨fun h => State.receiptHeard_of_none h d l, fun d' deadline n h => ⟨fun hne => ?_, fun he busy hbusy => ?_⟩⟩,
    fun s d hd => ⟨fun hdisp hown => ?_, fun hdisp hown => ?_, fun hdisp => ?_, fun hdisp => ⟨fun c l h1 h2 h3 h4 => ?_,
      fun c h1 h2 => ?_, fun h => ?_⟩, fun h => ?_⟩⟩
  · simp only [State.closeDuties, h]
  · rw [State.addReply_of_room h hu]
    rcases hs with hs | hs <;> simp only [hs]
  · rw [State.addReply_of_room h hu]
    simp only [hs, if_pos hsource]
  · rw [State.addReply_of_room h hu]
    simp only [hs, if_neg hsource]
    rw [State.replace_beginSpan, hu]
  · rw [State.addReply_of_room h hu]
    have hidle : u.sender.state = .idle := by rw [hu]; exact hs
    simp only [hs, State.workAppears, hidle, beq_self_eq_true, if_true]
    rw [State.chooseNext_idle (.inl (by rw [hu]; exact hstart)),
      Sender.rest_of_idle hidle (by rw [hu]; exact hsource) (by rw [hu]; exact hspan) (by rw [hu]; exact hreached)]
  · have hidle : u.sender.state = .idle := by rw [hu]; exact hs
    have hadd : s.addReply r = u.chooseNext := by
      rw [State.addReply_of_room h hu]
      simp only [hs, State.workAppears, hidle, beq_self_eq_true, if_true]
    have hchoose := State.chooseNext_reply (s := u) (by rw [hu]; exact hstart) (by rw [hu]; simp)
    have hline : u.line = s.line := by rw [hu]
    rw [hadd, ← hline]
    exact hchoose
  · rw [State.receiptHeard_of_waiting h, if_neg hne]
  · have hpending : s.store.confirmPending = busy := by
      rw [Bool.eq_iff_iff, Store.confirmPending_iff, hbusy]
    rw [State.receiptHeard_of_waiting h, if_pos he, State.settleWatch_eq, hpending, he]
    simp only [Option.some.injEq]
  · have hduties := State.closeDuties_received hd hdisp
    rw [if_pos hown] at hduties
    refine ⟨fun h => ?_, fun h => ?_, fun r l h hl => ?_, fun h hx => ?_, fun r l hlen h hl => ?_⟩
    · rw [hduties, State.addReply_of_full h]
    · rw [hduties, State.receiptOutcome_of_not_opened h]
    · rw [hduties, State.receiptOutcome_of_opened h hl]
    · rw [hduties, State.receiptOutcome_of_not_opened hx, State.addReply_replies h]
    · rw [hduties, State.receiptOutcome_of_opened h hl, State.addReply_replies hlen]
  · rw [State.closeDuties_received hd hdisp, if_neg hown]
  · rw [State.closeDuties_query hd hdisp]
    refine ⟨fun h => if_pos h, fun h hlen => ?_, fun h hlen => ?_, fun h => if_neg h⟩
    · rw [if_pos h, State.addReply_replies hlen]
    · rw [if_pos h, State.addReply_of_full hlen]
  · have hletter : s.recv.receiptLetter = some l := by simp [Receiver.receiptLetter, h1, h2, h3, h4]
    rw [State.closeDuties_receipt hd hdisp, hletter]
  · have hletter : s.recv.receiptLetter = none := by simp [Receiver.receiptLetter, h1, h2]
    rw [State.closeDuties_receipt hd hdisp, hletter]
  · have hletter : s.recv.receiptLetter = none := by
      rw [Receiver.receiptLetter, if_neg]
      rcases h with h | h <;> simp [h]
    rw [State.closeDuties_receipt hd hdisp, hletter]
  · rcases h with h | h | h | h | h <;> simp only [State.closeDuties, hd, h]

end Sys2Proof.Machine
end

section
/-! # Generated and LOCAL records

The CONFIRM and STATUS requests taken by the store, the report's text and its clearing, and the LOCAL requests. -/
namespace Sys2Proof.Machine

/-! ### A generated record's cells -/

/-- A character is stored in the cell at W and no other (R1). -/
theorem Store.put_read {st : Store} (h : Memory.wf st.cells = true) (c : Code) (a : Nat) :
    Memory.read (st.put c).cells a = if a = st.w % storeCells then c.setWidth 8 else Memory.read st.cells a :=
  Memory.read_write h _ a _

/-- The cells of a text lie one after another from W on, round the ring, and no other cell changes (R1, R11). -/
theorem Store.put_all_read (text : List Code) {st : Store} (h : Memory.wf st.cells = true) (hlen : text.length ≤ storeCells) :
    (∀ i c, text[i]? = some c →
      Memory.read (text.foldl Store.put st).cells ((st.w + i) % storeCells) = c.setWidth 8) ∧
    (∀ a, (∀ i, i < text.length → a ≠ (st.w + i) % storeCells) →
      Memory.read (text.foldl Store.put st).cells a = Memory.read st.cells a) := by
  induction text generalizing st with
  | nil => exact ⟨by simp, fun _ _ => rfl⟩
  | cons c cs ih =>
    have hplace : ∀ j, ((st.put c).w + j) % storeCells = (st.w + (j + 1)) % storeCells := fun j => by
      show ((st.w + 1) % 4096 + j) % 4096 = (st.w + (j + 1)) % 4096
      omega
    have hapart : ∀ j < cs.length, st.w % storeCells ≠ ((st.put c).w + j) % storeCells := fun j hj => by
      have hmany : cs.length + 1 ≤ 4096 := hlen
      rw [hplace]
      show st.w % 4096 ≠ (st.w + (j + 1)) % 4096
      omega
    obtain ⟨hwritten, hkept⟩ := ih (Store.put_wf h c) (Nat.le_of_succ_le hlen)
    refine ⟨fun i x hx => ?_, fun a ha => ?_⟩
    · cases i with
      | zero =>
        obtain rfl : c = x := by simpa using hx
        rw [List.foldl_cons, Nat.add_zero, hkept _ hapart, Store.put_read h]
        exact if_pos rfl
      | succ j =>
        rw [List.foldl_cons, ← hplace]
        exact hwritten j x (by simpa using hx)
    · rw [List.foldl_cons, hkept a fun j hj => ?_, Store.put_read h, if_neg (by simpa using ha 0 (Nat.zero_lt_succ _))]
      rw [hplace]
      exact ha (j + 1) (by simpa using hj)

/-- A cell holds the code stored there. -/
theorem code_setWidth (c : Code) : (c.setWidth 8).setWidth 7 = c := by
  rw [BitVec.setWidth_setWidth_of_le c (by decide), BitVec.setWidth_eq]

/-! ### Writing a generated record -/

section
variable {s : State}

/-- With a descriptor and the cells free the record is written at once (R11). -/
theorem State.writeGenerated_of_room {k : RecKind} {text : List Code} (hrecs : s.store.recs.length < 24)
    (hfree : text.length ≤ s.store.free) : s.writeGenerated k text =
      ({ s with store := Store.reclaim { text.foldl Store.put s.store with
        recs := s.store.recs ++ [{ newRec s.straps.punchsel k none s.store.w with
          length := text.length, state := .closed .complete }] } }, true) := by
  have hcond : 0 < s.store.freeRecs ∧ text.length ≤ s.store.free := ⟨Nat.sub_pos_of_lt hrecs, hfree⟩
  have hroom : s.roomForText text.length = s := State.makeRoom_of_met (by simpa using hcond) _
  rw [State.writeGenerated, hroom, if_pos (by simpa using hcond), ← (Store.put_all_recs s.store text).1]

section
variable (h : s.store.recs.length = 24 ∨ s.store.free < k')
include h

theorem State.no_roomForText : (decide (0 < s.store.freeRecs) && decide (k' ≤ s.store.free)) = false := by
  rw [Bool.and_eq_false_iff, decide_eq_false_iff_not, decide_eq_false_iff_not]
  refine h.imp (fun h => ?_) fun h => by omega
  rw [Store.freeRecs_of_full h]
  decide

end

/-- Without room, and no head to release, nothing is written (R11). -/
theorem State.writeGenerated_of_full {k : RecKind} {text : List Code}
    (h : s.store.recs.length = 24 ∨ s.store.free < text.length) (hr : s.headReleasable = false) :
    s.writeGenerated k text = (s, false) := by
  have hroom : s.roomForText text.length = s := State.makeRoom_of_not_releasable hr _
  rw [State.writeGenerated, hroom, if_neg (by simp [State.no_roomForText h])]

/-- Without room a head that may be released gives way first (R14, R15). -/
theorem State.writeGenerated_of_releasable {k : RecKind} {text : List Code}
    (h : s.store.recs.length = 24 ∨ s.store.free < text.length) (hr : s.headReleasable = true)
    (hlen : s.store.recs.length ≤ 24) : s.writeGenerated k text = s.releaseHead.writeGenerated k text := by
  have hroom : s.roomForText text.length = s.releaseHead.roomForText text.length :=
    State.makeRoom_releaseHead (State.no_roomForText h) hr hlen
  rw [State.writeGenerated, State.writeGenerated, hroom]

/-- What the writing of a generated record may change: the store, and what the space steps do (R11, R14). -/
theorem State.writeGenerated_frame (s : State) (k : RecKind) (text : List Code) :
    ∃ t, SpaceSteps s t ∧ (s.writeGenerated k text).1 = { t with store := (s.writeGenerated k text).1.store } ∧
      ((s.writeGenerated k text).2 = false → (s.writeGenerated k text).1 = t) := by
  obtain ⟨t, ht, ⟨-, -, e⟩ | ⟨-, e⟩⟩ := s.writeGenerated_cases k text <;> rw [e]
  · exact ⟨t, ht, rfl, nofun⟩
  · exact ⟨t, ht, rfl, fun _ => rfl⟩

/-- A CONFIRM request written, or refused with STORE FULL and the bell (R11). -/
theorem State.takeConfirm_eq {v : State} {written : Bool} {d : Station} {letter : Option Letter}
    (h : s.writeGenerated .confirm (confirmText d letter) = (v, written)) :
    s.takeConfirm d letter = if written then v else (v.latch .storeFull).bell := by
  simp only [State.takeConfirm, h]

theorem State.splitLocal_bells (s : State) : s.splitLocal.bells = s.bells := by
  unfold State.splitLocal
  split <;> rfl

end

/-! ### A report's clearing -/

/-- A written report clears what its snapshot captured (R204). -/
theorem State.takeStatus_of_written {s v : State} (h : s.markSnapshot.writeGenerated .status s.statusText = (v, true)) :
    s.takeStatus = { v with diag := v.diag.clearReport s.diag.latched s.diag.errorTotal } := by
  simp only [State.takeStatus, h, if_true]

/-- A refused one clears nothing and rings the bell (R204). -/
theorem State.takeStatus_of_refused {s v : State} (h : s.markSnapshot.writeGenerated .status s.statusText = (v, false)) :
    s.takeStatus = { v with diag := v.diag.dropReport, bells := v.bells + 1 } := by
  simp only [State.takeStatus, h, Bool.false_eq_true, if_false]
  rfl

theorem State.takeStatus_request (s : State) : s.takeStatus.diag.request = .none := by
  cases hw : (s.markSnapshot.writeGenerated .status s.statusText).2 with
  | true => rw [State.takeStatus_of_written (Prod.ext rfl hw)]; rfl
  | false => rw [State.takeStatus_of_refused (Prod.ext rfl hw)]; rfl

theorem Diag.clearReport_latched (d : Diag) (captured : List Event) (total : Nat) (e : Event) :
    e ∈ (d.clearReport captured total).latched ↔ e ∈ d.latched ∧ (e ∉ captured ∨ e ∈ d.again) := by
  simp [Diag.clearReport]

/-! ### The request taken -/

/-- The oldest pending request taken (R11). -/
theorem exec_generatedRecordTaken {s : State} {r : GenRequest} {rest : List GenRequest} (hp : s.powered = true)
    (hb : s.store.blockOpen = false) (hr : s.store.requests = r :: rest) : exec .generatedRecordTaken s = .next
      (State.settle (match (generalizing := false) r with
        | .confirm d letter => ({ s with store := { s.store with requests := rest } } : State).splitLocal.takeConfirm d letter
        | .status => ({ s with store := { s.store with requests := rest } } : State).splitLocal.takeStatus)) := by
  show execGeneratedRecordTaken s = _
  rw [execGeneratedRecordTaken, whenPowered_of_powered hp]
  simp only [hb, hr, Bool.false_eq_true, if_false] <;> rfl

theorem confirmText_eq (d : Station) (letter : Option Letter) : confirmText d letter =
    digitCode (d.toNat / 10) :: digitCode d.toNat :: textOf " RECEIPT " ++
      match letter with
      | some l => [l.code]
      | none => textOf "NONE" := rfl

/-- A station's tens digit is one. -/
theorem digitCode_tens (d : Station) : digitCode (d.toNat / 10) = BitVec.ofNat 7 (0x30 + d.toNat / 10) := by
  rw [digitCode, Nat.mod_eq_of_lt (by have := d.isLt; omega)]

/-- Settles O34. -/
theorem generatedRecordIsTaken : Obligations.GeneratedRecordIsTaken := by
  refine ⟨fun s rest u hp hb hu => ⟨fun d letter v hr => ⟨fun hv => ?_, fun hv => ?_⟩, fun hr => ?_⟩,
    fun d => ⟨?_, fun l => ?_⟩, fun s k text hrecs hfree hk => ?_,
    fun s k text h => ⟨State.writeGenerated_of_full h, fun hr hlen => State.writeGenerated_of_releasable h hr hlen⟩⟩
  · refine ⟨_, exec_generatedRecordTaken hp hb hr, ?_⟩
    dsimp only
    rw [← hu, State.takeConfirm_eq hv]
    exact State.settle_followUp _
  · refine ⟨_, exec_generatedRecordTaken hp hb hr, ?_⟩
    dsimp only
    rw [← hu, State.takeConfirm_eq hv]
    have hf := State.settle_followUp (v.latch .storeFull).bell
    refine ⟨hf, ?_, ?_⟩
    · obtain ⟨t, ht, he, -⟩ := u.writeGenerated_frame .confirm (confirmText d letter)
      rw [hv] at he
      have hbells : v.bells = s.bells := by
        calc v.bells = t.bells := (congrArg State.bells he :)
          _ = u.bells := (congrArg State.bells ht.frame :)
          _ = s.bells := by rw [hu, State.splitLocal_bells]
      exact Nat.lt_of_lt_of_le (by rw [← hbells]; exact Nat.lt_succ_self _) hf.bells
    · exact hf.latched ▸ (State.mem_latch v _ _).2 (.inl rfl)
  · refine ⟨_, exec_generatedRecordTaken hp hb hr, ?_⟩
    dsimp only
    rw [← hu]
    exact ⟨(State.settle_followUp _).request.trans u.takeStatus_request, State.settle_followUp _⟩
  · rw [confirmText_eq, digitCode_tens]
    rfl
  · rw [confirmText_eq, digitCode_tens]
    cases l <;> rfl
  · have hpunch : punchSelected s.straps.punchsel k = false := by rcases hk with rfl | rfl <;> rfl
    have hlen : text.length ≤ storeCells := Nat.le_trans hfree (Nat.sub_le _ _)
    rw [State.writeGenerated_of_room hrecs hfree]
    refine ⟨rfl, rfl, (Store.put_all_recs s.store text).2, ?_, fun hw => Store.put_all_w s.store text hw, fun hm => ?_⟩
    · show (s.store.recs ++ [({ newRec s.straps.punchsel k none s.store.w with
        length := text.length, state := .closed .complete } : Rec)]).dropWhile Rec.reclaimable = _
      simp only [newRec, hpunch, Bool.false_eq_true, if_false]
    · obtain ⟨hwritten, hkept⟩ := Store.put_all_read text hm hlen
      refine ⟨fun i c hc => ?_, hkept⟩
      rw [Store.cell]
      exact (congrArg (BitVec.setWidth 7) (hwritten i c hc)).trans (code_setWidth c)

/-! ### A report's text -/

/-- The names of the events in report order (R200). -/
def eventNames : List (Event × String) :=
  [(.power, "POWER"), (.restart, "RESTART"), (.lineLost, "LINE LOST"), (.breakHeard, "BREAK HEARD"),
    (.duplicateCode, "DUPLICATE CODE"), (.storeFull, "STORE FULL"), (.punchSkipped, "PUNCH SKIPPED"),
    (.replyLost, "REPLY LOST"), (.keyOverrun, "KEY OVERRUN"), (.stuckKey, "STUCK KEY"), (.warm, "WARM"),
    (.hot, "HOT"), (.paperOut, "PAPER OUT"), (.tapeOut, "TAPE OUT"), (.jam, "JAM"), (.supplyLow, "SUPPLY LOW"),
    (.selfCheck, "SELF-CHECK"), (.identityLost, "IDENTITY LOST")]

theorem eventNames_eq : eventNames.map (fun x => (x.1, textOf x.2)) = allEvents.map fun e => (e, e.name) := rfl

/-- The names of the events that satisfy `p`, in report order. -/
theorem eventNames_filter (p : Event → Bool) :
    (eventNames.filter fun x => p x.1).map (fun x => textOf x.2) = (allEvents.filter p).map Event.name := by
  have h := congrArg (fun l => (l.filter fun x : Event × List Code => p x.1).map Prod.snd) eventNames_eq
  simpa only [List.filter_map, List.map_map, Function.comp_def] using h

theorem eventNames_events : eventNames.map Prod.fst = allEvents := rfl

theorem joinNames_eq (l : List (List Code)) : joinNames l = List.intercalate [chSpace] l := by
  induction l with
  | nil => rfl
  | cons a l ih =>
    cases l with
    | nil => simp [joinNames]
    | cons b l => rw [joinNames, ih]; simp [List.intercalate]

theorem State.statusLine2_eq (s : State) : s.statusLine2 =
    if ∀ x ∈ eventNames, x.1 ∉ s.diag.latched then textOf "NONE"
    else List.intercalate [0x20#7] ((eventNames.filter fun x => x.1 ∈ s.diag.latched).map fun x => textOf x.2) := by
  have hnone : allEvents.filter s.diag.latched.contains = [] ↔ ∀ x ∈ eventNames, x.1 ∉ s.diag.latched := by
    rw [List.filter_eq_nil_iff, ← eventNames_events]
    simp
  have hnames : (eventNames.filter fun x => x.1 ∈ s.diag.latched).map (fun x => textOf x.2) =
      (allEvents.filter s.diag.latched.contains).map Event.name := by
    rw [← eventNames_filter]
    simp only [List.contains_eq_mem]
  rw [hnames, State.statusLine2]
  split
  next h => rw [if_pos (hnone.1 h)]
  next h => rw [if_neg (fun hc => h (hnone.2 hc)), joinNames_eq]

theorem State.statusLine1_length (s : State) : s.statusLine1.length = 41 := by
  rw [State.statusLine1]
  rfl

theorem State.statusText_length {s : State} (hcodes : s.diag.codes.length = 17) :
    s.statusText.length = s.statusLine2.length + 76 := by
  simp only [State.statusText, List.length_append, State.statusLine1_length, State.statusLine3, List.length_map, hcodes,
    show s.statusLine4.length = 10 from rfl, show crLf.length = 2 from rfl]
  omega

theorem State.statusLine2_length_none {s : State} (h : s.diag.latched = []) : s.statusLine2.length = 4 := by
  rw [State.statusLine2, h]
  rfl

theorem State.statusLine2_length_all {s : State} (h : ∀ e, e ∈ s.diag.latched) : s.statusLine2.length = 176 := by
  have hall : allEvents.filter s.diag.latched.contains = allEvents := List.filter_eq_self.2 fun e _ => by simp [h e]
  rw [State.statusLine2, hall]
  rfl

/-- Settles O35. -/
theorem reportClearsWhatItCaptured : Obligations.ReportClearsWhatItCaptured := by
  refine ⟨fun s digit names hdigit hnames => ⟨?_, fun hcodes => ⟨fun h => ?_, fun h => ?_⟩⟩,
    fun s u hu => ⟨fun hw => ?_, fun hw => ?_⟩⟩
  · rw [hdigit, show names = eventNames from hnames, ← State.statusLine2_eq]
    have hmode : textOf (if s.answer.attend = .attended then "A" else "U") =
        [if s.answer.attend == .attended then codeOf 'A' else codeOf 'U'] := by
      cases s.answer.attend <;> rfl
    rw [hmode, List.map_congr_left (l := s.diag.codes) (g := ChanCode.letter) ?_]
    · simp only [State.statusText, State.statusLine1, State.statusLine3, State.statusLine4, fourDigits, threeDigits,
        twoDigits, digitCode, crLf, List.append_assoc, List.cons_append, List.nil_append]
    · intro c _
      cases c <;> rfl
  · rw [State.statusText_length hcodes, State.statusLine2_length_none h]
  · rw [State.statusText_length hcodes, State.statusLine2_length_all h]
  · obtain ⟨t, ht, he, -⟩ := u.writeGenerated_frame .status s.statusText
    have htake := State.takeStatus_of_written (s := s) (v := (u.writeGenerated .status s.statusText).1)
      (by rw [← show u = s.markSnapshot from hu]; exact Prod.ext rfl hw)
    generalize (u.writeGenerated .status s.statusText).1 = v at he htake ⊢
    have hdiag : v.diag = { s.diag with latched := v.diag.latched, again := v.diag.again } := by
      rw [he]
      exact (congrArg State.diag ht.frame).trans (by rw [hu])
    have hbells : v.bells = s.bells := by
      rw [he]
      exact (congrArg State.bells ht.frame).trans (by rw [hu])
    rw [htake]
    refine ⟨fun e => Diag.clearReport_latched _ _ _ e, ?_, ?_, rfl, hbells, rfl, rfl, rfl⟩
    · show v.diag.errorTotal - s.diag.errorTotal = 0
      rw [hdiag, Nat.sub_self]
    · show v.diag.findings.map _ = _
      rw [hdiag]
      refine List.map_congr_left fun f _ => ?_
      cases f with
      | none => rfl
      | some f => cases f <;> rfl
  · obtain ⟨t, ht, -, he⟩ := u.writeGenerated_frame .status s.statusText
    have htake := State.takeStatus_of_refused (s := s) (v := (u.writeGenerated .status s.statusText).1)
      (by rw [← show u = s.markSnapshot from hu]; exact Prod.ext rfl hw)
    rw [he hw] at htake ⊢
    have hbells : t.bells = s.bells := (congrArg State.bells ht.frame).trans (by rw [hu])
    obtain ⟨n, hn, -⟩ := ht.recs
    rw [htake]
    refine ⟨fun e h => ht.kept e (by rw [hu]; exact h), ?_, ?_, rfl, congrArg (· + 1) hbells, rfl, ⟨n, ?_⟩, ?_⟩
    · exact (congrArg (fun v => v.diag.errorTotal) ht.frame).trans (by rw [hu])
    · exact (congrArg (fun v => v.diag.codes) ht.frame).trans (by rw [hu])
    · refine (congrArg State.store ht.frame).trans ?_
      rw [hn, hu]
    · rw [← hbells]

/-! ### LOCAL requests -/

/-- A LOCAL record opened where a descriptor is free (R139). -/
theorem State.localRequest_of_free {s : State} (hl : s.interp.localOpen = false) (hb : s.store.blockOpen = false)
    (h : s.store.recs.length < 24) (p : Press) (cs : List Code) : s.localRequest p cs = cs.foldl State.append
      { (s.openRecord .localTyping none).1 with interp := { s.interp with localOpen := true } } := by
  simp only [State.localRequest, hl, hb, State.openRecord_of_free h, Bool.false_eq_true, if_false, if_true]
  rfl

/-- Settles O36. -/
theorem localRequestIsTaken : Obligations.LocalRequestIsTaken := by
  refine ⟨fun s p cs hp hheld hb => ?_, fun s p cs => ⟨fun hl => ?_, fun hl hb => ?_, fun hl hb h => ?_,
    fun hl hb h => ⟨fun hr => ?_, fun hr => ?_⟩⟩⟩
  · have hexec : exec .heldEventRetry s =
        .next (State.settle (({ s with interp := { s.interp with held := none } } : State).localRequest p cs)) := by
      show execHeldEventRetry s = _
      rw [execHeldEventRetry, whenPowered_of_powered hp]
      simp only [hheld, hb, Bool.false_eq_true, if_false]
    exact ⟨_, hexec, State.settle_followUp _⟩
  · rw [State.localRequest, if_pos hl]
    rfl
  · rw [State.localRequest, if_neg (by simp [hl]), if_pos hb]
  · exact State.localRequest_of_free hl hb h p cs
  · simp only [State.localRequest, hl, hb, State.openRecord_of_full h hr, Bool.false_eq_true, if_false]
  · have hlt : s.releaseHead.store.recs.length < 24 := h ▸ (State.releaseHead_spaceSteps hr).2
    refine ⟨?_, by rw [State.openRecord_of_free hlt]⟩
    simp only [State.localRequest, hl, hb, State.openRecord_of_releasable h hr, State.openRecord_of_free hlt,
      Bool.false_eq_true, if_false, if_true]
    rfl

end Sys2Proof.Machine
end

section
/-! # The Key Sense Unit

Key states and baselines, a whole scan, press events, and what is done to a key held too long or sunk too far. -/
namespace Sys2Proof.Machine

/-! ### Positions -/

theorem isKeyPosition_iff (p : Nat) : isKeyPosition p = true ↔ p < 64 ∧ p ≠ 0 ∧ p ≠ 7 := by
  simp [isKeyPosition, and_assoc]

theorem isCharacterKey_lt {p : Nat} (h : isCharacterKey p = true) : p < 48 := by
  simp only [isCharacterKey, Bool.and_eq_true, decide_eq_true_eq] at h
  exact h.1

theorem keyAt_of_getElem? {l : List KeyRec} {p : Nat} {r : KeyRec} (h : l[p]? = some r) : keyAt l p = r := by
  simp [keyAt, h]

theorem keyAt_perPosition {f : Nat → KeyRec} {p : Nat} (h : p < 64) : keyAt (perPosition f) p = f p :=
  keyAt_of_getElem? (by simp [perPosition, h])

theorem halfFree_iff (l : List KeyRec) (left : Bool) : halfFree l left = true ↔
    ∀ q, q < 64 → isKeyPosition q = true → isLeft q = left → (keyAt l q).state = .idle := by
  simp only [halfFree, halfKeys, List.all_eq_true, List.mem_filter, List.mem_range, Bool.and_eq_true, beq_iff_eq]
  exact ⟨fun h q hq hk hl => h q ⟨hq, hk, hl⟩, fun h q ⟨hq, hk, hl⟩ => h q hq hk hl⟩

/-! ### The key state -/

section
variable {r : KeyRec} {now : Nat} {dc t release : Int}

theorem KeyRec.down_iff : r.down = true ↔ r.state = .pressed ∨ r.state = .leaving := by
  simp [KeyRec.down]

theorem KeyRec.stuckOver_iff : r.stuckOver now = true ↔ ∃ i, r.stuckSince = some i ∧ i + 24000 * 264 ≤ now := by
  cases h : r.stuckSince with
  | none => simp [KeyRec.stuckOver, h]
  | some i =>
    simp only [KeyRec.stuckOver, h, Option.some.injEq, exists_eq_left']
    exact decide_eq_true_iff

theorem KeyRec.takeState_idle (h : r.state = .idle) : r.takeState now dc t release =
    if t ≤ dc then { r with state := .entering, debounce := 1 } else { r with debounce := 0 } := by
  simp only [KeyRec.takeState, h]

theorem KeyRec.takeState_entering (h : r.state = .entering) : r.takeState now dc t release =
    if t ≤ dc then if 2 ≤ r.debounce then r.press now else { r with debounce := r.debounce + 1 }
    else { r with state := .idle, debounce := 0 } := by
  simp only [KeyRec.takeState, h]

theorem KeyRec.takeState_pressed (h : r.state = .pressed) : r.takeState now dc t release =
    if dc < release then { r with state := .leaving, debounce := 1 } else { r with debounce := 0 } := by
  simp only [KeyRec.takeState, h]
  by_cases hd : release ≤ dc
  · rw [if_pos hd, if_neg (by omega)]
  · rw [if_neg hd, if_pos (by omega)]

theorem KeyRec.takeState_leaving (h : r.state = .leaving) : r.takeState now dc t release =
    if dc < release then { r with state := .idle, debounce := 0, stuckSince := none }
    else { r with state := .pressed, debounce := 0 } := by
  simp only [KeyRec.takeState, h]
  by_cases hd : release ≤ dc
  · rw [if_pos hd, if_neg (by omega)]
  · rw [if_neg hd, if_pos (by omega)]

/-- The state is taken of the corrected delta, whatever F stands in the record, and leaves the excursion count. -/
theorem KeyRec.takeState_setF (r : KeyRec) (f : Nat) : KeyRec.takeState { r with f := f } now dc t release =
      { r.takeState now dc t release with f := f } ∧
    (r.takeState now dc t release).excursion = r.excursion := by
  obtain h | h | h | h : r.state = .idle ∨ r.state = .entering ∨ r.state = .pressed ∨ r.state = .leaving := by
    cases r.state <;> simp
  · rw [KeyRec.takeState_idle h, KeyRec.takeState_idle (r := { r with f := f }) h]
    split <;> exact ⟨rfl, rfl⟩
  · rw [KeyRec.takeState_entering h, KeyRec.takeState_entering (r := { r with f := f }) h]
    split
    · split <;> exact ⟨rfl, rfl⟩
    · exact ⟨rfl, rfl⟩
  · rw [KeyRec.takeState_pressed h, KeyRec.takeState_pressed (r := { r with f := f }) h]
    split <;> exact ⟨rfl, rfl⟩
  · rw [KeyRec.takeState_leaving h, KeyRec.takeState_leaving (r := { r with f := f }) h]
    split <;> exact ⟨rfl, rfl⟩

/-- A key held too long is released by force (R112). -/
theorem KeyRec.sense_of_stuck (hdown : r.down = true) (hover : r.stuckOver now = true) (p f : Nat) (corr : Int) :
    r.sense now p f corr =
      { f := f, l16 := 16 * f, state := .idle, debounce := 0, excursion := 0, stuckSince := none } := by
  have hdown' : KeyRec.down { r with f := f } = true := hdown
  have hover' : KeyRec.stuckOver { r with f := f } now = true := hover
  rw [KeyRec.sense, if_pos (by rw [hdown', hover']; rfl)]
  rfl

/-- A key not held too long takes its state and its excursion count from the corrected delta (R106 to R111). -/
theorem KeyRec.sense_of_not_stuck (h : r.down = false ∨ r.stuckOver now = false) {p f : Nat} {corr dc : Int}
    (hdc : dc = max (-4095) (min 4095 ((f : Int) - (r.l16 / 16 : Nat) - corr))) {x : KeyRec}
    (hx : x = r.takeState now dc (pressThreshold p (r.l16 / 16)) (releaseThreshold p (r.l16 / 16))) :
    r.sense now p f corr = { x with
      f := f
      excursion := if x.state = .idle ∧ dc ≤ -(pressThreshold p (r.l16 / 16) : Int)
        then (if r.excursion < 8 then r.excursion + 1 else 8) else 0 } := by
  have hnot : ¬((KeyRec.down { r with f := f } && KeyRec.stuckOver { r with f := f } now) = true) := by
    have hsame : (KeyRec.down { r with f := f } && KeyRec.stuckOver { r with f := f } now) =
      (r.down && r.stuckOver now) := rfl
    rw [hsame]
    rcases h with h | h <;> simp [h]
  obtain ⟨hf, he⟩ := r.takeState_setF (now := now) (dc := dc) (t := (pressThreshold p (r.l16 / 16) : Int))
    (release := (releaseThreshold p (r.l16 / 16) : Int)) f
  rw [← hx] at hf he
  have hlevel : ∀ g, KeyRec.level { r with f := g } = r.l16 / 16 := fun _ => rfl
  have hcorrected : correctedDelta (delta f (r.l16 / 16)) corr = dc := hdc.symm
  rw [KeyRec.sense, if_neg hnot]
  dsimp only
  rw [hlevel, hcorrected, hf, KeyRec.takeExcursion]
  simp only [he, satSucc_eq, Bool.and_eq_true, beq_iff_eq, decide_eq_true_eq]

end

/-! ### Baselines -/

/-- A baseline moves within its range (R102, R105, R110). -/
theorem moveBaseline_eq {up down f l16 : Nat} (hf : f ≤ 4095) (hl : l16 ≤ 65520) : moveBaseline up down f l16 =
    if l16 ≤ 16 * f then l16 + (16 * f - l16) / up else l16 - (l16 - 16 * f) / down := by
  refine Nat.min_eq_right ?_
  have hup := Nat.div_le_self (16 * f - l16) up
  show _ ≤ 65520
  split
  · omega
  · exact Nat.le_trans (Nat.sub_le _ _) hl

theorem keyAt_bringForward {l : List KeyRec} {p : Nat} (h : p < 64) :
    keyAt (bringForward l) p = (keyAt l p).stage6 p (halfFree l (isLeft p)) := by
  refine (keyAt_perPosition h).trans ?_
  cases isLeft p <;> rfl

theorem KeyRec.stage6_reference (r : KeyRec) {p : Nat} (h : isKeyPosition p = false) (free : Bool) :
    r.stage6 p free = { r with l16 := moveBaseline 64 64 r.f r.l16 } := by
  simp [KeyRec.stage6, h]

/-- A key not IDLE, or in a half not free, keeps its baseline (R110). -/
theorem KeyRec.stage6_halted {r : KeyRec} {p : Nat} {free : Bool} (hp : isKeyPosition p = true)
    (h : r.state ≠ .idle ∨ free = false) : r.stage6 p free = r := by
  rcases h with h | h <;> simp [KeyRec.stage6, hp, h]

theorem KeyRec.stage6_free {r : KeyRec} {p : Nat} (hp : isKeyPosition p = true) (h : r.state = .idle) :
    r.stage6 p true = if r.excursion = 8 then r.reseed else { r with l16 := moveBaseline 64 8 r.f r.l16 } := by
  simp [KeyRec.stage6, hp, h]

/-- Settles O38. -/
theorem keyStatesAndBaselinesMove : Obligations.KeyStatesAndBaselinesMove := by
  refine ⟨fun r now => ⟨KeyRec.down_iff, KeyRec.stuckOver_iff⟩, isKeyPosition_iff, fun l p r h => keyAt_of_getElem? h,
    fun l p => ?_, fun r now dc t release => ⟨fun h => KeyRec.takeState_idle h, fun h hd => ?_, fun h hd hc => ?_,
      fun h hd hc => ?_, fun h => KeyRec.takeState_pressed h, fun h => KeyRec.takeState_leaving h⟩,
    fun l p r hp hr hf hl => ?_, fun r now p f corr dc h hdc x hx => KeyRec.sense_of_not_stuck h hdc hx,
    fun r now p f corr hdown hover => KeyRec.sense_of_stuck hdown hover p f corr⟩
  · have hleft : ∀ q, (isLeft q = isLeft p) ↔ (q % 8 < 4 ↔ p % 8 < 4) := fun q => by simp [isLeft]
    simp only [halfFree_iff, hleft]
  · rw [KeyRec.takeState_entering h, if_neg (by omega)]
  · rw [KeyRec.takeState_entering h, if_pos hd, if_neg (by omega), hc]
  · rw [KeyRec.takeState_entering h, if_pos hd, if_pos (by omega)]
    rfl
  · rw [keyAt_bringForward hp, ← hr]
    refine ⟨fun hk h => KeyRec.stage6_halted hk h, fun hk hidle hfree => ⟨fun he => ?_, fun he hle => ?_, fun he hlt => ?_⟩,
      fun h => ?_⟩
    · rw [hfree, KeyRec.stage6_free hk hidle, if_pos he]
      rfl
    · rw [hfree, KeyRec.stage6_free hk hidle, if_neg he, moveBaseline_eq hf hl, if_pos hle]
    · rw [hfree, KeyRec.stage6_free hk hidle, if_neg he, moveBaseline_eq hf hl, if_neg (by omega)]
    · have hk : isKeyPosition p = false := by rcases h with rfl | rfl <;> rfl
      rw [KeyRec.stage6_reference r hk, moveBaseline_eq hf hl]

/-! ### One record changed -/

theorem updateAt_eq_set {α : Type} (f : α → α) (p : Nat) (l : List α) (d : α) :
    updateAt f p l = l.set p (f (l.getD p d)) := by
  induction l generalizing p with
  | nil => cases p <;> rfl
  | cons a l ih =>
    cases p with
    | zero => rfl
    | succ p => exact congrArg (a :: ·) (ih p)

theorem State.onKey_eq (s : State) (p : Nat) (f : KeyRec → KeyRec) : s.onKey p f =
    { s with keys := { s.keys with recs := s.keys.recs.set p (f (keyAt s.keys.recs p)) } } := by
  rw [State.onKey, updateAt_eq_set f p _ KeyRec.reset]
  rfl

theorem keyAt_set {l : List KeyRec} {p : Nat} (h : p < l.length) (r : KeyRec) (q : Nat) :
    keyAt (l.set p r) q = if q = p then r else keyAt l q := by
  by_cases hq : q = p
  · subst hq
    simp [keyAt, h]
  · rw [if_neg hq, keyAt, keyAt, List.getD_eq_getElem?_getD, List.getD_eq_getElem?_getD, List.getElem?_set_ne (Ne.symm hq)]

/-- Settles O41. -/
theorem keyIsReseeded : Obligations.KeyIsReseeded := by
  refine fun s p hp hkey hlen => ⟨fun since hsince hdown => ?_, fun hidle hex hfree => ?_⟩
  · show execStuckKey p s = _
    rw [execStuckKey, whenPowered_of_powered hp]
    simp only [hsince]
    rw [if_pos (by rw [hkey, KeyRec.down_iff.2 hdown]; rfl), State.onKey_eq]
    rfl
  · show execExcursionReseed p s = _
    rw [execExcursionReseed, whenPowered_of_powered hp]
    dsimp only
    rw [if_pos (by simp [hkey, hidle, hex, hfree]), State.onKey_eq]
    rfl

/-! ### Press events -/

/-- A press event reported (R93, R96, R98): attend mode, attend timer and rest measure, and the station ACTIVE. -/
theorem State.reportPress_eq (s : State) (p : Press) : ∃ d q, s.reportPress p = { s with
    answer := { s.answer with
      attend := if p.position = 54 then s.answer.attend else .attended
      attendSince := s.now, rest := none, power := .active, dormancy := d }
    printer := q } := by
  unfold State.reportPress State.wake
  dsimp only
  by_cases h : s.answer.power = .active
  · refine ⟨s.answer.dormancy, s.printer, ?_⟩
    rw [if_pos (by simpa using h), ← h]
  · rw [if_neg (by simpa using h)]
    exact ⟨none, _, rfl⟩

/-- A press event joins the queue, or is lost with KEY OVERRUN (R115). -/
theorem State.queuePress_eq (s : State) (p : Press) : s.queuePress p = if s.interp.queue.length < 16
    then { s with interp := { s.interp with queue := s.interp.queue ++ [p] } } else s.latch .keyOverrun := by
  unfold State.queuePress
  by_cases h : s.interp.queue.length < 16
  · rw [if_pos h, if_neg (by show ¬ 16 ≤ _; omega)]
  · rw [if_neg h, if_pos (by show 16 ≤ _; omega)]

/-- What press events made one after another leave: `t` is `s` after the events `l`. -/
structure Pressed (s : State) (l : List Press) (t : State) : Prop where
  frame : t = { s with
    answer := t.answer
    printer := t.printer
    interp := { s.interp with queue := t.interp.queue }
    diag := { s.diag with latched := t.diag.latched, again := t.diag.again } }
  answer : t.answer = { s.answer with
    attend := t.answer.attend, attendSince := t.answer.attendSince, rest := t.answer.rest
    power := t.answer.power, dormancy := t.answer.dormancy }
  queue : s.interp.queue.length ≤ 16 → t.interp.queue = (s.interp.queue ++ l).take 16
  latched : s.interp.queue.length ≤ 16 → ∀ e, e ∈ t.diag.latched ↔
    e ∈ s.diag.latched ∨ (e = .keyOverrun ∧ 16 < s.interp.queue.length + l.length)
  attend : t.answer.attend = if ∃ e ∈ l, e.position ≠ 54 then .attended else s.answer.attend
  attendSince : t.answer.attendSince = if l = [] then s.answer.attendSince else s.now
  active : l ≠ [] ∨ (s.answer.power = .active ∧ s.answer.rest = none) → t.answer.power = .active ∧ t.answer.rest = none

theorem Pressed.nil (s : State) : Pressed s [] s :=
  ⟨rfl, rfl, fun h => by rw [List.append_nil, List.take_of_length_le h], fun h e => by simp; omega, by simp, by simp,
    fun h => h.resolve_left fun hne => hne rfl⟩

/-- One press event. -/
theorem State.makePress_pressed (s : State) (p : Press) : Pressed s [p] (s.makePress p) := by
  obtain ⟨d, q, hr⟩ := s.reportPress_eq p
  rw [State.makePress, State.queuePress_eq, hr]
  by_cases hlen : s.interp.queue.length < 16
  · rw [if_pos hlen]
    refine ⟨rfl, rfl, fun _ => ?_, fun _ e => ?_, ?_, rfl, fun _ => ⟨rfl, rfl⟩⟩
    · exact (List.take_of_length_le (by simp; omega)).symm
    · simp; omega
    · simp only [List.mem_singleton, exists_eq_left, ite_not]
  · rw [if_neg hlen]
    refine ⟨rfl, rfl, fun h => ?_, fun h e => ?_, ?_, rfl, fun _ => ⟨rfl, rfl⟩⟩
    · have hfull : s.interp.queue.length = 16 := by omega
      exact (List.take_left' hfull).symm
    · rw [State.mem_latch]
      simp only [List.length_singleton, show 16 < s.interp.queue.length + 1 by omega, and_true]
      exact or_comm
    · simp only [List.mem_singleton, exists_eq_left, ite_not]
      rfl

theorem Pressed.trans {s t u : State} {l l' : List Press} (h : Pressed s l t) (k : Pressed t l' u) :
    Pressed s (l ++ l') u := by
  have hnow : t.now = s.now := (congrArg State.now h.frame :)
  have hqueue : s.interp.queue.length ≤ 16 → t.interp.queue.length = min 16 (s.interp.queue.length + l.length) :=
    fun hs => by rw [h.queue hs, List.length_take, List.length_append]
  constructor
  case frame =>
    have kf := k.frame
    generalize u.answer = a, u.printer = b, u.interp.queue = c, u.diag.latched = d, u.diag.again = e at kf ⊢
    rw [kf, h.frame]
  case answer =>
    have ka := k.answer
    generalize u.answer.attend = a, u.answer.attendSince = b, u.answer.rest = c, u.answer.power = d,
      u.answer.dormancy = e at ka ⊢
    rw [ka, h.answer]
  case queue =>
    intro hs
    rw [k.queue (by rw [hqueue hs]; omega), h.queue hs, ← List.append_assoc, List.take_append (l₁ := s.interp.queue ++ l),
      List.take_append (l₁ := List.take 16 (s.interp.queue ++ l)), List.take_take, Nat.min_self, List.length_take]
    congr 2
    omega
  case latched =>
    intro hs e
    rw [k.latched (by rw [hqueue hs]; omega), h.latched hs, hqueue hs, List.length_append, or_assoc]
    refine or_congr_right ?_
    rw [← and_or_left]
    refine and_congr_right fun _ => ?_
    omega
  case attend =>
    rw [k.attend, h.attend]
    by_cases h' : ∃ e ∈ l', e.position ≠ 54
    · rw [if_pos h', if_pos]
      obtain ⟨e, he, hp⟩ := h'
      exact ⟨e, List.mem_append_right l he, hp⟩
    · rw [if_neg h']
      refine ite_congr (propext ⟨fun ⟨e, he, hp⟩ => ⟨e, List.mem_append_left l' he, hp⟩, fun ⟨e, he, hp⟩ =>
        ⟨e, (List.mem_append.1 he).resolve_right fun he => h' ⟨e, he, hp⟩, hp⟩⟩) (fun _ => rfl) fun _ => rfl
  case attendSince =>
    rw [k.attendSince, h.attendSince, hnow]
    cases l <;> cases l' <;> simp
  case active =>
    intro hl
    refine k.active ?_
    by_cases hl' : l' = []
    · subst hl'
      rw [List.append_nil] at hl
      exact .inr (h.active hl)
    · exact .inl hl'

theorem State.makePresses_pressed (s : State) (l : List Press) : Pressed s l (l.foldl State.makePress s) := by
  induction l generalizing s with
  | nil => exact Pressed.nil s
  | cons p l ih => exact (s.makePress_pressed p).trans (ih _)

/-- After the follow-ups of a command an ACTIVE station whose rest measure was stopped has it running from now, if the
rest condition holds (R96). -/
theorem State.settle_rest {u : State} (hp : u.answer.power = .active) (hr : u.answer.rest = none) :
    u.settle.answer.power = .active ∧
      u.settle.answer.rest = if u.settle.restCondition = true then some u.settle.now else none := by
  obtain ⟨v, hv, he⟩ := u.settle_cases
  rcases u.wakeOnWork_cases with ⟨-, e⟩ | ⟨hne, -, -⟩
  · have hanswer : v.answer = u.answer := by rw [hv.answer, e]
    have hcondition : v.updateMeasures.restCondition = v.restCondition := rfl
    rw [he, hcondition]
    simp only [State.updateMeasures, hanswer, hp, hr, beq_self_eq_true, Bool.true_and, Option.getD_none, and_self]
  · exact absurd hp hne

theorem exec_pressEvent {s : State} {p : Nat} (hp : s.powered = true) (hkey : isKeyPosition p = true)
    (hstate : (keyAt s.keys.recs p).state = .entering) (hcount : (keyAt s.keys.recs p).debounce = 2) {w : State}
    (hw : w = { s with keys := { s.keys with recs := s.keys.recs.set p { keyAt s.keys.recs p with
      state := .pressed, debounce := 3, stuckSince := some s.now } } }) :
    exec (.pressEvent p) s = .next (w.makePress (pressOf w.keys.recs p false)).settle := by
  show execPressEvent p s = _
  rw [execPressEvent, whenPowered_of_powered hp]
  dsimp only
  rw [if_pos (by simp [hkey, hstate, hcount]), State.onKey_eq, hw]
  rfl

theorem exec_repeatEvent {s : State} {p since : Nat} (hp : s.powered = true) (hm : s.keys.repeatMeasure = some (p, since))
    (hkey : repeatKey s.keys.recs = some p) {w : State} (hw : w = { s.reach (since + 26400) with
      keys := { s.keys with repeatMeasure := some (p, max s.now (since + 26400)) } }) :
    exec .repeatEvent s = .next (w.makePress (pressOf w.keys.recs p true)).settle := by
  show execRepeatEvent s = _
  rw [execRepeatEvent, whenPowered_of_powered hp]
  simp only [hm]
  rw [if_pos (by simp [hkey]), hw]
  rfl

/-- The one character key PRESSED together with REPEAT (R114). -/
theorem repeatKey_iff (l : List KeyRec) (p : Nat) : repeatKey l = some p ↔ (keyAt l 62).state = .pressed ∧
    isCharacterKey p = true ∧ (keyAt l p).state = .pressed ∧
      ∀ q, isCharacterKey q = true → (keyAt l q).state = .pressed → q = p := by
  have hmem : ∀ q, q ∈ (List.range keyPositions).filter (fun p => isCharacterKey p && (keyAt l p).state == .pressed) ↔
      isCharacterKey q = true ∧ (keyAt l q).state = .pressed := fun q => by
    simp only [List.mem_filter, List.mem_range, Bool.and_eq_true, beq_iff_eq, and_iff_right_iff_imp]
    exact fun ⟨hc, _⟩ => Nat.lt_trans (isCharacterKey_lt hc) (by decide)
  have hnodup : ((List.range keyPositions).filter fun p => isCharacterKey p && (keyAt l p).state == .pressed).Nodup :=
    List.nodup_range.filter _
  unfold repeatKey
  by_cases hr : (keyAt l 62).state = .pressed
  · rw [if_pos (by simpa using hr)]
    generalize (List.range keyPositions).filter (fun p => isCharacterKey p && (keyAt l p).state == .pressed) = m at hmem hnodup
    have hone : m = [p] ↔ p ∈ m ∧ ∀ q ∈ m, q = p := by
      constructor
      · rintro rfl
        simp
      · rintro ⟨hp, hall⟩
        cases m with
        | nil => cases hp
        | cons a m =>
          obtain rfl := hall a (by simp)
          cases m with
          | nil => rfl
          | cons b m =>
            obtain rfl := hall b (by simp)
            simp at hnodup
    have hmatch : (match (generalizing := false) m with | [p] => some p | _ => none) = some p ↔ m = [p] := by
      split
      · simp
      · rename_i hne
        exact ⟨nofun, fun h => absurd h (hne p)⟩
    refine hmatch.trans (hone.trans ?_)
    rw [hmem]
    exact ⟨fun ⟨⟨hc, hs⟩, hall⟩ => ⟨hr, hc, hs, fun q hqc hqs => hall q ((hmem q).2 ⟨hqc, hqs⟩)⟩,
      fun ⟨_, hc, hs, hall⟩ => ⟨⟨hc, hs⟩, fun q hq => hall q ((hmem q).1 hq).1 ((hmem q).1 hq).2⟩⟩
  · rw [if_neg (by simpa using hr)]
    exact ⟨nofun, fun h => absurd h.1 hr⟩

/-- What a press event made by a command leaves once its follow-ups are over (R93, R96, R98, R115). -/
theorem State.makePress_settle (w : State) (e : Press) :
    FollowUp (w.makePress e) (w.makePress e).settle ∧
    (w.makePress e).settle.now = w.now ∧ (w.makePress e).settle.keys = w.keys ∧
    (w.makePress e).settle.answer.attend = (if e.position = 54 then w.answer.attend else .attended) ∧
    (w.makePress e).settle.answer.attendSince = w.now ∧ (w.makePress e).settle.answer.power = .active ∧
    (w.makePress e).settle.answer.rest =
      (if (w.makePress e).settle.restCondition = true then some w.now else none) ∧
    (w.interp.queue.length < 16 →
      (w.makePress e).settle.interp = { w.interp with queue := w.interp.queue ++ [e] }) ∧
    (16 ≤ w.interp.queue.length →
      (w.makePress e).settle.interp = w.interp ∧ Event.keyOverrun ∈ (w.makePress e).settle.diag.latched) := by
  have hf := (w.makePress e).settle_followUp
  have hpress := w.makePress_pressed e
  obtain ⟨hactive, hrest⟩ := hpress.active (.inl (by simp))
  obtain ⟨hpower, hrest⟩ := State.settle_rest hactive hrest
  have hnow : (w.makePress e).settle.now = w.now := hf.now.trans (congrArg State.now hpress.frame :)
  obtain ⟨d, q, hr⟩ := w.reportPress_eq e
  refine ⟨hf, hnow, hf.keys.trans (congrArg State.keys hpress.frame :), ?_, ?_, hpower, by rw [hrest, hnow], fun h => ?_,
    fun h => ⟨?_, ?_⟩⟩
  · rw [hf.attend, hpress.attend]
    simp only [List.mem_singleton, exists_eq_left, ite_not]
  · rw [hf.attendSince, hpress.attendSince]
    rfl
  · rw [hf.interp, State.makePress, State.queuePress_eq, hr, if_pos (by exact h)]
  · rw [hf.interp, State.makePress, State.queuePress_eq, hr, if_neg (by exact Nat.not_lt.2 h)]
    rfl
  · rw [hf.latched, State.makePress, State.queuePress_eq, hr, if_neg (by exact Nat.not_lt.2 h)]
    exact (State.mem_latch _ _ _).2 (.inl rfl)

/-- Settles O40. -/
theorem pressEventIsMade : Obligations.PressEventIsMade := by
  refine fun s p hp hlen => ⟨fun hkey hstate hcount => ?_, fun since hm hkey => ?_⟩
  · obtain ⟨w, hw⟩ : ∃ w : State, w = { s with keys := { s.keys with recs := s.keys.recs.set p { keyAt s.keys.recs p with
      state := .pressed, debounce := 3, stuckSince := some s.now } } } := ⟨_, rfl⟩
    have hlt : p < s.keys.recs.length := hlen ▸ ((isKeyPosition_iff p).1 hkey).1
    have hset : ∀ q, keyAt w.keys.recs q = if q = p then { keyAt s.keys.recs p with
        state := .pressed, debounce := 3, stuckSince := some s.now } else keyAt s.keys.recs q := fun q => by
      rw [hw]
      exact keyAt_set hlt _ q
    have hpress : pressOf w.keys.recs p false = {
        position := p, repeated := false
        shift := p = 56 ∨ (keyAt s.keys.recs 56).state = .pressed
        ctrl := p = 57 ∨ (keyAt s.keys.recs 57).state = .pressed } := by
      have hmark : ∀ q, ((keyAt w.keys.recs q).state == .pressed) =
          decide (p = q ∨ (keyAt s.keys.recs q).state = .pressed) := fun q => by
        rw [hset, Bool.eq_iff_iff, beq_iff_eq, decide_eq_true_eq]
        split
        next h => simp [h]
        next h => simp [Ne.symm h]
      simp only [pressOf, hmark]
    have hsettle := w.makePress_settle (pressOf w.keys.recs p false)
    refine ⟨_, exec_pressEvent hp hkey hstate hcount hw, ?_⟩
    rw [hpress] at hsettle ⊢
    obtain ⟨hf, -, hkeys, hattend, hsince, hpower, hrest, hqueue, hover⟩ := hsettle
    generalize State.settle _ = t at *
    rw [hkeys, hset, if_pos rfl]
    subst hw
    exact ⟨rfl, fun q hq => (hset q).trans (if_neg hq), hattend, hsince, hpower, hrest, hqueue, hover⟩
  · obtain ⟨w, hw⟩ : ∃ w : State, w = { s.reach (since + 26400) with
      keys := { s.keys with repeatMeasure := some (p, max s.now (since + 26400)) } } := ⟨_, rfl⟩
    have hsettle := w.makePress_settle (pressOf w.keys.recs p true)
    refine ⟨_, exec_repeatEvent hp hm hkey hw, ?_⟩
    have hpress : pressOf w.keys.recs p true = {
        position := p, repeated := true
        shift := (keyAt s.keys.recs 56).state = .pressed
        ctrl := (keyAt s.keys.recs 57).state = .pressed } := by
      rw [hw]
      rfl
    have hne : p ≠ 54 := by
      have := isCharacterKey_lt ((repeatKey_iff _ p).1 hkey).2.1
      omega
    rw [hpress] at hsettle ⊢
    obtain ⟨hf, hnow, hkeys, hattend, hsince, hpower, hrest, hqueue, hover⟩ := hsettle
    generalize State.settle _ = t at *
    rw [if_neg hne] at hattend
    subst hw
    exact ⟨hnow, hkeys.trans (by rw [hnow]; rfl), hattend, hsince.trans hnow.symm, hpower, by rw [hrest, hnow], hqueue, hover⟩

end Sys2Proof.Machine
end

section
/-! # A whole scan

Sensing, the repeat measure, the press events of a scan, and the seeding scans. -/
namespace Sys2Proof.Machine

/-! ### Sensing -/

/-- A scan senses each position with its own F and the correction of its half (R102, R104, R105, R106). -/
theorem keyAt_senseAll {l : List KeyRec} {now p : Nat} {counts : List Nat} {f : Nat → Nat} {corr : Nat → Int} (hp : p < 64)
    (hf : ∀ q, f q = ((keyAt l q).f + min (counts.getD q 0) 4095) / 2)
    (hcorr : ∀ q, corr q = (((f q : Int) - ((keyAt l q).l16 / 16 : Nat)) * 192).tdiv 256) :
    keyAt (senseAll l now counts) p =
      if isKeyPosition p then (keyAt l p).sense now p (f p) (if p % 8 < 4 then corr 0 else corr 7)
      else { keyAt l p with f := f p } := by
  have hfilter : ∀ q, filterCount (keyAt l q).f (counts.getD q 0) = f q := fun q => (hf q).symm
  have hcorrection : ∀ q, correction (delta (f q) (keyAt l q).level) = corr q := fun q => (hcorr q).symm
  rw [senseAll, keyAt_perPosition hp]
  simp only [hfilter, hcorrection, isLeft, decide_eq_true_eq]

/-! ### The repeat measure -/

theorem repeatDue_iff (measure : Option (Nat × Nat)) (now p : Nat) : repeatDue measure (some p) now = true ↔
    ∃ since, measure = some (p, since) ∧ since + 26400 ≤ now := by
  cases measure with
  | none => simp [repeatDue]
  | some m =>
    obtain ⟨k, since⟩ := m
    simp only [repeatDue, Bool.and_eq_true, beq_iff_eq, decide_eq_true_eq, Option.some.injEq, Prod.mk.injEq]
    exact ⟨fun ⟨hk, hle⟩ => ⟨since, ⟨hk, rfl⟩, hle⟩, fun ⟨_, ⟨hk, hs⟩, hle⟩ => ⟨hk, hs ▸ hle⟩⟩

/-- The measure goes on for its key until it fires (R114). -/
theorem nextRepeat_goesOn {measure : Option (Nat × Nat)} {now p since : Nat} (h : measure = some (p, since))
    (hlt : now < since + 26400) : nextRepeat measure (some p) now = some (p, since) := by
  subst h
  simp [nextRepeat, ms, hlt]

/-- It starts afresh for another key, or once it has fired (R114). -/
theorem nextRepeat_starts {measure : Option (Nat × Nat)} {now p : Nat}
    (h : ∀ since, measure = some (p, since) → since + 26400 ≤ now) : nextRepeat measure (some p) now = some (p, now) := by
  cases measure with
  | none => rfl
  | some m =>
    obtain ⟨k, since⟩ := m
    refine if_neg fun hc => ?_
    simp only [Bool.and_eq_true, beq_iff_eq, decide_eq_true_eq] at hc
    obtain ⟨rfl, hlt⟩ := hc
    exact absurd (h since rfl) (Nat.not_le.2 hlt)

/-! ### The press events of a scan -/

/-- The events of a scan at one position: the press, then the repeat. -/
def eventsAt (before after : List KeyRec) (repeating : Option Nat) (p : Nat) : List Press :=
  (if isKeyPosition p && (keyAt before p).state == .entering && (keyAt after p).state == .pressed then
    [pressOf after p false] else []) ++
  (if repeating == some p then [pressOf after p true] else [])

theorem scanEvents_eq (before after : List KeyRec) (repeating : Option Nat) :
    scanEvents before after repeating = (List.range 64).flatMap (eventsAt before after repeating) := rfl

theorem mem_eventsAt {before after : List KeyRec} {repeating : Option Nat} {p : Nat} {e : Press} :
    e ∈ eventsAt before after repeating p ↔
      (e = pressOf after p false ∧ isKeyPosition p = true ∧ (keyAt before p).state = .entering ∧
        (keyAt after p).state = .pressed) ∨ (e = pressOf after p true ∧ repeating = some p) := by
  simp only [eventsAt, List.mem_append, List.mem_ite_nil_right, List.mem_singleton, Bool.and_eq_true, beq_iff_eq]
  exact or_congr ⟨fun ⟨⟨⟨hk, hb⟩, ha⟩, he⟩ => ⟨he, hk, hb, ha⟩, fun ⟨he, hk, hb, ha⟩ => ⟨⟨⟨hk, hb⟩, ha⟩, he⟩⟩ and_comm

/-- An event is made for the press of its position or for its repeat (R113, R114). -/
theorem mem_eventsAt_position {before after : List KeyRec} {repeating : Option Nat} {p : Nat} {e : Press}
    (h : e ∈ eventsAt before after repeating p) : e.position = p := by
  rcases mem_eventsAt.1 h with ⟨rfl, -⟩ | ⟨rfl, -⟩ <;> rfl

theorem pressOf_eq_iff (after : List KeyRec) (e : Press) (repeated : Bool) : e = pressOf after e.position repeated ↔
    (e.shift = true ↔ (keyAt after 56).state = .pressed) ∧ (e.ctrl = true ↔ (keyAt after 57).state = .pressed) ∧
      e.repeated = repeated := by
  have hmark : ∀ (b : Bool) (q : Nat), b = ((keyAt after q).state == .pressed) ↔
      (b = true ↔ (keyAt after q).state = .pressed) := fun b q => by rw [Bool.eq_iff_iff, beq_iff_eq]
  obtain ⟨p, shift, ctrl, rep⟩ := e
  simp only [pressOf, Press.mk.injEq, true_and, hmark]

theorem mem_scanEvents {before after : List KeyRec} {repeating : Option Nat} (hr : ∀ p, repeating = some p → p < 64)
    (e : Press) : e ∈ scanEvents before after repeating ↔
      (e.shift = true ↔ (keyAt after 56).state = .pressed) ∧ (e.ctrl = true ↔ (keyAt after 57).state = .pressed) ∧
      (e.repeated = false → isKeyPosition e.position = true ∧ (keyAt before e.position).state = .entering ∧
        (keyAt after e.position).state = .pressed) ∧
      (e.repeated = true → repeating = some e.position) := by
  have hmem : e ∈ scanEvents before after repeating ↔ e.position < 64 ∧ e ∈ eventsAt before after repeating e.position := by
    rw [scanEvents_eq, List.mem_flatMap]
    constructor
    · rintro ⟨p, hp, he⟩
      rw [mem_eventsAt_position he]
      exact ⟨List.mem_range.1 hp, he⟩
    · exact fun ⟨hp, he⟩ => ⟨_, List.mem_range.2 hp, he⟩
  rw [hmem, mem_eventsAt, pressOf_eq_iff, pressOf_eq_iff]
  have hkey : isKeyPosition e.position = true → e.position < 64 := fun h => ((isKeyPosition_iff _).1 h).1
  have hrepeat := hr e.position
  cases e.repeated <;> simp <;> grind

/-- The events of a scan stand in order of position, a press before a repeat (R115). -/
theorem scanEvents_pairwise (before after : List KeyRec) (repeating : Option Nat) :
    (scanEvents before after repeating).Pairwise fun a b =>
      a.position < b.position ∨ (a.position = b.position ∧ a.repeated = false ∧ b.repeated = true) := by
  rw [scanEvents_eq, List.pairwise_flatMap]
  refine ⟨fun p _ => ?_, List.pairwise_lt_range.imp fun hlt a ha b hb => .inl ?_⟩
  · unfold eventsAt
    split <;> split <;> simp [pressOf]
  · rw [mem_eventsAt_position ha, mem_eventsAt_position hb]
    exact hlt

/-! ### What a scan does beside -/

theorem anyEntered_iff (before after : List KeyRec) : anyEntered before after = true ↔
    ∃ p, isKeyPosition p = true ∧ (keyAt before p).state = .idle ∧ (keyAt after p).state = .entering := by
  simp only [anyEntered, List.any_eq_true, List.mem_range, Bool.and_eq_true, beq_iff_eq]
  exact ⟨fun ⟨p, _, ⟨hk, hb⟩, ha⟩ => ⟨p, hk, hb, ha⟩, fun ⟨p, hk, hb, ha⟩ => ⟨p, ((isKeyPosition_iff p).1 hk).1, ⟨hk, hb⟩, ha⟩⟩

theorem anyForced_iff (before : List KeyRec) (now : Nat) : anyForced before now = true ↔
    ∃ p, isKeyPosition p = true ∧ (keyAt before p).down = true ∧ (keyAt before p).stuckOver now = true := by
  simp only [anyForced, List.any_eq_true, List.mem_range, Bool.and_eq_true]
  exact ⟨fun ⟨p, _, ⟨hk, hd⟩, ho⟩ => ⟨p, hk, hd, ho⟩, fun ⟨p, hk, hd, ho⟩ => ⟨p, ((isKeyPosition_iff p).1 hk).1, ⟨hk, hd⟩, ho⟩⟩

/-- The records and measures a scan leaves, and STUCK KEY where a key was released by force (R103, R112, R114). -/
def State.scanned (s : State) (counts : List Nat) : State :=
  let w := { s with keys := { s.keys with
    recs := bringForward (senseAll s.keys.recs s.now counts)
    repeatMeasure := nextRepeat s.keys.repeatMeasure (repeatKey (senseAll s.keys.recs s.now counts)) s.now
    lastScan := s.now } }
  if anyForced s.keys.recs s.now then w.latch .stuckKey else w

theorem State.scanned_frame (s : State) (counts : List Nat) : s.scanned counts = { s with
      keys := { s.keys with
        recs := bringForward (senseAll s.keys.recs s.now counts)
        repeatMeasure := nextRepeat s.keys.repeatMeasure (repeatKey (senseAll s.keys.recs s.now counts)) s.now
        lastScan := s.now }
      diag := { s.diag with latched := (s.scanned counts).diag.latched, again := (s.scanned counts).diag.again } } ∧
    ∀ e, e ∈ (s.scanned counts).diag.latched ↔
      e ∈ s.diag.latched ∨ (e = .stuckKey ∧ anyForced s.keys.recs s.now = true) := by
  unfold State.scanned
  dsimp only
  cases anyForced s.keys.recs s.now with
  | true => exact ⟨rfl, fun e => by rw [if_pos rfl, State.mem_latch, or_comm]; simp⟩
  | false => exact ⟨rfl, fun e => by simp⟩

theorem State.scan_eq (s : State) (counts : List Nat) {sensed : List KeyRec} {events : List Press}
    (hsensed : sensed = senseAll s.keys.recs s.now counts)
    (hevents : events = scanEvents s.keys.recs sensed
      (if repeatDue s.keys.repeatMeasure (repeatKey sensed) s.now then repeatKey sensed else none)) :
    s.scan counts =
      if anyEntered s.keys.recs sensed then ((events.foldl State.makePress (s.scanned counts)).stepGenerator 1).wake
      else (events.foldl State.makePress (s.scanned counts)).stepGenerator 1 := by
  rw [hevents, hsensed]
  rfl

/-- What a scan and its follow-ups leave: its events made, the generator stepped, and the station ACTIVE after a press
or a key entering ENTERING (R68, R93, R96, R118). -/
theorem State.scan_settle (s : State) (counts : List Nat) {sensed : List KeyRec} {events : List Press}
    (hsensed : sensed = senseAll s.keys.recs s.now counts)
    (hevents : events = scanEvents s.keys.recs sensed
      (if repeatDue s.keys.repeatMeasure (repeatKey sensed) s.now then repeatKey sensed else none)) :
    ∃ v, Pressed (s.scanned counts) events v ∧ FollowUp (v.stepGenerator 1) (s.scan counts).settle ∧
      (events ≠ [] → (s.scan counts).settle.answer.power = .active ∧ (s.scan counts).settle.answer.rest =
        if (s.scan counts).settle.restCondition = true then some (s.scan counts).settle.now else none) ∧
      (anyEntered s.keys.recs sensed = true → (s.scan counts).settle.answer.power = .active) := by
  have hpressed := (s.scanned counts).makePresses_pressed events
  have hscan := s.scan_eq counts hsensed hevents
  generalize events.foldl State.makePress (s.scanned counts) = v at hpressed hscan
  have hwake := (v.stepGenerator 1).wake_followUp
  refine ⟨v, hpressed, FollowUp.trans ?_ (State.settle_followUp _), fun hne => ?_, fun hentered => ?_⟩
  · rw [hscan]
    split
    · exact hwake
    · exact FollowUp.refl _
  · obtain ⟨hactive, hrest⟩ := hpressed.active (.inl hne)
    have hsame : s.scan counts = v.stepGenerator 1 := by
      have hwoken : (v.stepGenerator 1).wake = v.stepGenerator 1 := if_pos (by simpa using hactive)
      rw [hscan, hwoken, ite_self]
    rw [hsame]
    exact State.settle_rest hactive hrest
  · have hactive : (s.scan counts).answer.power = .active := by
      rw [hscan, if_pos hentered]
      exact State.wake_power _
    exact (State.settle_followUp _).power.elim (fun e => e.trans hactive) id

theorem exec_keyScan {s : State} {counts : List Nat} (hp : s.powered = true) (hlen : counts.length = 64)
    (hseed : s.keys.seeding = 16) : exec (.keyScan counts) s =
      .next ((s.reach (s.keys.lastScan + (match s.answer.power with
        | .active => 2640
        | .quiet => 7920
        | .dormant => 31680))).scan counts).settle := by
  have hperiod : scanPeriod s.answer.power = match s.answer.power with
      | .active => 2640
      | .quiet => 7920
      | .dormant => 31680 := by
    cases s.answer.power <;> rfl
  show execKeyScan counts s = _
  rw [execKeyScan, whenPowered_of_powered hp, ← hperiod]
  exact congrArg _ (if_pos (by simp [Instr.wellFormed, hlen, hseed]))

/-- A list that does not hold 64 counts is no scan (log 3). -/
theorem exec_scan_of_length_ne {s : State} {counts : List Nat} (h : counts.length ≠ 64) :
    exec (.keyScan counts) s = .next s ∧ exec (.seedingScan counts) s = .next s ∧ exec (.seeded counts) s = .next s := by
  have hnot : (counts.length == 64) = false := by simpa using h
  cases hp : s.powered with
  | false => exact ⟨exec_of_unpowered hp nofun, exec_of_unpowered hp nofun, exec_of_unpowered hp nofun⟩
  | true =>
    refine ⟨?_, ?_, ?_⟩
    · show execKeyScan counts s = _
      rw [execKeyScan, whenPowered_of_powered hp]
      exact congrArg _ (if_neg (by simp [Instr.wellFormed, hnot]))
    · show execSeedingScan counts s = _
      rw [execSeedingScan, whenPowered_of_powered hp]
      exact congrArg _ (if_neg (by simp [Instr.wellFormed, hnot]))
    · show execSeeded counts s = _
      rw [execSeeded, whenPowered_of_powered hp]
      exact congrArg _ (if_neg (by simp [Instr.wellFormed, hnot]))

/-- A seeding scan (R119). -/
theorem State.seedScan_eq (s : State) (counts : List Nat) : s.seedScan counts = { s with
    now := max s.now (s.keys.lastScan + 2640)
    sender := { s.sender with generator := generatorStep s.sender.generator }
    keys := { s.keys with
      recs := (List.range 64).map (fun p => { keyAt s.keys.recs p with
        f := if s.keys.seeding = 0 then min (counts.getD p 0) 4095
          else ((keyAt s.keys.recs p).f + min (counts.getD p 0) 4095) / 2 })
      seeding := s.keys.seeding + 1
      lastScan := max s.now (s.keys.lastScan + 2640) } } := rfl

theorem State.checkStarting_eq (s : State) : s.checkStarting =
    if s.diag.starting = true ∧ s.driversHeld = false ∧ s.keys.seeding = 16
    then { s with diag := { s.diag with starting := false } }.workAppears else s := by
  simp only [State.checkStarting, State.startingOver, Bool.and_eq_true, Bool.not_eq_true', beq_iff_eq, and_assoc]

/-- Settles O39. -/
theorem scansAreTaken : Obligations.ScansAreTaken := by
  refine ⟨fun l now p counts f corr hp hf hcorr => ⟨fun h => ?_, fun h0 h7 => ?_⟩, repeatKey_iff,
    fun measure now p => ⟨repeatDue_iff measure now p, ?_, rfl, fun since => nextRepeat_goesOn, nextRepeat_starts⟩,
    fun before after repeating hr => ⟨mem_scanEvents hr, scanEvents_pairwise before after repeating⟩,
    State.checkStarting_eq, fun counts s => exec_scan_of_length_ne,
    fun counts s at' sensed events hp hlen hseed hqueue hat hsensed hevents => ?_,
    fun counts s u hp hlen hu => ⟨fun hseed => ?_, fun hseed => ?_⟩⟩
  · rw [keyAt_senseAll hp hf hcorr, if_neg]
    rcases h with rfl | rfl <;> decide
  · rw [keyAt_senseAll hp hf hcorr, if_pos ((isKeyPosition_iff p).2 ⟨hp, h0, h7⟩)]
  · cases measure <;> rfl
  · refine ⟨_, exec_keyScan hp hlen hseed, ?_⟩
    generalize hs1 : s.reach (s.keys.lastScan + _) = s1
    have hnow : s1.now = at' := by rw [← hs1, hat]; rfl
    have hkeys : s1.keys = s.keys := by rw [← hs1]; rfl
    rw [← hnow, ← hkeys] at hsensed hevents
    obtain ⟨hframe, hlatched⟩ := s1.scanned_frame counts
    obtain ⟨v, hpressed, hf, hpress, hentered⟩ := s1.scan_settle counts hsensed hevents
    rw [← hsensed, hnow, hkeys] at hframe
    rw [hkeys] at hentered hlatched
    generalize State.settle _ = t at hf hpress hentered ⊢
    generalize hw : s1.scanned counts = w at hpressed hframe hlatched
    have hinterp : w.interp = s.interp := by rw [hframe, ← hs1]; rfl
    have hsender : w.sender = s.sender := by rw [hframe, ← hs1]; rfl
    have hanswer : w.answer = s.answer := by rw [hframe, ← hs1]; rfl
    have hstore : w.store = s.store := by rw [hframe, ← hs1]; rfl
    have hframe' := hpressed.frame
    have hwnow : w.now = at' := (congrArg State.now hframe :)
    have htnow : t.now = at' := hf.now.trans ((congrArg State.now hframe' :).trans hwnow)
    have htkeys : t.keys = w.keys := hf.keys.trans (congrArg State.keys hframe' :)
    have hwkeys : w.keys = { s.keys with
        recs := bringForward sensed
        repeatMeasure := nextRepeat s.keys.repeatMeasure (repeatKey sensed) at'
        lastScan := at' } := (congrArg State.keys hframe :)
    rw [htkeys, hwkeys]
    have hlen' : w.interp.queue.length ≤ 16 := by rw [hinterp]; exact hqueue
    refine ⟨htnow, rfl, rfl, rfl, ?_, ?_, fun e => ?_, ?_, ?_, fun hne => ?_, fun he => ?_, ?_, ?_, ?_, fun a => ?_⟩
    · rw [hf.interp]
      refine (congrArg State.interp hframe' :).trans ?_
      rw [hpressed.queue hlen', hinterp]
    · rw [hf.sender]
      have hvsender : v.sender = s.sender := (congrArg State.sender hframe' :).trans hsender
      show { v.sender with generator := generatorStep v.sender.generator } = _
      rw [hvsender]
    · rw [hf.latched]
      refine (hpressed.latched hlen' e).trans ?_
      rw [hlatched, hinterp, hnow, anyForced_iff, or_assoc, or_comm (a := e = .stuckKey ∧ _)]
      rw [← hs1]
      rfl
    · rw [hf.attend]
      exact hpressed.attend.trans (by rw [hanswer])
    · rw [hf.attendSince]
      exact hpressed.attendSince.trans (by rw [hanswer, hwnow])
    · rw [← htnow]
      exact hpress hne
    · exact hentered ((anyEntered_iff _ _).2 he)
    · exact hf.line.trans ((congrArg State.line hframe' :).trans (by rw [hframe, ← hs1]; rfl))
    · exact hf.recv.trans ((congrArg State.recv hframe' :).trans (by rw [hframe, ← hs1]; rfl))
    · exact hf.pacer.trans ((congrArg State.pacer hframe' :).trans (by rw [hframe, ← hs1]; rfl))
    · rw [hf.cells]
      have hvstore : v.store = s.store := (congrArg State.store hframe' :).trans hstore
      show Memory.read v.store.cells a = _
      rw [hvstore]
  · show execSeedingScan counts s = _
    rw [execSeedingScan, whenPowered_of_powered hp, hu]
    exact congrArg _ ((if_pos (by simp [Instr.wellFormed, hlen, hseed])).trans (State.seedScan_eq s counts))
  · refine ⟨_, ?_, State.settle_followUp _⟩
    show execSeeded counts s = _
    rw [execSeeded, whenPowered_of_powered hp, hu]
    exact congrArg _ (if_pos (by simp [Instr.wellFormed, hlen, hseed]))

end Sys2Proof.Machine
end

section
/-! # The parts of the follow-ups

What the magnet supply's grants, the test request, the printer's walk and the punch leave alone (log 5). -/
namespace Sys2Proof.Machine

/-! ### Grants -/

/-- What does not change of a sweep when its test is asked for or granted (R195). -/
def Sweep.place (w : Sweep) : SweepKind × Nat × List (Option TestFinding) := (w.kind, w.index, w.findings)

/-- `t` is `s` after requests at the supply, of no new row and no new character, and their grants (R162, R163): the
character and the row in hand stay, or fire. -/
structure Grants (s t : State) : Prop where
  frame : t = { s with
    arb := t.arb
    printer := { s.printer with hand := t.printer.hand }
    punch := { s.punch with row := t.punch.row }
    diag := { s.diag with sweep := t.diag.sweep, testing := t.diag.testing } }
  hand : t.printer.hand = s.printer.hand ∨
    t.printer.hand = s.printer.hand.map fun k => { k with stage := .firing }
  row : t.punch.row = s.punch.row ∨
    t.punch.row = s.punch.row.map fun r => { r with stage := .firing, since := s.now }
  sweep : t.diag.sweep.map Sweep.place = s.diag.sweep.map Sweep.place
  supplyLow : t.arb.supplyLow = s.arb.supplyLow
  testing : s.diag.testing ≠ none → s.arb.waitTest = false →
    t.diag.testing = s.diag.testing ∧ t.arb.waitTest = false

theorem Grants.refl (s : State) : Grants s s := ⟨rfl, .inl rfl, .inl rfl, rfl, rfl, fun _ h => ⟨rfl, h⟩⟩

theorem Grants.trans {s t u : State} (h : Grants s t) (k : Grants t u) : Grants s u where
  frame := by
    have kf := k.frame
    generalize u.arb = a, u.printer.hand = b, u.punch.row = c, u.diag.sweep = d, u.diag.testing = e at kf
    rw [kf, h.frame]
  hand := by
    rcases k.hand with e | e
    · rw [e]; exact h.hand
    · refine .inr ?_
      rw [e]
      rcases h.hand with e' | e' <;> simp [e', Function.comp_def]
  row := by
    have hnow : t.now = s.now := (congrArg State.now h.frame :)
    rcases k.row with e | e
    · rw [e]; exact h.row
    · refine .inr ?_
      rw [e, hnow]
      rcases h.row with e' | e' <;> simp [e', Function.comp_def]
  sweep := k.sweep.trans h.sweep
  supplyLow := k.supplyLow.trans h.supplyLow
  testing hn hw := by
    obtain ⟨htesting, hwait⟩ := h.testing hn hw
    obtain ⟨htesting', hwait'⟩ := k.testing (by rwa [htesting]) hwait
    exact ⟨htesting'.trans htesting, hwait'⟩

/-- Only requests and marks of the arbiter changed, none of them TEST's. -/
theorem Grants.setArb (s : State) {a : Arbiter} (hlow : a.supplyLow = s.arb.supplyLow)
    (hwait : s.arb.waitTest = false → a.waitTest = false) : Grants s { s with arb := a } :=
  ⟨rfl, .inl rfl, .inl rfl, rfl, hlow, fun _ h => ⟨rfl, hwait h⟩⟩

theorem State.grantIfFree_cases (s : State) : s.grantIfFree = s ∨
    ∃ p, s.arb.holder = none ∧ s.arb.supplyLow = false ∧ s.arb.choice = some p ∧ s.grantIfFree = s.giveGrant p := by
  unfold State.grantIfFree
  split
  · rename_i h
    simp only [Bool.and_eq_true, beq_iff_eq, Bool.not_eq_true'] at h
    cases hc : s.arb.choice with
    | none => exact .inl rfl
    | some p => exact .inr ⟨p, h.1, h.2, rfl, rfl⟩
  · exact .inl rfl

/-- TEST is chosen where it waits, and only there (R163). -/
theorem Arbiter.choice_test (a : Arbiter) : a.choice = some .test ↔ a.waitTest = true := by
  unfold Arbiter.choice
  repeat' split
  all_goals simp_all

theorem State.grantIfFree_grants (s : State) : Grants s s.grantIfFree := by
  rcases s.grantIfFree_cases with e | ⟨p, -, -, hp, e⟩ <;> rw [e]
  · exact Grants.refl s
  · cases p with
    | print => exact ⟨rfl, .inr rfl, .inl rfl, rfl, rfl, fun _ h => ⟨rfl, h⟩⟩
    | punch => exact ⟨rfl, .inl rfl, .inr rfl, rfl, rfl, fun _ h => ⟨rfl, h⟩⟩
    | test =>
      have hdiag : (s.giveGrant .test).diag = s.diag.granted := rfl
      refine ⟨?_, .inl rfl, .inl rfl, ?_, rfl, fun _ h => ?_⟩
      · rw [hdiag, ← s.diag.granted_frame]
        rfl
      · rw [hdiag, Diag.granted]
        split <;> simp_all [Sweep.place]
      · rw [(Arbiter.choice_test _).1 hp] at h
        cases h

theorem State.request_grants (s : State) {p : Party} (hp : p ≠ .test) : Grants s (s.request p) :=
  (Grants.setArb s (a := s.arb.setWait p true) (by cases p <;> rfl)
    (by cases p with | test => exact absurd rfl hp | _ => exact id)).trans (State.grantIfFree_grants _)

/-- The sweep's next test asked for, when it can be (R195, R197). -/
theorem State.testGo_cases (s : State) : s.testGo = s ∨
    ∃ w, s.diag.sweep = some w ∧ w.stage = .due ∧ s.diag.testing = none ∧ s.testGo =
      State.request { s with diag := { s.diag with sweep := some { w with stage := .waiting s.now } } } .test := by
  unfold State.testGo
  cases hw : s.diag.sweep with
  | none => exact .inl rfl
  | some w =>
    dsimp only
    split
    · rename_i h
      simp only [State.testReady, Bool.and_eq_true, beq_iff_eq] at h
      exact .inr ⟨w, rfl, h.1, h.2.1.1, rfl⟩
    · exact .inl rfl

theorem State.testGo_grants (s : State) : Grants s s.testGo := by
  rcases s.testGo_cases with e | ⟨w, hw, -, htesting, e⟩ <;> rw [e]
  · exact Grants.refl s
  · refine Grants.trans (t := { s with
      diag := { s.diag with sweep := some { w with stage := .waiting s.now } }, arb := s.arb.setWait .test true }) ?_
      (State.grantIfFree_grants _)
    exact ⟨rfl, .inl rfl, .inl rfl, by rw [hw]; rfl, rfl, fun h => absurd htesting h⟩

/-! ### The printer and the punch where they have nothing to do -/

theorem repeatWhile_of_none {f : State → Option State} {s : State} (h : f s = none) (n : Nat) : repeatWhile f n s = s := by
  cases n with
  | zero => rfl
  | succ n => rw [repeatWhile, h]

theorem repeatWhile_of_some {f : State → Option State} {s t : State} (h : f s = some t) (n : Nat) :
    repeatWhile f (n + 1) s = repeatWhile f n t := by
  rw [repeatWhile, h]

/-- A printer neither READY nor PRINTING does nothing (R143, R144). -/
theorem State.printerOnce_of_stopped {s : State} (h : s.printer.state ≠ .ready) (h' : s.printer.state ≠ .printing) :
    s.printerOnce = none := by
  unfold State.printerOnce
  cases hs : s.printer.state <;> simp_all

theorem State.printerRun_of_stopped {s : State} (h : s.printer.state ≠ .ready) (h' : s.printer.state ≠ .printing) :
    s.printerRun = s :=
  repeatWhile_of_none (State.printerOnce_of_stopped h h') _

/-- A row in hand: its advance begins when it is due and not held back (R180, R195). -/
theorem State.punchOnce_of_row {s : State} {r : Row} (h : s.punch.row = some r) : s.punchOnce =
    if r.stage = .advanceDue ∧ s.advanceBlocked = false
    then some { s with punch := { s.punch with row := some { r with stage := .advancing, since := s.now } } }
    else none := by
  simp only [State.punchOnce, h, Bool.and_eq_true, beq_iff_eq, Bool.not_eq_true']

theorem State.punchRun_of_row {s : State} {r : Row} (h : s.punch.row = some r) : s.punchRun =
    if r.stage = .advanceDue ∧ s.advanceBlocked = false
    then { s with punch := { s.punch with row := some { r with stage := .advancing, since := s.now } } }
    else s := by
  have honce := State.punchOnce_of_row h
  by_cases hc : r.stage = .advanceDue ∧ s.advanceBlocked = false
  · rw [if_pos hc] at honce ⊢
    refine (repeatWhile_of_some honce 7).trans (repeatWhile_of_none ?_ 7)
    rw [State.punchOnce_of_row rfl, if_neg (by simp)]
  · rw [if_neg hc] at honce ⊢
    exact repeatWhile_of_none honce _

/-- A punch without a row does nothing outside ACTIVE, while the drivers are held off, in TAPE OUT and in FAULT
(R178, R190, R198). -/
theorem State.punchOnce_of_held {s : State} (h : s.punch.row = none) (hheld : s.answer.power ≠ .active ∨
    s.driversHeld = true ∨ s.punch.state = .tapeOut ∨ s.punch.state = .fault) : s.punchOnce = none := by
  simp only [State.punchOnce, h]
  by_cases hc : (s.answer.power != .active || s.driversHeld) = true
  · rw [if_pos hc]
  · rw [if_neg hc]
    simp only [Bool.or_eq_true, bne_iff_ne, ne_eq, not_or, Decidable.not_not, Bool.not_eq_true] at hc
    obtain hp | hd | hs | hs := hheld
    · exact absurd hc.1 hp
    · rw [hc.2] at hd; cases hd
    · rw [hs]
    · rw [hs]

theorem State.punchRun_of_held {s : State} (h : s.punch.row = none) (hheld : s.answer.power ≠ .active ∨
    s.driversHeld = true ∨ s.punch.state = .tapeOut ∨ s.punch.state = .fault) : s.punchRun = s :=
  repeatWhile_of_none (State.punchOnce_of_held h hheld) _

end Sys2Proof.Machine
end

section
/-! # Identity, attend mode and power

The timers of the Answer Unit, the cycles of the identity memory, and the identity content. -/
namespace Sys2Proof.Machine

/-! ### Leaving ACTIVE -/

/-- A station outside ACTIVE, without work and with its printer stopped: the follow-ups of a command are a test asked
for, an advance begun, and the measures. -/
theorem State.settle_of_inactive {u : State} (hp : u.answer.power ≠ .active) (hw : ¬u.store.work)
    (hready : u.printer.state ≠ .ready) (hprinting : u.printer.state ≠ .printing) :
    ∃ v row, Grants u v ∧ u.settle = State.updateMeasures { v with punch := { v.punch with row := row } } ∧
      (row = v.punch.row ∨ ∃ r, v.punch.row = some r ∧ r.stage = .advanceDue ∧
        row = some { r with stage := .advancing, since := v.now }) := by
  have hwake : u.wakeOnWork = u := by
    rcases u.wakeOnWork_cases with ⟨-, e⟩ | ⟨-, hw', -⟩
    · exact e
    · exact absurd hw' hw
  have hgrants := u.testGo_grants
  have hsettle : u.settle = u.testGo.printerRun.punchRun.updateMeasures := by rw [State.settle, hwake]
  generalize u.testGo = v at hgrants hsettle
  have hstate : v.printer.state = u.printer.state := (congrArg (fun x => x.printer.state) hgrants.frame :)
  have hpower : v.answer.power = u.answer.power := (congrArg (fun x => x.answer.power) hgrants.frame :)
  rw [State.printerRun_of_stopped (by rw [hstate]; exact hready) (by rw [hstate]; exact hprinting)] at hsettle
  cases hr : v.punch.row with
  | none =>
    rw [State.punchRun_of_held hr (.inl (by rw [hpower]; exact hp))] at hsettle
    refine ⟨v, none, hgrants, hsettle.trans ?_, .inl hr.symm⟩
    rw [← hr]
  | some r =>
    rw [State.punchRun_of_row hr] at hsettle
    by_cases hc : r.stage = .advanceDue ∧ v.advanceBlocked = false
    · rw [if_pos hc] at hsettle
      exact ⟨v, _, hgrants, hsettle, .inr ⟨r, hr, hc.1, rfl⟩⟩
    · rw [if_neg hc] at hsettle
      refine ⟨v, some r, hgrants, hsettle.trans ?_, .inl hr.symm⟩
      rw [← hr]

/-- A row that waits for its grant is given up (R190). -/
theorem State.dropWaitingRow_frame (s : State) : ∃ arb row, s.dropWaitingRow =
    { s with arb := arb, punch := { s.punch with row := row } } ∧ ∀ r, row = some r → r.stage ≠ .waiting := by
  unfold State.dropWaitingRow
  split
  · rename_i h
    exact ⟨s.arb, none, by rw [← h], nofun⟩
  · rename_i r hr
    split
    · exact ⟨_, none, rfl, nofun⟩
    · rename_i hs
      exact ⟨s.arb, some r, by rw [← hr], fun r' hr' => by cases hr'; simpa using hs⟩

/-- Leaving ACTIVE: the motors off, the manual leader discarded, no row waiting (R96, R143, R190). -/
theorem State.leaveActive_frame (s : State) : ∃ arb row, s.leaveActive = { s with
      arb := arb
      punch := { s.punch with row := row, manual := 0 }
      answer := { s.answer with power := .quiet, rest := none, dormancy := none }
      printer := s.printer.leaveActive
      diag := { s.diag with idleSince := none } } ∧ ∀ r, row = some r → r.stage ≠ .waiting := by
  obtain ⟨arb, row, hdrop, hrow⟩ := s.dropWaitingRow_frame
  obtain ⟨arb', row', hdrop', hrow'⟩ := s.dropWaitingRow.dropWaitingRow_frame
  by_cases hm : s.dropWaitingRow.punch.manualRow = true
  · refine ⟨arb', row', ?_, hrow'⟩
    have hstop : s.dropWaitingRow.stopManual = { s with arb := arb', punch := { s.punch with row := row', manual := 0 } } := by
      rw [State.stopManual, if_pos hm, hdrop', hdrop]
    rw [State.leaveActive, hstop]
  · refine ⟨arb, row, ?_, hrow⟩
    have hstop : s.dropWaitingRow.stopManual = { s with arb := arb, punch := { s.punch with row := row, manual := 0 } } := by
      rw [State.stopManual, if_neg hm, hdrop]
    rw [State.leaveActive, hstop]

theorem Printer.leaveActive_state_eq (p : Printer) : p.leaveActive.state = match p.state with
    | .starting | .ready | .printing | .off => .off
    | .paperOut => .paperOut
    | .fault => .fault := by
  unfold Printer.leaveActive
  cases h : p.state <;> simp [h]

theorem State.restCondition_iff (s : State) : s.restCondition = true ↔ s.store.printWork = false ∧
    s.store.punchWork = false ∧ (∀ c ∈ s.interp.comps, c.state ≠ .openAddressing ∧ c.state ≠ .openText ∧ c.state ≠ .ready) ∧
    s.sender.state = .idle ∧ s.diag.starting = false := by
  simp only [State.restCondition, Bool.and_eq_true, Bool.not_eq_true', List.any_eq_false, beq_iff_eq, Comp.isOpen,
    Bool.or_eq_true, not_or, and_assoc, ne_eq]

/-! ### The measures at a reset -/

/-- While STARTING, with the measures of a reset, each measure is as its condition has it (R96, R97). -/
theorem State.MeasuresRun.of_starting {t : State} {m : IdMemory} (h : t.answer = { Answer.reset with memory := m })
    (hs : t.diag.starting = true) : t.MeasuresRun := by
  have hcondition : t.restCondition = false := by
    rw [Bool.eq_false_iff, ne_eq, State.restCondition_iff]
    rintro ⟨-, -, -, -, h⟩
    rw [hs] at h
    cases h
  refine ⟨?_, ?_, fun _ => ?_⟩
  · rw [hcondition, h]
    exact ⟨fun hn => absurd rfl hn, fun hc => absurd hc.2 (by decide)⟩
  · rw [h]
    exact ⟨fun hn => absurd rfl hn, fun hc => nomatch hc.1⟩
  · rw [h]
    rfl

/-- After a reset and in loss of power the station is STARTING, with no measure running and its printer neither READY nor
PRINTING. -/
structure State.Begun (t : State) : Prop where
  answer : ∃ m, t.answer = { Answer.reset with memory := m }
  starting : t.diag.starting = true
  idle : t.diag.idleSince = none
  notReady : t.printer.state ≠ .ready
  notPrinting : t.printer.state ≠ .printing

theorem State.powerOn_begun (s : State) (pins : Pins) : (s.powerOn pins).Begun := by
  obtain ⟨l, a, heq, -⟩ := resetFindings_eq (pins := pins) (b := resetCommon pins s) rfl rfl rfl rfl rfl rfl
  rw [State.powerOn, heq]
  refine ⟨⟨_, rfl⟩, rfl, rfl, ?_, ?_⟩
  · dsimp only
    split <;> decide
  · dsimp only
    split <;> decide

theorem State.restart_begun (s : State) (pins : Pins) : (s.restart pins).Begun := by
  obtain ⟨l, a, heq, -⟩ :=
    resetFindings_eq (pins := pins) (b := (s.restartBase pins).latch .restart) rfl rfl rfl rfl rfl rfl
  rw [show s.restart pins = _ from heq]
  refine ⟨⟨_, rfl⟩, rfl, rfl, ?_, ?_⟩
  · dsimp only
    split <;> decide
  · dsimp only
    split <;> decide

theorem State.powerOff_begun (s : State) : s.powerOff.Begun := ⟨⟨_, rfl⟩, rfl, rfl, nofun, nofun⟩

/-- A command is an operation with its follow-ups, or begins the station afresh. -/
theorem exec_done_or_begun {c : Instr} {s t : State} (h : exec c s = .next t) : Done c s t ∨ t.Begun := by
  rcases exec_cases h with h | ⟨pins, -, rfl⟩ | ⟨pins, -, rfl⟩ | ⟨-, rfl⟩
  · exact .inl h
  · exact .inr (s.powerOn_begun pins)
  · exact .inr (s.restart_begun pins)
  · exact .inr s.powerOff_begun

/-! ### The timers -/

theorem exec_restMeasureExpiry {s : State} {since : Nat} (hp : s.powered = true) (hr : s.answer.rest = some since)
    (ha : s.answer.power = .active) (hc : s.restCondition = true) :
    exec .restMeasureExpiry s = .next (s.reach (since + ms 30000)).leaveActive.settle := by
  show execRestMeasureExpiry s = _
  rw [execRestMeasureExpiry, whenPowered_of_powered hp]
  simp only [hr]
  rw [if_pos (by simp [ha, hc])]

theorem exec_dormancyMeasureExpiry {s : State} {since : Nat} (hp : s.powered = true) (hd : s.answer.dormancy = some since)
    (hq : s.answer.power = .quiet) (hu : s.answer.attend = .unattended) :
    exec .dormancyMeasureExpiry s = .next (State.settle { s.reach (since + ms 300000) with
      answer := { s.answer with power := .dormant, dormancy := none } }) := by
  show execDormancyMeasureExpiry s = _
  rw [execDormancyMeasureExpiry, whenPowered_of_powered hp]
  simp only [hd]
  rw [if_pos (by simp [hq, hu])]
  rfl

/-- A DORMANT station: its follow-ups wake it where the store indicates work, and leave it DORMANT otherwise (R97,
R98). -/
theorem State.settle_of_dormant {u : State} (hp : u.answer.power = .dormant) : u.settle.answer.dormancy = none ∧
    u.settle.answer.power = if u.store.printWork ∨ u.store.punchWork then .active else .dormant := by
  obtain ⟨v, hv, he⟩ := u.settle_cases
  rw [he]
  rcases u.wakeOnWork_cases with ⟨hn, e⟩ | ⟨-, hw, e⟩
  · have hanswer : v.answer = u.answer := by rw [hv.answer, e]
    have hno : ¬(u.store.printWork = true ∨ u.store.punchWork = true) := fun hw => hn ⟨by rw [hp]; decide, hw⟩
    rw [if_neg hno]
    exact ⟨by simp [State.updateMeasures, hanswer, hp], by rw [← hp, ← hanswer]; rfl⟩
  · have hanswer : v.answer.power = .active := by rw [hv.answer, e]; rfl
    rw [if_pos (show u.store.printWork = true ∨ u.store.punchWork = true from hw)]
    exact ⟨by simp [State.updateMeasures, hanswer], hanswer⟩

/-- Settles O42. -/
theorem attendAndPowerTimersExpire : Obligations.AttendAndPowerTimersExpire := by
  refine ⟨fun c s t hs h => ?_, fun c s t hs h => ?_, State.restCondition_iff, fun s hp => ⟨?_, fun since hr ha hc => ?_,
    fun since hd hq hu => ?_⟩⟩
  · rcases exec_done_or_begun h with h | ⟨⟨m, hm⟩, hstarting, -⟩
    · exact h.measuresRun hs
    · exact .of_starting hm hstarting
  · rcases exec_done_or_begun h with h | ⟨⟨m, hm⟩, -⟩
    · exact h.measures hs
    · rw [hm]
      exact ⟨nofun, nofun⟩
  · have hexec : exec .attendTimerExpiry s = .next (State.settle { s.reach (s.answer.attendSince + ms 600000) with
        answer := { s.answer with attend := .unattended } }) := by
      show execAttendTimerExpiry s = _
      rw [execAttendTimerExpiry, whenPowered_of_powered hp]
      rfl
    exact ⟨_, hexec, State.settle_followUp _⟩
  · refine ⟨_, exec_restMeasureExpiry hp hr ha hc, ?_⟩
    obtain ⟨arb, row, hleave, hrow⟩ := (s.reach (since + ms 30000)).leaveActive_frame
    generalize State.leaveActive _ = u at hleave ⊢
    have hstate : u.printer.state = s.printer.leaveActive.state := by rw [hleave]; rfl
    rw [Printer.leaveActive_state_eq] at hstate
    obtain ⟨v, row', hgrants, hsettle, hrow'⟩ := State.settle_of_inactive (u := u) (by rw [hleave]; exact nofun)
      (by rw [hleave]; exact State.not_work_of_restCondition hc) (by rw [hstate]; cases s.printer.state <;> decide)
      (by rw [hstate]; cases s.printer.state <;> decide)
    have hwaiting : ∀ r, v.punch.row = some r → r.stage ≠ .waiting := fun r hr => by
      have hu : u.punch.row = row := by rw [hleave]
      rcases hgrants.row with e | e <;> rw [e, hu] at hr
      · exact hrow r hr
      · obtain ⟨r', -, rfl⟩ := Option.map_eq_some_iff.1 hr
        exact nofun
    have hframe := hgrants.frame
    have hframe' : v = { s with
        now := max s.now (since + ms 30000)
        arb := v.arb
        printer := { s.printer.leaveActive with hand := v.printer.hand }
        punch := { s.punch with row := v.punch.row, manual := 0 }
        answer := { s.answer with power := .quiet, rest := none, dormancy := none }
        diag := { s.diag with idleSince := none, sweep := v.diag.sweep, testing := v.diag.testing } } := by
      generalize v.arb = a, v.printer.hand = b, v.punch.row = c, v.diag.sweep = d, v.diag.testing = e at hframe ⊢
      rw [hframe, hleave]
      rfl
    rw [hsettle]
    refine ⟨(congrArg State.now hframe' :), (congrArg (fun x => x.answer.power) hframe' :),
      (congrArg (fun x => x.answer.attend) hframe' :), (congrArg State.store hframe' :), (congrArg State.interp hframe' :),
      (congrArg State.sender hframe' :), (congrArg (fun x => x.diag.latched) hframe' :),
      (congrArg (fun x => x.punch.state) hframe' :), (congrArg (fun x => x.punch.manual) hframe' :), fun r hr => ?_,
      (congrArg (fun x => x.printer.state) hframe' :).trans s.printer.leaveActive_state_eq⟩
    have hr : row' = some r := hr
    rcases hrow' with e | ⟨r', -, -, e⟩
    · exact hwaiting r (e ▸ hr)
    · rw [e] at hr
      cases hr
      exact nofun
  · refine ⟨_, exec_dormancyMeasureExpiry hp hd hq hu, ?_⟩
    have hf := State.settle_followUp { s.reach (since + ms 300000) with
      answer := { s.answer with power := .dormant, dormancy := none } }
    obtain ⟨hdormancy, hpower⟩ := State.settle_of_dormant (u := { s.reach (since + ms 300000) with
      answer := { s.answer with power := .dormant, dormancy := none } }) rfl
    exact ⟨hf.now, hf.attend.trans hu, hdormancy, hpower⟩

/-! ### The cycles of the identity memory -/

theorem State.startAfterCycle_eq (s : State) (lastMark : Bool) : s.startAfterCycle lastMark =
    if s.sender.state = .deferring ∧ s.sender.spanReached = true ∧ s.line.condition = .quiet
    then s.orderStart lastMark else s := by
  simp only [State.startAfterCycle, Bool.and_eq_true, beq_iff_eq, and_assoc]

theorem IdMemory.writeStep_of_some (m : IdMemory) {text : List Code} {step : Nat} {c : Code} (h : text[step - 1]? = some c) :
    m.writeStep text step = { m with text := m.text.set (step - 1) c } := by
  simp only [IdMemory.writeStep, h]

theorem IdMemory.writeStep_last (m : IdMemory) (text : List Code) :
    m.writeStep text (text.length + 1) = { m with length := text.length, valid := true, openCycle := false } := by
  simp [IdMemory.writeStep]

section
variable {s : State} (hp : s.powered = true) (lastMark : Bool)
include hp

/-- A character written (R87). -/
theorem exec_writeCycleStep_char {text : List Code} {step since : Nat} {c : Code} (hc : s.answer.cycle = .write text step since)
    (hstep : 1 ≤ step) (h : text[step - 1]? = some c) :
    exec (.writeCycleStep lastMark) s = .next { s.reach (since + 5280) with
      answer := { s.answer with
        memory := { s.answer.memory with text := s.answer.memory.text.set (step - 1) c }
        cycle := .write text (step + 1) (max s.now (since + 5280)) } } := by
  have hle : step ≤ text.length := by
    have := (List.getElem?_eq_some_iff.1 h).1
    omega
  show execWriteCycleStep lastMark s = _
  rw [execWriteCycleStep, whenPowered_of_powered hp]
  simp only [hc, if_pos hle, IdMemory.writeStep_of_some _ h]
  rfl

/-- The length and the valid marker written, which ends the cycle (R71, R87). -/
theorem exec_writeCycleStep_last {text : List Code} {since : Nat} {u : State}
    (hc : s.answer.cycle = .write text (text.length + 1) since)
    (hu : u = { s.reach (since + 5280) with answer := { s.answer with
      memory := { s.answer.memory with length := text.length, valid := true, openCycle := false }, cycle := .idle } }) :
    exec (.writeCycleStep lastMark) s = .next (u.startAfterCycle lastMark).settle := by
  show execWriteCycleStep lastMark s = _
  rw [execWriteCycleStep, whenPowered_of_powered hp, hu]
  simp only [hc, if_neg (Nat.not_succ_le_self text.length), IdMemory.writeStep_last]
  rfl

theorem exec_lockCycleEnd {since : Nat} {u : State} (hc : s.answer.cycle = .lock since)
    (hu : u = { s.reach (since + 5280) with answer := { s.answer with
      memory := { s.answer.memory with lock := true, openCycle := false }, cycle := .idle } }) :
    exec (.lockCycleEnd lastMark) s = .next (u.startAfterCycle lastMark).settle := by
  show execLockCycleEnd lastMark s = _
  rw [execLockCycleEnd, whenPowered_of_powered hp, hu]
  simp only [hc]
  rfl

end

/-- CTRL+HERE opens an empty draft, or is refused (R85). -/
theorem State.openDraft_eq (s : State) : s.openDraft =
    if s.straps.setup = true ∧ s.answer.memory.lock = false ∧ s.answer.cycle = .idle ∧ s.answer.draft = none
    then { s with answer := { s.answer with draft := some [], writeLatch := true } } else s.bell := by
  simp only [State.openDraft, Bool.and_eq_true, Bool.not_eq_true', beq_iff_eq, Option.isNone_iff_eq_none, and_assoc]

/-- CTRL+LOCAL begins a lock cycle, or is refused (R88). -/
theorem State.lockIdentity_eq (s : State) : s.lockIdentity =
    if s.straps.setup = true ∧ s.answer.memory.lock = false ∧ s.answer.writeLatch = true ∧ s.answer.cycle = .idle ∧
      s.answer.memory.openCycle = false
    then { s with answer := { s.answer with
      draft := none, writeLatch := false, cycle := .lock s.now
      memory := { s.answer.memory with openCycle := true } } }
    else s.bell := by
  simp only [State.lockIdentity, Bool.and_eq_true, Bool.not_eq_true', beq_iff_eq, and_assoc]

/-- Settles O43. -/
theorem identityIsWrittenAndLocked : Obligations.IdentityIsWrittenAndLocked := by
  refine ⟨fun s lastMark hp => ⟨fun text step since c hc hstep h => exec_writeCycleStep_char hp lastMark hc hstep h,
    fun text since u hc hu => ⟨_, exec_writeCycleStep_last hp lastMark hc hu, ?_⟩,
    fun since u hc hu => ⟨_, exec_lockCycleEnd hp lastMark hc hu, ?_⟩⟩,
    fun s p rest h hctrl => ⟨fun hpos => ?_, fun hpos => ?_⟩⟩
  · have hf := (u.startAfterCycle lastMark).settle_followUp
    have hsender : u.sender = s.sender := by rw [hu]; rfl
    have hline : u.line = s.line := by rw [hu]; rfl
    rwa [State.startAfterCycle_eq, hsender, hline] at hf ⊢
  · have hf := (u.startAfterCycle lastMark).settle_followUp
    have hsender : u.sender = s.sender := by rw [hu]; rfl
    have hline : u.line = s.line := by rw [hu]; rfl
    rwa [State.startAfterCycle_eq, hsender, hline] at hf ⊢
  · have hsel : isCtrl posHere p = true := by simp [isCtrl, hpos, hctrl]
    show withFunctionKey s (isCtrl posHere) _ = _
    by_cases hd : s.answer.draft = none
    · rw [withFunctionKey_of_takes h hsel hd, State.openDraft_eq]
      rfl
    · rw [withFunctionKey_of_draft h hsel hd, if_neg fun hc => hd hc.2.2.2]
  · have hsel : isCtrl posLocal p = true := by simp [isCtrl, hpos, hctrl]
    show withKey s (isCtrl posLocal) _ = _
    rw [withKey_of_takes h hsel, State.lockIdentity_eq]
    rfl

/-! ### The identity content -/

/-- Settles O44. -/
theorem identityContentIsChosen : Obligations.IdentityContentIsChosen := by
  refine fun s => ⟨fun hvalid hopen hlength => ?_, fun h => ?_, rfl, ?_⟩
  · exact if_pos (by simp [IdMemory.readsValid, hvalid, hopen, hlength])
  · have hdefault : s.identityText = defaultIdentity s.straps.code := by
      refine if_neg ?_
      rcases h with h | h | h <;> simp [IdMemory.readsValid, h]
    rw [hdefault]
    have htens := digitCode_tens s.straps.code
    show [0x53#7, 0x54#7, 0x41#7, 0x54#7, 0x49#7, 0x4F#7, 0x4E#7, 0x20#7, digitCode (s.straps.code.toNat / 10),
      digitCode s.straps.code.toNat] = _
    rw [htens]
    rfl
  · simp only [State.statusChar, Store.full, Printer.unavailable, Bool.or_eq_true, decide_eq_true_eq, beq_iff_eq]
    rfl

end Sys2Proof.Machine
end

section
/-! # The keyboard

The characters of the keys, the compositions that they open, fill, send and cancel, and LOCAL mode. -/
namespace Sys2Proof.Machine

/-! ### The OPEN composition -/

theorem Comp.isOpen_iff (c : Comp) : c.isOpen = true ↔ c.state = .openAddressing ∨ c.state = .openText := by
  simp [Comp.isOpen]

theorem Comp.isOpen_eq_false_iff (c : Comp) : c.isOpen = false ↔ c.state ≠ .openAddressing ∧ c.state ≠ .openText := by
  simp [Comp.isOpen]

theorem Interp.openComp_eq_none_iff (i : Interp) :
    i.openComp = none ↔ ∀ x ∈ i.comps, x.state ≠ .openAddressing ∧ x.state ≠ .openText := by
  simp only [Interp.openComp, List.find?_eq_none, Bool.not_eq_true, Comp.isOpen_eq_false_iff]

theorem TextUnit.codes_length (u : TextUnit) : u.codes.length = match u with
    | .char _ => 1
    | .lineEnd => 2 := by
  cases u <;> rfl

/-- The OPEN composition edited, with the bell if the press is refused. -/
theorem State.editOpen_eq (s : State) (o : Comp) (f : Comp → Comp × Bool) : s.editOpen o f = { s with
    bells := s.bells + (if (f o).2 = true then 1 else 0)
    interp := s.interp.onOpen fun x => (f x).1 } := by
  unfold State.editOpen
  split <;> rfl

/-- A unit of text joins the OPEN composition where there is room for all of it (R125, R130). -/
theorem State.appendUnit_eq (s : State) (u : TextUnit) : s.appendUnit u =
    if s.interp.usedCells + u.codes.length ≤ 1024 then
      { s with interp := s.interp.onOpen fun x => { x with text := x.text ++ [u] } }
    else s.bell := by
  have hpos : 0 < u.codes.length := by cases u <;> exact Nat.zero_lt_succ _
  have hroom : u.codes.length ≤ s.interp.freeCells ↔ s.interp.usedCells + u.codes.length ≤ 1024 := by
    show _ ≤ 1024 - _ ↔ _
    omega
  simp only [State.appendUnit, hroom]

/-! ### Digits and keys -/

theorem digitOf_iff (c : Code) (d : Nat) : digitOf c = some d ↔ d ≤ 9 ∧ c = BitVec.ofNat 7 (0x30 + d) := by
  unfold digitOf
  split
  · rename_i h
    simp only [Bool.and_eq_true, decide_eq_true_eq] at h
    rw [Option.some_inj, ← BitVec.toNat_inj, BitVec.toNat_ofNat]
    omega
  · rename_i h
    simp only [Bool.and_eq_true, decide_eq_true_eq] at h
    refine ⟨nofun, fun ⟨hd, hc⟩ => absurd ?_ h⟩
    rw [hc, BitVec.toNat_ofNat]
    omega

theorem isCharacterKey_iff (p : Nat) : isCharacterKey p = true ↔ p < 48 ∧ p ≠ 0 ∧ p ≠ 7 := by
  simp only [isCharacterKey, Bool.and_eq_true, decide_eq_true_eq, isKeyPosition_iff]
  omega

/-- The place of a character key in the key position map, the reference pads left out (R121). -/
def keyPlace (p : Nat) : Nat := if p < 7 then p - 1 else p - 2

/-- A table of the positions 0 to 47 without the two reference pads, at the place of a key. -/
theorem getElem?_keyPlace {α : Type} (l : List α) {p : Nat} (h0 : p ≠ 0) (h7 : p ≠ 7) :
    ((l.eraseIdx 7).drop 1)[keyPlace p]? = l[p]? := by
  rw [List.getElem?_drop, List.getElem?_eraseIdx, keyPlace]
  by_cases h : p < 7
  · rw [if_pos h, if_pos (by omega), show 1 + (p - 1) = p by omega]
  · rw [if_neg h, if_neg (by omega), show 1 + (p - 2) + 1 = p by omega]

theorem plainKeys_eq : (plainKeys.eraseIdx 7).drop 1 = keysOnLines0To5.toList.map codeOf := by
  decide

theorem shiftKeys_eq : (shiftKeys.eraseIdx 7).drop 1 = keysOnLines0To5.toList.map fun key =>
    codeOf (((keysThatShift.toList.zip whatTheyShiftTo.toList).lookup key).getD key) := by
  decide

theorem keysOnLines0To5_G : keysOnLines0To5.toList.map (decide <| · = 'G') = (List.range 46).map (decide <| · = 28) := by
  decide

/-- The key map's line of one position (R121, R122). -/
theorem keyTables_agree {p : Nat} {key : Char} (h0 : p ≠ 0) (h7 : p ≠ 7)
    (h : keysOnLines0To5.toList[keyPlace p]? = some key) :
    (key = 'G' ↔ p = 30) ∧ plainKeys[p]? = some (codeOf key) ∧
    shiftKeys[p]? = some (codeOf (((keysThatShift.toList.zip whatTheyShiftTo.toList).lookup key).getD key)) := by
  refine ⟨?_, ?_, ?_⟩
  · have hg := congrArg (·[keyPlace p]?) keysOnLines0To5_G
    have hlt := (List.getElem?_eq_some_iff.1 h).1
    have hlen : keysOnLines0To5.toList.length = 46 := by decide
    simp only [List.getElem?_map, h, Option.map_some, List.getElem?_range (hlen ▸ hlt), Option.some_inj,
      decide_eq_decide] at hg
    rw [hg, keyPlace]
    split <;> omega
  · rw [← getElem?_keyPlace _ h0 h7, plainKeys_eq, List.getElem?_map, h, Option.map_some]
  · rw [← getElem?_keyPlace _ h0 h7, shiftKeys_eq, List.getElem?_map, h, Option.map_some]

section
variable {p : Press}

theorem Press.char_ctrl (h : p.ctrl = true) : p.char = if p.position = 30 then some 0x07#7 else none := by
  simp [Press.char, h]

theorem Press.char_plain (h : p.ctrl = false) (hs : p.shift = false) : p.char = plainKeys[p.position]? := by
  simp [Press.char, h, hs]

theorem Press.char_shift (h : p.ctrl = false) (hs : p.shift = true) : p.char = shiftKeys[p.position]? := by
  simp [Press.char, h, hs]

end

/-! ### Addressing -/

section
variable {o : Comp} {ch : Code} {l : List Station}

theorem Comp.address_all {d : Nat} (h : o.dests = .all) (hd : digitOf ch = some d) : o.address ch = (o, true) := by
  simp only [Comp.address, hd, h]

theorem Comp.address_first {d : Nat} (h : o.dests = .codes l) (hp : o.pendingDigit = none) (hd : digitOf ch = some d) :
    o.address ch = if l.length < 4 then ({ o with pendingDigit := some d }, false) else (o, true) := by
  simp only [Comp.address, hd, h, hp]

theorem Comp.address_second {a d : Nat} (h : o.dests = .codes l) (hp : o.pendingDigit = some a) (hd : digitOf ch = some d) :
    o.address ch = if 10 * a + d ≤ 31 ∧ BitVec.ofNat 5 (10 * a + d) ∉ l
      then ({ o with pendingDigit := none, dests := .codes (l ++ [BitVec.ofNat 5 (10 * a + d)]) }, false)
      else ({ o with pendingDigit := none }, true) := by
  have hcond : (decide (31 < 10 * a + d) || l.contains (BitVec.ofNat 5 (10 * a + d))) = true ↔
      ¬(10 * a + d ≤ 31 ∧ BitVec.ofNat 5 (10 * a + d) ∉ l) := by
    simp only [Bool.or_eq_true, decide_eq_true_eq, List.contains_eq_mem]
    rw [Classical.not_and_iff_not_or_not, Nat.not_le, Classical.not_not]
  simp only [Comp.address, hd, h, hp, hcond, ite_not]

theorem Comp.address_star : o.address chStar =
    if o.dests = .codes [] ∧ o.pendingDigit = none then ({ o with dests := .all }, false) else (o, true) := by
  have hd : digitOf chStar = none := rfl
  simp only [Comp.address, hd, decide_true, Bool.true_and, Bool.and_eq_true, beq_iff_eq, Option.isNone_iff_eq_none]

theorem Comp.address_other (hd : digitOf ch = none) (h : ch ≠ chStar) : o.address ch = (o, true) := by
  simp [Comp.address, hd, h]

end

/-! ### A character key -/

section
variable {s : State} {p : Press} {rest : List Press}

theorem exec_characterKey_draft (h : s.Takes p rest) (hk : isCharacterKey p.position = true) {d : List Code}
    (hd : s.answer.draft = some d) : exec .characterKey s = .next ((s.took rest).draftCharacter d p) := by
  show execCharacterKey s = _
  rw [execCharacterKey, withKey_of_takes h hk]
  exact congrArg _ (by dsimp only [State.took]; rw [hd])

theorem exec_characterKey_none (h : s.Takes p rest) (hk : isCharacterKey p.position = true)
    (hd : s.answer.draft = none) (hc : p.char = none) : exec .characterKey s = .next (s.took rest).bell := by
  show execCharacterKey s = _
  rw [execCharacterKey, withKey_of_takes h hk]
  exact congrArg _ (by dsimp only [State.took]; rw [hd, hc])

theorem exec_characterKey (h : s.Takes p rest) (hk : isCharacterKey p.position = true)
    (hd : s.answer.draft = none) {c : Code} (hc : p.char = some c) :
    exec .characterKey s = .next ((s.took rest).takeCharacterKey p c).settle := by
  show execCharacterKey s = _
  rw [execCharacterKey, withKey_of_takes h hk]
  exact congrArg _ (by dsimp only [State.took]; rw [hd, hc])

end

section
variable {s : State} {p : Press} {c : Code}

theorem State.draftCharacter_ctrl (h : p.ctrl = true) (d : List Code) : s.draftCharacter d p = s.bell := by
  unfold State.draftCharacter
  split
  · rw [if_pos h]
  · rfl

theorem State.draftCharacter_char (h : p.ctrl = false) (hc : p.char = some c) (d : List Code) : s.draftCharacter d p =
    if d.length < 20 then { s with answer := { s.answer with draft := some (d ++ [c]) } } else s.bell := by
  simp only [State.draftCharacter, hc, h, Bool.false_eq_true, if_false]

theorem State.takeCharacterKey_addressing {o : Comp} (ho : s.interp.openComp = some o) (h : o.state = .openAddressing) :
    s.takeCharacterKey p c = s.editOpen o fun x => x.address c := by
  simp [State.takeCharacterKey, ho, h]

theorem State.takeCharacterKey_text {o : Comp} (ho : s.interp.openComp = some o) (h : o.state = .openText) :
    s.takeCharacterKey p c = s.appendUnit (.char c) := by
  simp [State.takeCharacterKey, ho, h]

theorem State.takeCharacterKey_none (ho : s.interp.openComp = none) : s.takeCharacterKey p c =
    if s.interp.mode = .localMode then s.localRequest p [c] else s.bell := by
  simp [State.takeCharacterKey, ho]

end

/-- Settles O45. -/
theorem characterKeyIsTaken : Obligations.CharacterKeyIsTaken := by
  refine ⟨fun s l l' o hcomps ho hothers => ?_, fun i => ⟨i.openComp_eq_none_iff, ?_⟩, fun s => rfl, digitOf_iff, fun ch => rfl,
    fun s p rest h hk => ⟨fun d hd => ⟨fun hctrl => ?_, fun c hctrl hc => ?_⟩, fun hd => ⟨fun hc => ?_, fun c o hc ho hs => ?_,
      fun c o hc ho hs => ?_, fun c hc ho => ?_⟩⟩,
    fun o ch l => ⟨fun h d => Comp.address_all h, fun d => Comp.address_first, fun a d => Comp.address_second,
      Comp.address_star, Comp.address_other⟩, isCharacterKey_iff, fun p key hk hkey => ?_⟩
  · have hopen : o.isOpen = true := o.isOpen_iff.2 ho
    have hclosed : ∀ x ∈ l ++ l', x.isOpen = false := fun x hx => x.isOpen_eq_false_iff.2 (hothers x hx)
    have honOpen : ∀ g : Comp → Comp, s.interp.onOpen g = { s.interp with comps := l ++ g o :: l' } := fun g => by
      rw [Interp.onOpen, hcomps, map_ite_append_cons g hclosed hopen]
    refine ⟨?_, honOpen, fun f => ?_⟩
    · rw [Interp.openComp, hcomps, find?_append_cons l' (fun x hx => hclosed x (List.mem_append_left _ hx)) hopen]
    · rw [State.editOpen_eq, honOpen]
  · have hcells : ∀ c : Comp, c.cells = (c.text.map fun
        | .char _ => 1
        | .lineEnd => 2).sum := fun c => by
      rw [Comp.cells, Comp.codes, List.length_flatMap]
      exact congrArg List.sum (List.map_congr_left fun u _ => u.codes_length)
    exact congrArg List.sum (List.map_congr_left fun c _ => hcells c)
  · rw [exec_characterKey_draft h hk hd, State.draftCharacter_ctrl hctrl]
  · rw [exec_characterKey_draft h hk hd, State.draftCharacter_char hctrl hc]
    rfl
  · exact exec_characterKey_none h hk hd hc
  · refine ⟨_, exec_characterKey h hk hd hc, ?_⟩
    rw [State.takeCharacterKey_addressing (s := s.took rest) ho hs]
    exact State.settle_followUp _
  · refine ⟨_, exec_characterKey h hk hd hc, ?_⟩
    rw [State.takeCharacterKey_text (s := s.took rest) ho hs, State.appendUnit_eq]
    exact State.settle_followUp _
  · refine ⟨_, exec_characterKey h hk hd hc, ?_⟩
    rw [State.takeCharacterKey_none (s := s.took rest) ho]
    exact State.settle_followUp _
  · obtain ⟨-, h0, h7⟩ := (isCharacterKey_iff _).1 hk
    obtain ⟨hg, hplain, hshift⟩ := keyTables_agree h0 h7 hkey
    refine ⟨fun hctrl => ?_, fun hctrl hs => ?_, fun hctrl hs => ?_⟩
    · rw [Press.char_ctrl hctrl]
      exact ite_congr (propext hg.symm) (fun _ => rfl) fun _ => rfl
    · rw [Press.char_plain hctrl hs, hplain]
    · rw [Press.char_shift hctrl hs, hshift]

/-! ### RETURN and RUBOUT -/

theorem FollowUp.active {s t : State} (h : FollowUp s t) (hs : s.answer.power = .active) : t.answer.power = .active :=
  h.power.elim (·.trans hs) id

section
variable {s : State} {p : Press} {rest : List Press} (h : s.Takes p rest)
include h

theorem exec_returnKey_draft (hp : p.position = 58) {d : List Code} (hd : s.answer.draft = some d) :
    exec .returnKey s = .next ((s.took rest).commitDraft d) := by
  show execReturnKey s = _
  rw [execReturnKey, withKey_of_takes h (by simp [isAt, hp])]
  exact congrArg _ (by dsimp only [State.took]; rw [hd])

theorem exec_returnKey (hp : p.position = 58) (hd : s.answer.draft = none) :
    exec .returnKey s = .next ((s.took rest).takeReturn p).settle := by
  show execReturnKey s = _
  rw [execReturnKey, withKey_of_takes h (by simp [isAt, hp])]
  exact congrArg _ (by dsimp only [State.took]; rw [hd])

theorem exec_ruboutKey_draft (hp : p.position = 59) {d : List Code} (hd : s.answer.draft = some d) :
    exec .ruboutKey s = .next (if d = [] then (s.took rest).bell
      else { s.took rest with answer := { s.answer with draft := some d.dropLast } }) := by
  show execRuboutKey s = _
  rw [execRuboutKey, withKey_of_takes h (by simp [isAt, hp])]
  refine congrArg _ ?_
  dsimp only [State.took]
  rw [hd]
  cases d <;> rfl

theorem exec_ruboutKey_none (hp : p.position = 59) (hd : s.answer.draft = none) (ho : s.interp.openComp = none) :
    exec .ruboutKey s = .next (s.took rest).bell := by
  have ho' : (s.took rest).interp.openComp = none := ho
  show execRuboutKey s = _
  rw [execRuboutKey, withKey_of_takes h (by simp [isAt, hp])]
  exact congrArg _ (by dsimp only; rw [show (s.took rest).answer.draft = none from hd, ho'])

theorem exec_ruboutKey_open (hp : p.position = 59) (hd : s.answer.draft = none) {o : Comp}
    (ho : s.interp.openComp = some o) : exec .ruboutKey s = .next ((s.took rest).editOpen o Comp.rubout) := by
  have ho' : (s.took rest).interp.openComp = some o := ho
  show execRuboutKey s = _
  rw [execRuboutKey, withKey_of_takes h (by simp [isAt, hp])]
  exact congrArg _ (by dsimp only; rw [show (s.took rest).answer.draft = none from hd, ho'])

end

section
variable {s : State} {p : Press} {o : Comp}

theorem State.takeReturn_addressing (ho : s.interp.openComp = some o) (hs : o.state = .openAddressing) :
    s.takeReturn p = if o.dests ≠ .codes [] ∧ o.pendingDigit = none
      then { s with interp := s.interp.onOpen fun x => { x with state := .openText } } else s.bell := by
  simp only [State.takeReturn, ho, hs, Comp.complete, beq_self_eq_true, if_true, Bool.and_eq_true, bne_iff_ne,
    Option.isNone_iff_eq_none]

theorem State.takeReturn_text (ho : s.interp.openComp = some o) (hs : o.state = .openText) :
    s.takeReturn p = s.appendUnit .lineEnd := by
  simp [State.takeReturn, ho, hs]

theorem State.takeReturn_none (ho : s.interp.openComp = none) : s.takeReturn p =
    if s.interp.mode = .localMode then s.localRequest p [0x0D#7, 0x0A#7] else s.bell := by
  simp only [State.takeReturn, ho, beq_iff_eq]
  rfl

theorem Comp.rubout_text (h : o.state = .openText) :
    o.rubout = if o.text = [] then (o, true) else ({ o with text := o.text.dropLast }, false) := by
  simp [Comp.rubout, h]

theorem Comp.rubout_digit (h : o.state = .openAddressing) {d : Nat} (hd : o.pendingDigit = some d) :
    o.rubout = ({ o with pendingDigit := none }, false) := by
  simp [Comp.rubout, h, hd]

theorem Comp.rubout_dests (h : o.state = .openAddressing) (hd : o.pendingDigit = none) :
    o.rubout = match (generalizing := false) o.dests with
      | .all => ({ o with dests := .codes [] }, false)
      | .codes [] => (o, true)
      | .codes (d :: l) => ({ o with dests := .codes (d :: l).dropLast }, false) := by
  obtain ⟨_, _, dests, digit, _, _, state⟩ := o
  obtain rfl : digit = none := hd
  obtain rfl : state = .openAddressing := h
  match dests with
  | .all => rfl
  | .codes [] => rfl
  | .codes (_ :: _) => rfl

end

/-- Settles O46. -/
theorem returnAndRuboutAreTaken : Obligations.ReturnAndRuboutAreTaken := by
  refine fun s p rest h => ⟨fun hp => ⟨fun d hd => exec_returnKey_draft h hp hd, fun o hd ho hs => ?_, fun o hd ho hs => ?_,
      fun hd ho => ?_⟩,
    fun hp => ⟨fun d hd => exec_ruboutKey_draft h hp hd, exec_ruboutKey_none h hp, fun o hd ho => exec_ruboutKey_open h hp hd ho⟩,
    fun o => ⟨Comp.rubout_text, fun hs d hd => Comp.rubout_digit hs hd, Comp.rubout_dests⟩⟩
  · refine ⟨_, exec_returnKey h hp hd, ?_⟩
    rw [State.takeReturn_addressing (s := s.took rest) ho hs]
    exact State.settle_followUp _
  · refine ⟨_, exec_returnKey h hp hd, ?_⟩
    rw [State.takeReturn_text (s := s.took rest) ho hs, State.appendUnit_eq]
    exact State.settle_followUp _
  · refine ⟨_, exec_returnKey h hp hd, ?_⟩
    rw [State.takeReturn_none (s := s.took rest) ho]
    exact State.settle_followUp _

/-! ### Modes and new compositions -/

section
variable {s : State} {p : Press} {rest : List Press} (h : s.Takes p rest)
include h

theorem exec_modifierKey (hp : p.position = 56 ∨ p.position = 57 ∨ p.position = 62) :
    exec .modifierKey s = .next (if s.answer.draft ≠ none ∧ p.position = 62 then (s.took rest).bell else s.took rest) := by
  show execModifierKey s = _
  rw [execModifierKey, withKey_of_takes h (by simpa [isAt, or_assoc] using hp)]
  exact congrArg _ (ite_congr (by simp [State.took, isAt, Option.isSome_iff_ne_none]) (fun _ => rfl) fun _ => rfl)

theorem exec_callKey_refused (hp : p.position = 49)
    (hr : s.answer.draft ≠ none ∨ s.interp.openComp ≠ none ∨ 4 ≤ s.interp.comps.length) :
    exec .callKey s = .next (s.took rest).bell := by
  show execCallKey s = _
  by_cases hd : s.answer.draft = none
  · rw [execCallKey, withFunctionKey_of_takes h (by simp [isAt, hp]) hd]
    exact congrArg _ (if_pos (Bool.or_eq_true_iff.2
      ((hr.resolve_left (not_not_intro hd)).imp Option.isSome_iff_ne_none.2 fun hn => decide_eq_true hn)))
  · rw [execCallKey, withFunctionKey_of_draft h (by simp [isAt, hp]) hd]

theorem exec_callKey (hp : p.position = 49) (hd : s.answer.draft = none) (ho : s.interp.openComp = none)
    (hn : s.interp.comps.length < 4) : exec .callKey s =
      .next { s.took rest with interp := (s.took rest).interp.addComp .message (.codes []) .openAddressing }.settle := by
  have ho' : (s.took rest).interp.openComp = none := ho
  show execCallKey s = _
  rw [execCallKey, withFunctionKey_of_takes h (by simp [isAt, hp]) hd]
  refine congrArg _ (if_neg fun hc => ?_)
  obtain hc | hc := Bool.or_eq_true_iff.1 hc
  · rw [ho'] at hc
    cases hc
  · exact absurd (of_decide_eq_true hc) (Nat.not_le.2 hn)

theorem exec_hereKey_refused (hp : p.position = 52) (hc : p.ctrl = false)
    (hr : s.answer.draft ≠ none ∨ 4 ≤ s.interp.comps.length) : exec .hereKey s = .next (s.took rest).bell := by
  show execHereKey s = _
  by_cases hd : s.answer.draft = none
  · rw [execHereKey, withFunctionKey_of_takes h (by simp [isPlain, hp, hc]) hd]
    exact congrArg _ (if_pos (hr.resolve_left (not_not_intro hd)))
  · rw [execHereKey, withFunctionKey_of_draft h (by simp [isPlain, hp, hc]) hd]

theorem exec_hereKey (hp : p.position = 52) (hc : p.ctrl = false) (hd : s.answer.draft = none)
    (hn : s.interp.comps.length < 4) : exec .hereKey s =
      .next { s.took rest with interp := (s.took rest).interp.addComp .here .all .ready }.compReady.settle := by
  show execHereKey s = _
  rw [execHereKey, withFunctionKey_of_takes h (by simp [isPlain, hp, hc]) hd]
  exact congrArg _ (if_neg (Nat.not_le.2 hn))

theorem exec_attendKey (hp : p.position = 54) : exec .attendKey s = .next (State.settle { s.took rest with
    answer := { s.answer with attend := if s.answer.attend = .attended then .unattended else .attended } }) := by
  show execAttendKey s = _
  rw [execAttendKey, withKey_of_takes h (by simp [isAt, hp])]
  simp only [beq_iff_eq]
  rfl

theorem exec_localKey_draft (hp : p.position = 53) (hc : p.ctrl = false) (hd : s.answer.draft ≠ none) :
    exec .localKey s = .next (s.took rest).bell := by
  show execLocalKey s = _
  rw [execLocalKey, withFunctionKey_of_draft h (by simp [isPlain, hp, hc]) hd]

theorem exec_localKey_line (hp : p.position = 53) (hc : p.ctrl = false) (hd : s.answer.draft = none)
    (hm : s.interp.mode = .line) :
    exec .localKey s = .next { s.took rest with interp := { (s.took rest).interp with mode := .localMode } } := by
  have hm' : (s.took rest).interp.mode = .line := hm
  show execLocalKey s = _
  rw [execLocalKey, withFunctionKey_of_takes h (by simp [isPlain, hp, hc]) hd]
  exact congrArg _ (by rw [hm'])

theorem exec_localKey_local {u : State} (hp : p.position = 53) (hc : p.ctrl = false) (hd : s.answer.draft = none)
    (hm : s.interp.mode = .localMode)
    (hu : u = if s.interp.localOpen = true then (s.took rest).closeRecord .complete else s.took rest) :
    exec .localKey s = .next (State.settle { u with interp := { u.interp with mode := .line, localOpen := false } }) := by
  have hm' : (s.took rest).interp.mode = .localMode := hm
  show execLocalKey s = _
  rw [execLocalKey, withFunctionKey_of_takes h (by simp [isPlain, hp, hc]) hd, hu]
  exact congrArg _ (by rw [hm']; rfl)

end

/-- The Sender chooses by the line, its own items, the compositions and STARTING alone, which a wake leaves (R64, R98). -/
theorem State.chooseNext_enterActive (s : State) : s.enterActive.chooseNext.sender = s.chooseNext.sender := by
  unfold State.chooseNext
  have hsource : s.enterActive.chosenSource = s.chosenSource := rfl
  have hspan : ∀ src, (State.beginSpan { s.enterActive with sender := { s.sender with state := .deferring, source := src } }).sender =
      (State.beginSpan { s with sender := { s.sender with state := .deferring, source := src } }).sender := fun src => by
    unfold State.beginSpan
    by_cases hq : s.line.condition == .quiet
    · rw [if_pos (show (s.enterActive.line.condition == .quiet) = true from hq), if_pos hq]
      cases src <;> rfl
    · rw [if_neg (show ¬(s.enterActive.line.condition == .quiet) = true from hq), if_neg hq]
  by_cases hs : s.diag.starting = true
  · rw [if_pos (show s.enterActive.diag.starting = true from hs), if_pos hs]
    rfl
  · rw [if_neg (show ¬s.enterActive.diag.starting = true from hs), if_neg hs, hsource]
    cases s.chosenSource
    · rfl
    · exact hspan _
    · exact hspan _

theorem State.wake_of_active {s : State} (h : s.answer.power = .active) : s.wake = s := if_pos (by simpa using h)

theorem State.wake_of_not_active {s : State} (h : s.answer.power ≠ .active) : s.wake = s.enterActive :=
  if_neg (by simpa using h)

theorem State.wake_sender (s : State) : s.wake.sender = s.sender := by
  unfold State.wake
  split <;> rfl

theorem State.compReady_power (s : State) : s.compReady.answer.power = .active := by
  obtain ⟨r, hr, -⟩ := s.wake.workAppears_frame
  rw [State.compReady, hr]
  exact s.wake_power

theorem State.compReady_of_busy {s : State} (h : s.sender.state ≠ .idle) : s.compReady = s.wake :=
  State.workAppears_of_busy (by rwa [s.wake_sender])

theorem State.compReady_sender {s : State} (h : s.sender.state = .idle) : s.compReady.sender = s.chooseNext.sender := by
  unfold State.compReady State.workAppears
  rw [if_pos (by rw [s.wake_sender, h]; rfl)]
  unfold State.wake
  split
  · rfl
  · exact s.chooseNext_enterActive

/-- Settles O47. -/
theorem modeAndCompositionKeysAreTaken : Obligations.ModeAndCompositionKeysAreTaken := by
  refine fun s p rest h => ⟨exec_modifierKey h, fun hp => ⟨exec_callKey_refused h hp, fun hd ho hn =>
      ⟨_, exec_callKey h hp hd ho hn, State.settle_followUp _⟩⟩,
    fun hp hc => ⟨exec_hereKey_refused h hp hc, fun hd hn => ⟨_, exec_hereKey h hp hc hd hn, ?_, State.settle_followUp _⟩⟩,
    fun hp => ⟨_, exec_attendKey h hp, State.settle_followUp _⟩,
    fun hp hc => ⟨exec_localKey_draft h hp hc, exec_localKey_line h hp hc, fun u hd hm hu =>
      ⟨_, exec_localKey_local h hp hc hd hm hu, State.settle_followUp _⟩⟩⟩
  exact (State.settle_followUp _).active (State.compReady_power _)

/-! ### SEND and QUERY -/

section
variable {s : State} {p : Press} {rest : List Press} (h : s.Takes p rest)
include h

theorem exec_sendKey (hp : p.position = 50) (hd : s.answer.draft = none) :
    exec .sendKey s = .next (s.took rest).takeSend.settle := by
  show execSendKey s = _
  rw [execSendKey, withFunctionKey_of_takes h (by simp [isAt, hp]) hd]

theorem exec_sendKey_draft (hp : p.position = 50) (hd : s.answer.draft ≠ none) :
    exec .sendKey s = .next (s.took rest).bell := by
  show execSendKey s = _
  rw [execSendKey, withFunctionKey_of_draft h (by simp [isAt, hp]) hd]

theorem exec_queryKey (hp : p.position = 51) (hd : s.answer.draft = none) :
    exec .queryKey s = .next (s.took rest).takeQuery.settle := by
  show execQueryKey s = _
  rw [execQueryKey, withFunctionKey_of_takes h (by simp [isAt, hp]) hd]

theorem exec_queryKey_draft (hp : p.position = 51) (hd : s.answer.draft ≠ none) :
    exec .queryKey s = .next (s.took rest).bell := by
  show execQueryKey s = _
  rw [execQueryKey, withFunctionKey_of_draft h (by simp [isAt, hp]) hd]

end

section
variable {s : State} {o : Comp}

theorem State.takeSend_text (ho : s.interp.openComp = some o) (hs : o.state = .openText) :
    s.takeSend = { s with interp := s.interp.onOpen fun x => { x with state := .ready } }.compReady := by
  simp [State.takeSend, ho, hs]

theorem State.takeSend_held {l l' : List Comp} (ho : s.interp.openComp = none) (hc : s.interp.comps = l ++ o :: l')
    (hs : o.state = .held) (hl : ∀ x ∈ l, x.state ≠ .held) : s.takeSend =
      { s with interp := { s.interp with comps := l ++ { o with state := .ready } :: l' } }.compReady := by
  have hany : (s.interp.comps.any fun c => c.state == .held) = true := by simp [hc, hs]
  have hheld : s.interp.releaseHeld = { s.interp with comps := l ++ { o with state := .ready } :: l' } := by
    rw [Interp.releaseHeld, hc, updateFirst_append_cons _ _ (fun x hx => by simpa using hl x hx) (by simp [hs])]
  simp only [State.takeSend, ho, hany, hheld, if_true]

theorem State.takeSend_refused (ho : ∀ o, s.interp.openComp = some o → o.state = .openAddressing)
    (hh : s.interp.openComp = none → ∀ x ∈ s.interp.comps, x.state ≠ .held) : s.takeSend = s.bell := by
  unfold State.takeSend
  split
  next o h => exact if_neg (by simp [ho o h])
  next h => exact if_neg (by simpa using hh h)

theorem Dests.single_isSome_iff (d : Dests) : d.single.isSome = true ↔ ∃ x, d = .codes [x] := by
  match d with
  | .all => simp [Dests.single]
  | .codes [] => simp [Dests.single]
  | .codes [x] => simp [Dests.single]
  | .codes (_ :: _ :: _) => simp [Dests.single]

theorem State.takeQuery_of {d : Station} (ho : s.interp.openComp = some o) (hs : o.state = .openAddressing)
    (hd : o.dests = .codes [d]) (hp : o.pendingDigit = none) : s.takeQuery =
      { s with interp := s.interp.onOpen fun x => { x with kind := .query, state := .ready } }.compReady := by
  simp [State.takeQuery, ho, hs, hd, hp, Dests.single]

theorem State.takeQuery_refused (ho : ∀ o, s.interp.openComp = some o →
    o.state = .openText ∨ o.pendingDigit ≠ none ∨ ∀ d, o.dests ≠ .codes [d]) : s.takeQuery = s.bell := by
  unfold State.takeQuery
  split
  next o h =>
    refine if_neg fun hc => ?_
    simp only [Bool.and_eq_true, beq_iff_eq, Option.isNone_iff_eq_none, Dests.single_isSome_iff] at hc
    obtain ⟨⟨hs, d, hd⟩, hp⟩ := hc
    obtain ht | hn | hk := ho o h
    · exact nomatch hs.symm.trans ht
    · exact hn hp
    · exact hk d hd
  next => rfl

end

/-- Settles O48. -/
theorem sendAndQueryAreTaken : Obligations.SendAndQueryAreTaken := by
  refine ⟨fun s => ⟨s.compReady_power, fun h => ?_, State.compReady_sender, fun c d hi hs hr hm hc hd => ?_, fun h => ?_, fun h => ?_⟩,
    fun s p rest h => ⟨fun hp => ⟨exec_sendKey_draft h hp, fun o hd ho hs => ⟨_, exec_sendKey h hp hd, ?_⟩,
      fun l o l' hd ho hc hs hl => ⟨_, exec_sendKey h hp hd, ?_⟩, fun hd ho hh => ⟨_, exec_sendKey h hp hd, ?_⟩⟩,
    fun hp => ⟨exec_queryKey_draft h hp, fun o d hd ho hs hk hn => ⟨_, exec_queryKey h hp hd, ?_⟩,
      fun hd ho => ⟨_, exec_queryKey h hp hd, ?_⟩⟩⟩⟩
  · rw [State.compReady_of_busy h, s.wake_sender]
  · obtain ⟨hquiet, hbusy⟩ := State.chooseNext_comp hs hr hm hc
    rw [State.compReady_sender hi, hd]
    exact ⟨fun hq => congrArg State.sender (hquiet hq), fun hq => congrArg State.sender (hbusy hq)⟩
  · obtain ⟨r, hr, -⟩ := s.wake.workAppears_frame
    rw [State.compReady, hr, State.wake_of_active h]
  · obtain ⟨r, hr, -⟩ := s.wake.workAppears_frame
    rw [State.compReady, hr, State.wake_of_not_active h, State.enterActive]
    simp only [beq_iff_eq]
  · rw [State.takeSend_text (s := s.took rest) ho hs]
    exact ⟨(State.settle_followUp _).active (State.compReady_power _), State.settle_followUp _⟩
  · rw [State.takeSend_held (s := s.took rest) ho hc hs hl]
    exact ⟨(State.settle_followUp _).active (State.compReady_power _), State.settle_followUp _⟩
  · rw [State.takeSend_refused (s := s.took rest) ho hh]
    exact State.settle_followUp _
  · rw [State.takeQuery_of (s := s.took rest) ho hs hk hn]
    exact ⟨(State.settle_followUp _).active (State.compReady_power _), State.settle_followUp _⟩
  · rw [State.takeQuery_refused (s := s.took rest) ho]
    exact State.settle_followUp _

end Sys2Proof.Machine
end

section
/-! # CANCEL, BREAK and the keys that ask other blocks -/
namespace Sys2Proof.Machine

/-! ### CANCEL -/

section
variable {s : State} {p : Press} {rest : List Press} (h : s.Takes p rest)
include h

theorem exec_cancelKey_draft (hp : p.position = 63) (hd : s.answer.draft ≠ none) : exec .cancelKey s =
    .next { s.took rest with answer := { s.answer with draft := none, writeLatch := false } } := by
  show execCancelKey s = _
  rw [execCancelKey, withKey_of_takes h (by simp [isAt, hp])]
  exact congrArg _ (if_pos (Option.isSome_iff_ne_none.2 hd))

theorem exec_cancelKey_none (hp : p.position = 63) (hd : s.answer.draft = none) (hc : s.interp.comps = []) :
    exec .cancelKey s = .next (s.took rest).bell := by
  show execCancelKey s = _
  rw [execCancelKey, withKey_of_takes h (by simp [isAt, hp])]
  refine congrArg _ ((if_neg (by simp [State.took, hd])).trans ?_)
  dsimp only [State.took]
  rw [hc]
  rfl

theorem exec_cancelKey (hp : p.position = 63) (hd : s.answer.draft = none) {l : List Comp} {c : Comp}
    (hc : s.interp.comps = l ++ [c]) : exec .cancelKey s = .next ((s.took rest).takeCancel c).settle := by
  show execCancelKey s = _
  rw [execCancelKey, withKey_of_takes h (by simp [isAt, hp])]
  refine congrArg _ ((if_neg (by simp [State.took, hd])).trans ?_)
  dsimp only [State.took]
  rw [hc, List.getLast?_concat]

theorem exec_breakKey_refused (hp : p.position = 48) (hb : s.sender.state = .breaking) :
    exec .breakKey s = .next (s.took rest).bell := by
  show execBreakKey s = _
  rw [execBreakKey, withKey_of_takes h (by simp [isAt, hp])]
  exact congrArg _ (if_pos (beq_iff_eq.2 hb))

theorem exec_breakKey (hp : p.position = 48) (hb : s.sender.state ≠ .breaking) :
    exec .breakKey s = .next (s.took rest).takeBreak.settle := by
  show execBreakKey s = _
  rw [execBreakKey, withKey_of_takes h (by simp [isAt, hp])]
  exact congrArg _ (if_neg fun hc => hb (beq_iff_eq.1 hc))

end

theorem Interp.dropNewest_of_concat {i : Interp} {l : List Comp} {c : Comp} (h : i.comps = l ++ [c]) :
    i.dropNewest = { i with comps := l } := by
  rw [Interp.dropNewest, h, List.dropLast_concat]

/-- Withdrawing a source is the Sender's alone (R134). -/
theorem State.withdrawSource_interp (s : State) (n : Nat) : (s.withdrawSource n).interp = s.interp := by
  unfold State.withdrawSource
  split
  · split
    · obtain ⟨r, hr, -⟩ := s.chooseNext_frame
      rw [hr]
    · rfl
    · rfl
    · rfl
  · rfl

theorem State.workAppears_interp (s : State) : s.workAppears.interp = s.interp := by
  obtain ⟨r, hr, -⟩ := s.workAppears_frame
  rw [hr]

/-- CANCEL takes the newest composition away and leaves every other, whatever its state (R134). -/
theorem State.takeCancel_interp (s : State) (c : Comp) : (s.takeCancel c).interp = s.interp.dropNewest := by
  unfold State.takeCancel
  split
  · rfl
  · rfl
  · rfl
  · exact State.withdrawSource_interp _ _
  · rfl
  · exact State.workAppears_interp _

/-! ### BREAK -/

theorem State.takeBreak_of_not_sending {s : State} (h : s.sender.state ≠ .sending) : s.takeBreak = { s with
    line := { s.line with tx := .holding (s.now + s.charTimes 3) }
    sender := { s.sender with state := .breaking, span := none, spanReached := false } } := by
  unfold State.takeBreak
  rw [if_neg (by simpa using h)]
  rfl

theorem State.takeBreak_of_sending {s : State} (h : s.sender.state = .sending) : s.takeBreak = { s.cutBlock with
    line := { s.line with tx := .holding (s.now + s.charTimes 3) }
    sender := { s.cutBlock.sender with state := .breaking, span := none, spanReached := false } } := by
  unfold State.takeBreak
  rw [if_pos (by simpa using h)]
  rfl

/-- Settles O49. -/
theorem cancelAndBreakAreTaken : Obligations.CancelAndBreakAreTaken := by
  refine fun s p rest h => ⟨fun hp => ⟨exec_cancelKey_draft h hp, exec_cancelKey_none h hp, fun l c u hd hc hu =>
      ⟨_, exec_cancelKey h hp hd hc, ?_⟩⟩,
    fun hp => ⟨exec_breakKey_refused h hp, fun hb => ⟨_, exec_breakKey h hp hb, ?_⟩⟩⟩
  · have hdrop : (s.took rest).interp.dropNewest = u.interp := by
      rw [hu]
      exact Interp.dropNewest_of_concat (i := (s.took rest).interp) hc
    have hcancel : ({ s.took rest with interp := (s.took rest).interp.dropNewest } : State) = u := by
      rw [hdrop, hu]
    have hsender : u.sender = s.sender := by rw [hu]; rfl
    have hf := State.settle_followUp ((s.took rest).takeCancel c)
    refine ⟨?_, fun hs => ?_, fun hs => ?_, fun hs => ?_, fun hs => ?_⟩
    · rw [hf.interp, State.takeCancel_interp, hdrop, hu]
    all_goals
      unfold State.takeCancel at hf ⊢
      rw [hcancel] at hf ⊢
    · obtain hs | hs | hs := hs <;> rw [hs] at hf ⊢ <;> exact hf
    · rw [hs] at hf ⊢
      simp only [State.withdrawSource, hsender, beq_iff_eq] at hf ⊢
      exact hf
    · rw [hs] at hf ⊢
      simp only [hsender] at hf ⊢
      exact hf
    · rw [hs] at hf ⊢
      simp only [hsender] at hf ⊢
      exact hf
  · have hf := State.settle_followUp (s.took rest).takeBreak
    generalize State.settle _ = t at hf ⊢
    by_cases hs : s.sender.state = .sending
    · rw [State.takeBreak_of_sending (s := s.took rest) hs, State.cutBlock_eq] at hf
      refine ⟨hf.line, (congrArg Sender.state hf.sender :), (congrArg Sender.span hf.sender :), (congrArg Sender.watch hf.sender :),
        hf.draft, fun hn => absurd hs hn, fun _ => ⟨(congrArg Sender.source hf.sender :), (congrArg Interp.comps hf.interp :),
          (congrArg Sender.replies hf.sender :), (congrArg Sender.courtesy hf.sender :)⟩⟩
    · rw [State.takeBreak_of_not_sending (s := s.took rest) hs] at hf
      exact ⟨hf.line, (congrArg Sender.state hf.sender :), (congrArg Sender.span hf.sender :), (congrArg Sender.watch hf.sender :),
        hf.draft, fun _ => ⟨(congrArg Interp.comps hf.interp :), (congrArg Sender.replies hf.sender :),
          (congrArg Sender.courtesy hf.sender :), (congrArg Sender.source hf.sender :)⟩, fun hn => absurd hn hs⟩

end Sys2Proof.Machine
end

section
/-! # The magnet supply's choice -/
namespace Sys2Proof.Machine

/-- The request of a party waits (R161). -/
def Arbiter.waits (a : Arbiter) : Party → Bool
  | .print => a.waitPrint
  | .punch => a.waitPunch
  | .test => a.waitTest

theorem Arbiter.waits_of_choice {a : Arbiter} {p : Party} (h : a.choice = some p) : a.waits p = true := by
  unfold Arbiter.choice at h
  repeat' split at h
  all_goals cases h
  all_goals simp_all [Arbiter.waits]

theorem Arbiter.choice_of_test {a : Arbiter} (h : a.waitTest = true) : a.choice = some .test := by
  simp [Arbiter.choice, h]

theorem Arbiter.choice_of_print {a : Arbiter} (ht : a.waitTest = false) (h : a.waitPrint = true)
    (hp : a.waitPunch = false ∨ a.last = .punch) : a.choice = some .print := by
  obtain hp | hp := hp <;> simp [Arbiter.choice, ht, h, hp]

theorem Arbiter.choice_of_punch {a : Arbiter} (ht : a.waitTest = false) (h : a.waitPunch = true)
    (hp : a.waitPrint = false ∨ a.last = .print) : a.choice = some .punch := by
  obtain hp | hp := hp <;> simp [Arbiter.choice, ht, h, hp]

theorem Arbiter.choice_of_none {a : Arbiter} (ht : a.waitTest = false) (hprint : a.waitPrint = false)
    (hpunch : a.waitPunch = false) : a.choice = none := by
  simp [Arbiter.choice, ht, hprint, hpunch]

section
variable {s : State}

theorem State.grantIfFree_of_held (h : s.arb.holder ≠ none ∨ s.arb.supplyLow = true) : s.grantIfFree = s := by
  unfold State.grantIfFree
  refine if_neg fun hc => ?_
  simp only [Bool.and_eq_true, beq_iff_eq, Bool.not_eq_true'] at hc
  obtain h | h := h
  · exact h hc.1
  · rw [hc.2] at h
    cases h

theorem State.grantIfFree_of_choice (h : s.arb.holder = none) (hl : s.arb.supplyLow = false) {p : Party}
    (hp : s.arb.choice = some p) : s.grantIfFree = s.giveGrant p := by
  simp [State.grantIfFree, h, hl, hp]

theorem State.grantIfFree_of_none (h : s.arb.choice = none) : s.grantIfFree = s := by
  unfold State.grantIfFree
  rw [h]
  exact ite_self _

end

/-- Settles O53. -/
theorem supplyIsGrantedInTurn : Obligations.SupplyIsGrantedInTurn := by
  refine fun s => ⟨State.grantIfFree_of_held, fun h hl => ⟨fun ht => ?_, fun ht hw hp => ?_, fun ht hw hp => ?_,
    fun ht hprint hpunch => State.grantIfFree_of_none (Arbiter.choice_of_none ht hprint hpunch),
    fun ht => ⟨fun hw => ?_, fun w hw => ?_⟩, fun hh => ?_, fun hh => ?_⟩⟩
  · rw [State.grantIfFree_of_choice h hl (Arbiter.choice_of_test ht)]
    rfl
  · rw [State.grantIfFree_of_choice h hl (Arbiter.choice_of_print ht hw hp)]
    rfl
  · rw [State.grantIfFree_of_choice h hl (Arbiter.choice_of_punch ht hw hp)]
    rfl
  · rw [State.grantIfFree_of_choice h hl (Arbiter.choice_of_test ht)]
    have hdiag : s.diag.granted = s.diag := by rw [Diag.granted, hw]
    exact congrArg (fun d => { s with arb := s.arb.grant .test s.now, diag := d }) hdiag
  · rw [State.grantIfFree_of_choice h hl (Arbiter.choice_of_test ht)]
    have hdiag : s.diag.granted = { s.diag with
        sweep := some { w with stage := .granted }, testing := some { index := w.index, counts := true } } := by
      rw [Diag.granted, hw]
    exact congrArg (fun d => { s with arb := s.arb.grant .test s.now, diag := d }) hdiag
  all_goals
    obtain e | ⟨p, -, -, -, e⟩ := s.grantIfFree_cases
    · rw [e, h] at hh
      cases hh
    · rw [e] at hh ⊢
      obtain rfl : p = _ := Option.some.inj hh
      rfl

end Sys2Proof.Machine
end

section
/-! # The follow-ups, part by part

What the wake, the test request, the printer's walk and the punch leave of the supply, the printer and the punch. -/
namespace Sys2Proof.Machine

theorem repeatWhile_induct {f : State → Option State} {P : State → Prop} (hf : ∀ u v, f u = some v → P u → P v) (n : Nat)
    {s : State} (h : P s) : P (repeatWhile f n s) := by
  induction n generalizing s with
  | zero => exact h
  | succ n ih =>
    cases e : f s with
    | none => rw [repeatWhile_of_none e]; exact h
    | some t => rw [repeatWhile_of_some e]; exact ih (hf s t e h)

/-! ### The supply -/

/-- In one instant: what a grant under way, a supply held low, and a party that asks for nothing keep of the supply
(R162, R164), the holder's character and test among it. -/
structure Runs (s t : State) : Prop where
  now : t.now = s.now
  active : s.answer.power = .active → t.answer.power = .active ∧ t.printer.spunUp = s.printer.spunUp
  supplyLow : t.arb.supplyLow = s.arb.supplyLow
  held : s.arb.holder ≠ none →
    t.arb.holder = s.arb.holder ∧ t.arb.until' = s.arb.until' ∧ t.arb.last = s.arb.last
  low : s.arb.supplyLow = true → s.arb.holder = none → t.arb.holder = none
  print : s.arb.waitPrint = false → t.arb.waitPrint = false ∧
    (s.arb.holder ≠ some .print → t.arb.holder ≠ some .print) ∧
    (t.printer.hand = s.printer.hand ∨ ∃ k, s.printer.hand = some k ∧ k.stage = .stepDue ∧
      t.printer.hand = some { k with stage := .stepping })
  place : t.diag.sweep.map Sweep.place = s.diag.sweep.map Sweep.place
  testing : s.diag.testing ≠ none → s.arb.waitTest = false →
    t.diag.testing = s.diag.testing ∧ t.arb.waitTest = false

/-- What `Runs` reads. -/
def State.supplyView (s : State) :=
  (s.now, s.answer.power, s.printer.spunUp, s.arb, s.printer.hand, s.diag.sweep, s.diag.testing)

theorem Runs.same {s t : State} (h : t.supplyView = s.supplyView) : Runs s t := by
  simp only [State.supplyView, Prod.mk.injEq] at h
  obtain ⟨hnow, hpower, hspun, harb, hhand, hsweep, htesting⟩ := h
  exact ⟨hnow, fun h => ⟨hpower.trans h, hspun⟩, by rw [harb], fun _ => by rw [harb]; exact ⟨rfl, rfl, rfl⟩,
    fun _ h => by rw [harb]; exact h, fun h => by rw [harb]; exact ⟨h, id, .inl hhand⟩, by rw [hsweep],
    fun _ h => by rw [harb]; exact ⟨htesting, h⟩⟩

theorem Runs.refl (s : State) : Runs s s := .same rfl

theorem Runs.trans {s t u : State} (h : Runs s t) (k : Runs t u) : Runs s u where
  now := k.now.trans h.now
  active ha := ⟨(k.active (h.active ha).1).1, (k.active (h.active ha).1).2.trans (h.active ha).2⟩
  supplyLow := k.supplyLow.trans h.supplyLow
  held hh := by
    obtain ⟨hholder, huntil, hlast⟩ := h.held hh
    obtain ⟨kholder, kuntil, klast⟩ := k.held (by rwa [hholder])
    exact ⟨kholder.trans hholder, kuntil.trans huntil, klast.trans hlast⟩
  low hl hh := k.low (h.supplyLow.trans hl) (h.low hl hh)
  print hw := by
    obtain ⟨hwait, hholder, hhand⟩ := h.print hw
    obtain ⟨kwait, kholder, khand⟩ := k.print hwait
    refine ⟨kwait, kholder ∘ hholder, ?_⟩
    obtain e | ⟨x, hx, hstage, e⟩ := khand
    · rw [e]
      exact hhand
    · obtain e' | ⟨y, -, -, e'⟩ := hhand
      · exact .inr ⟨x, e' ▸ hx, hstage, e⟩
      · obtain rfl := Option.some.inj (e'.symm.trans hx)
        cases hstage
  place := k.place.trans h.place
  testing hn hw := by
    obtain ⟨htesting, hwait⟩ := h.testing hn hw
    obtain ⟨ktesting, kwait⟩ := k.testing (by rwa [htesting]) hwait
    exact ⟨ktesting.trans htesting, kwait⟩

theorem State.grantIfFree_runs (s : State) : Runs s s.grantIfFree := by
  have hg := s.grantIfFree_grants
  obtain e | ⟨p, hholder, hlow, hp, e⟩ := s.grantIfFree_cases
  · rw [e]
    exact Runs.refl s
  · refine ⟨(congrArg State.now hg.frame :), fun ha => ⟨((congrArg (fun x => x.answer.power) hg.frame :)).trans ha,
      (congrArg (fun x => x.printer.spunUp) hg.frame :)⟩, hg.supplyLow, fun hh => absurd hholder hh,
      fun hl => absurd (hl.symm.trans hlow) (by decide), fun hw => ?_, hg.sweep, hg.testing⟩
    have hwaits := Arbiter.waits_of_choice hp
    rw [e]
    cases p with
    | print => exact absurd (hwaits.symm.trans hw) (by decide)
    | punch => exact ⟨hw, nofun, .inl rfl⟩
    | test => exact ⟨hw, nofun, .inl rfl⟩

theorem Runs.punchRow {s t : State} (h : t.now = s.now) (hp : t.answer = s.answer) (hprinter : t.printer = s.printer)
    (harb : t.arb = s.arb.setWait .punch true) (hd : t.diag = s.diag) : Runs s t := by
  refine ⟨h, ?_, ?_, ?_, ?_, ?_, ?_, ?_⟩
  · rw [hp, hprinter]
    exact fun ha => ⟨ha, rfl⟩
  · rw [harb]; rfl
  · rw [harb]
    exact fun _ => ⟨rfl, rfl, rfl⟩
  · rw [harb]
    exact fun _ => id
  · rw [harb, hprinter]
    exact fun hw => ⟨hw, id, .inl rfl⟩
  · rw [hd]
  · rw [hd, harb]
    exact fun _ hw => ⟨rfl, hw⟩

/-- A row taken in hand asks for the supply (R180). -/
theorem State.takeRow_runs (s : State) (c : RowContent) : Runs s (s.takeRow c) :=
  Runs.trans (t := { s with
    punch := { s.punch with row := some { content := c, stage := .waiting, since := s.now } }
    arb := s.arb.setWait .punch true }) (.punchRow rfl rfl rfl rfl rfl) (State.grantIfFree_runs _)

theorem State.testGo_runs (s : State) : Runs s s.testGo := by
  obtain e | ⟨w, hw, -, htesting, e⟩ := s.testGo_cases
  · rw [e]
    exact Runs.refl s
  · rw [e]
    refine Runs.trans ?_ (State.grantIfFree_runs _)
    exact ⟨rfl, fun ha => ⟨ha, rfl⟩, rfl, fun _ => ⟨rfl, rfl, rfl⟩, fun _ => id, fun hw => ⟨hw, id, .inl rfl⟩,
      by rw [hw]; rfl, fun h => absurd htesting h⟩

theorem State.wakeOnWork_runs (s : State) : Runs s s.wakeOnWork := by
  obtain ⟨-, e⟩ | ⟨hn, -, e⟩ := s.wakeOnWork_cases
  · rw [e]
    exact Runs.refl s
  · rw [e]
    exact ⟨rfl, fun ha => absurd ha hn, rfl, fun _ => ⟨rfl, rfl, rfl⟩, fun _ => id, fun hw => ⟨hw, id, .inl rfl⟩,
      rfl, fun _ hw => ⟨rfl, hw⟩⟩

/-! ### The printer's walk -/

/-- A record without its print claim. -/
def Rec.unprinted (r : Rec) : Rec := { r with print := { pos := 0, done := false } }

/-- A record without its punch claim. -/
def Rec.unpunched (r : Rec) : Rec := { r with punch := none }

theorem find?_map_of_comp {α β : Type} {g : α → β} {p : α → Bool} {q : β → Bool} (h : ∀ a, q (g a) = p a) (l : List α) :
    (l.find? p).map g = (l.map g).find? q := by
  rw [List.find?_map, show q ∘ g = p from funext h]

/-- The current punch claim is read from what the print claims have no share in (R12). -/
theorem Store.punchCurrent_unprinted (st : Store) :
    st.punchCurrent.map Rec.unprinted = (st.recs.map Rec.unprinted).find? Rec.punchLive :=
  find?_map_of_comp (p := Rec.punchLive) (g := Rec.unprinted) (fun _ => rfl) st.recs

/-- The current print claim is read from what the punch claims have no share in (R12). -/
theorem Store.printCurrent_unpunched (st : Store) :
    st.printCurrent.map Rec.unpunched = (st.recs.map Rec.unpunched).find? fun r => !r.print.done :=
  find?_map_of_comp (p := fun r : Rec => !r.print.done) (g := Rec.unpunched) (fun _ => rfl) st.recs

theorem Store.onPrint_punchCurrent (st : Store) {f : Rec → Rec} (h : ∀ r : Rec, (f r).unprinted = r.unprinted) :
    (st.onPrint f).punchCurrent.map Rec.unprinted = st.punchCurrent.map Rec.unprinted := by
  rw [Store.punchCurrent_unprinted, Store.punchCurrent_unprinted]
  exact congrArg _ (map_updateFirst h _)

theorem Store.reclaim_punchCurrent (st : Store) : st.reclaim.punchCurrent = st.punchCurrent :=
  find?_dropWhile_of_not not_punchLive_of_reclaimable _

theorem Store.reclaim_printCurrent (st : Store) : st.reclaim.printCurrent = st.printCurrent :=
  find?_dropWhile_of_not printDone_of_reclaimable _

/-- `t` is `s` after steps of the printer's walk (R143, R145): bells, print claims, the printer's own progress and the
idle measure. -/
structure Walks (s t : State) : Prop where
  frame : t = { s with
    bells := t.bells
    store := { s.store with recs := t.store.recs }
    printer := { s.printer with
      state := t.printer.state, motion := t.printer.motion, selector := t.printer.selector, pair := t.printer.pair
      hand := t.printer.hand, phase := t.printer.phase, index := t.printer.index }
    diag := { s.diag with idleSince := t.diag.idleSince } }
  hand : t.printer.hand = s.printer.hand ∨ ∃ k, s.printer.hand = some k ∧ k.stage = .stepDue ∧
    t.printer.hand = some { k with stage := .stepping }
  current : t.store.punchCurrent.map Rec.unprinted = s.store.punchCurrent.map Rec.unprinted

theorem Walks.refl (s : State) : Walks s s := ⟨rfl, .inl rfl, rfl⟩

theorem Walks.trans {s t u : State} (h : Walks s t) (k : Walks t u) : Walks s u where
  frame := by
    have kf := k.frame
    generalize u.bells = a, u.store.recs = b, u.printer.state = c, u.printer.motion = d, u.printer.selector = e,
      u.printer.pair = f, u.printer.hand = g, u.printer.phase = i, u.printer.index = j, u.diag.idleSince = l at kf
    rw [kf, h.frame]
  hand := by
    obtain e | ⟨x, hx, hstage, e⟩ := k.hand
    · rw [e]
      exact h.hand
    · obtain e' | ⟨y, -, -, e'⟩ := h.hand
      · exact .inr ⟨x, e' ▸ hx, hstage, e⟩
      · obtain rfl := Option.some.inj (e'.symm.trans hx)
        cases hstage
  current := k.current.trans h.current

theorem Walks.runs {s t : State} (h : Walks s t) : Runs s t := by
  have hf := h.frame
  have harb : t.arb = s.arb := (congrArg State.arb hf :)
  have hanswer : t.answer = s.answer := (congrArg State.answer hf :)
  have hsweep : t.diag.sweep = s.diag.sweep := (congrArg (fun x => x.diag.sweep) hf :)
  have htesting : t.diag.testing = s.diag.testing := (congrArg (fun x => x.diag.testing) hf :)
  refine ⟨(congrArg State.now hf :), fun ha => ⟨by rwa [hanswer], (congrArg (fun x => x.printer.spunUp) hf :)⟩, by rw [harb],
    fun _ => by rw [harb]; exact ⟨rfl, rfl, rfl⟩, fun _ hh => by rwa [harb], fun hw => ?_, by rw [hsweep], fun _ hw => ?_⟩
  · rw [harb]
    exact ⟨hw, id, h.hand⟩
  · rw [harb]
    exact ⟨htesting, hw⟩

theorem State.finishPrint_walks (s : State) : Walks s s.finishPrint :=
  ⟨rfl, .inl rfl, by
    show (s.store.onPrint Rec.donePrint).reclaim.punchCurrent.map Rec.unprinted = _
    rw [Store.reclaim_punchCurrent, Store.onPrint_punchCurrent]
    exact fun _ => rfl⟩

theorem State.advancePrint_walks (s : State) : Walks s s.advancePrint :=
  ⟨rfl, .inl rfl, s.store.onPrint_punchCurrent fun _ => rfl⟩

theorem State.beginReturn_walks {s t : State} {c : MotionCause} (h : s.beginReturn c = some t) : Walks s t := by
  unfold State.beginReturn at h
  split at h <;> cases h
  exact ⟨rfl, .inl rfl, rfl⟩

theorem State.beginFeed_walks {s t : State} {c : MotionCause} (h : s.beginFeed c = some t) : Walks s t := by
  unfold State.beginFeed at h
  split at h <;> cases h
  exact ⟨rfl, .inl rfl, rfl⟩

theorem State.owePair_walks (s : State) : Walks s s.owePair := ⟨rfl, .inl rfl, rfl⟩

theorem State.enterPhase_walks (s : State) (p : Phase) : Walks s (s.enterPhase p) := ⟨rfl, .inl rfl, rfl⟩

theorem State.alignThen_walks {s t : State} (h : Walks s t) : Walks s (s.alignThen t) := by
  unfold State.alignThen
  split
  · exact h
  · exact s.owePair_walks

theorem State.awaitSlot_walks {s t : State} (h : s.awaitSlot = some t) : Walks s t := by
  unfold State.awaitSlot at h
  split at h <;> cases h
  exact s.owePair_walks

theorem State.takeCell_walks {s t : State} {c : Code} (h : s.takeCell c = some t) : Walks s t := by
  unfold State.takeCell at h
  split at h
  · exact State.awaitSlot_walks h
  · split at h
    · exact State.beginReturn_walks h
    · split at h
      · exact State.beginFeed_walks h
      · split at h <;> cases h
        · split
          · exact Walks.trans (t := s.bell) ⟨rfl, .inl rfl, rfl⟩ (State.advancePrint_walks _)
          · exact s.advancePrint_walks
        · exact s.advancePrint_walks

theorem State.phaseWork_walks {s t : State} {r : Rec} (h : s.phaseWork r = some t) : Walks s t := by
  unfold State.phaseWork at h
  split at h
  · cases h; exact s.enterPhase_walks _
  · cases h; exact State.alignThen_walks (s.enterPhase_walks _)
  · split at h
    · exact State.awaitSlot_walks h
    · cases h; exact s.enterPhase_walks _
  · split at h
    · exact State.takeCell_walks h
    · split at h <;> cases h
      exact s.enterPhase_walks _
  · cases h; exact State.alignThen_walks (s.enterPhase_walks _)
  · split at h
    · exact State.awaitSlot_walks h
    · cases h; exact s.finishPrint_walks.trans (State.enterPhase_walks _ _)

theorem State.printingWork_walks {s t : State} (h : s.printingWork = some t) : Walks s t := by
  unfold State.printingWork at h
  split at h
  · cases h
  · split at h
    · rename_i k hk
      split at h
      · rename_i hs
        unfold State.beginStep at h
        split at h <;> cases h
        exact ⟨rfl, .inr ⟨k, hk, by simpa using hs, rfl⟩, rfl⟩
      · cases h
    · split at h
      · exact State.beginReturn_walks h
      · split at h
        · exact State.beginReturn_walks h
        · exact State.beginFeed_walks h
        · split at h
          · exact State.beginFeed_walks h
          · split at h
            · cases h
            · exact State.phaseWork_walks h

theorem State.printerOnce_walks {s t : State} (h : s.printerOnce = some t) : Walks s t := by
  unfold State.printerOnce at h
  split at h
  · split at h <;> cases h
    exact ⟨rfl, .inl rfl, rfl⟩
  · split at h
    · exact State.printingWork_walks h
    · cases h
      exact ⟨rfl, .inl rfl, rfl⟩
  all_goals cases h

theorem State.printerRun_walks (s : State) : Walks s s.printerRun :=
  repeatWhile_induct (P := Walks s) (fun _ _ h k => k.trans (State.printerOnce_walks h)) _ (Walks.refl s)

/-! ### Up to the punch -/

/-- `t` is `s` as the punch finds it: its own items stand, no character or row has been granted the supply, and the current
claim has the same cells to punch (R12, R180). -/
structure Readies (s t : State) : Prop where
  runs : Runs s t
  punch : t.punch = s.punch
  waits : t.arb.waitPrint = s.arb.waitPrint ∧ t.arb.waitPunch = s.arb.waitPunch
  holder : t.arb.holder = s.arb.holder ∨ t.arb.holder = some .test
  hand : t.printer.hand = s.printer.hand ∨ ∃ k, s.printer.hand = some k ∧ k.stage = .stepDue ∧
    t.printer.hand = some { k with stage := .stepping }
  current : t.store.punchCurrent.map Rec.unprinted = s.store.punchCurrent.map Rec.unprinted

theorem Readies.trans {s t u : State} (h : Readies s t) (k : Readies t u) : Readies s u where
  runs := h.runs.trans k.runs
  punch := k.punch.trans h.punch
  waits := ⟨k.waits.1.trans h.waits.1, k.waits.2.trans h.waits.2⟩
  holder := k.holder.elim (fun e => e ▸ h.holder) .inr
  hand := by
    obtain e | ⟨x, hx, hstage, e⟩ := k.hand
    · rw [e]
      exact h.hand
    · obtain e' | ⟨y, -, -, e'⟩ := h.hand
      · exact .inr ⟨x, e' ▸ hx, hstage, e⟩
      · obtain rfl := Option.some.inj (e'.symm.trans hx)
        cases hstage
  current := k.current.trans h.current

theorem State.testGo_readies (s : State) : Readies s s.testGo := by
  have hr := s.testGo_runs
  obtain e | ⟨w, -, -, -, e⟩ := s.testGo_cases
  · rw [e]
    exact ⟨Runs.refl s, rfl, ⟨rfl, rfl⟩, .inl rfl, .inl rfl, rfl⟩
  · obtain e' | ⟨p, -, -, hp, e'⟩ := State.grantIfFree_cases ({ s with
      diag := { s.diag with sweep := some { w with stage := .waiting s.now } }, arb := s.arb.setWait .test true } : State)
    · rw [e.trans e'] at hr ⊢
      exact ⟨hr, rfl, ⟨rfl, rfl⟩, .inl rfl, .inl rfl, rfl⟩
    · obtain rfl : Party.test = p := Option.some.inj ((Arbiter.choice_of_test rfl).symm.trans hp)
      rw [e.trans e'] at hr ⊢
      exact ⟨hr, rfl, ⟨rfl, rfl⟩, .inr rfl, .inl rfl, rfl⟩

theorem State.wakeOnWork_readies (s : State) : Readies s s.wakeOnWork := by
  have hr := s.wakeOnWork_runs
  obtain ⟨-, e⟩ | ⟨-, -, e⟩ := s.wakeOnWork_cases <;> rw [e] at hr ⊢ <;>
    exact ⟨hr, rfl, ⟨rfl, rfl⟩, .inl rfl, .inl rfl, rfl⟩

theorem Walks.readies {s t : State} (h : Walks s t) : Readies s t :=
  ⟨h.runs, (congrArg State.punch h.frame :), ⟨(congrArg (fun x => x.arb.waitPrint) h.frame :),
    (congrArg (fun x => x.arb.waitPunch) h.frame :)⟩, .inl (congrArg (fun x => x.arb.holder) h.frame :), h.hand, h.current⟩

/-- A command's follow-ups come to the punch, and end with the measures (log 5). -/
theorem State.settle_readies (s : State) : ∃ v, Readies s v ∧ FollowUp s v ∧ s.settle = v.punchRun.updateMeasures :=
  ⟨_, (s.wakeOnWork_readies.trans (State.testGo_readies _)).trans (State.printerRun_walks _).readies,
    (s.wakeOnWork_followUp.trans (State.testGo_followUp _)).trans (State.printerRun_followUp _), rfl⟩

/-! ### The punch -/

theorem State.finishPunch_runs (s : State) : Runs s s.finishPunch := .same rfl

theorem State.punchOnce_runs {s t : State} (h : s.punchOnce = some t) : Runs s t := by
  unfold State.punchOnce State.runClaim at h
  repeat' split at h
  all_goals cases h
  all_goals first | exact .same (by rfl) | exact s.takeRow_runs _

theorem State.punchRun_runs (s : State) : Runs s s.punchRun :=
  repeatWhile_induct (P := Runs s) (fun _ _ h k => k.trans (State.punchOnce_runs h)) _ (Runs.refl s)

theorem State.updateMeasures_runs (s : State) : Runs s s.updateMeasures := .same rfl

theorem State.settle_runs (s : State) : Runs s s.settle := by
  obtain ⟨v, hv, -, e⟩ := s.settle_readies
  rw [e]
  exact (hv.runs.trans v.punchRun_runs).trans (State.updateMeasures_runs _)

/-- A row taken in hand waits for its grant or fires, and the punch waits (R180). -/
theorem State.takeRow_row (s : State) (c : RowContent) : ∃ r, (s.takeRow c).punch = { s.punch with row := some r } ∧
    r.content = c ∧ (r.stage = .waiting ∨ r.stage = .firing) := by
  obtain e | ⟨p, -, -, -, e⟩ := State.grantIfFree_cases
      ({ s with punch := { s.punch with row := some { content := c, stage := .waiting, since := s.now } }
                arb := s.arb.setWait .punch true } : State)
  · exact ⟨_, congrArg State.punch e, rfl, .inl rfl⟩
  · cases p with
    | print => exact ⟨_, congrArg State.punch e, rfl, .inl rfl⟩
    | punch => exact ⟨_, congrArg State.punch e, rfl, .inr rfl⟩
    | test => exact ⟨_, congrArg State.punch e, rfl, .inl rfl⟩

theorem State.punchRun_of_take {s : State} {c : RowContent} (h : s.punchOnce = some (s.takeRow c)) :
    s.punchRun = s.takeRow c := by
  obtain ⟨r, hr, -, hs⟩ := s.takeRow_row c
  refine (repeatWhile_of_some h 7).trans (repeatWhile_of_none ?_ 7)
  rw [State.punchOnce_of_row (congrArg Punch.row hr), if_neg]
  rintro ⟨ha, -⟩
  obtain hs | hs := hs <;> rw [hs] at ha <;> cases ha

/-- A punch at rest takes a row of manual leader, if any is asked for (R188). -/
theorem State.punchOnce_of_rest {s : State} (h : s.punch.row = none) (ha : s.answer.power = .active)
    (hd : s.driversHeld = false) (hs : s.punch.state = .idle ∨ s.punch.state = .suspended) :
    s.punchOnce = if s.punch.manual = 0 then none else some (s.takeRow .manual) := by
  simp only [State.punchOnce, h, ha, hd]
  obtain hs | hs := hs <;> simp [hs]

theorem State.punchOnce_of_running {s : State} (h : s.punch.row = none) (ha : s.answer.power = .active)
    (hd : s.driversHeld = false) (hs : s.punch.state = .running) : s.punchOnce = s.runClaim := by
  simp [State.punchOnce, h, ha, hd, hs]

/-- A punch with no row, and none to take, waits (R178, R188, R190). -/
theorem State.punchOnce_of_rowless {s : State} (h : s.punch.row = none) (hs : s.punch.state = .tapeOut ∨
    s.punch.state = .fault ∨ ((s.punch.state = .idle ∨ s.punch.state = .suspended) ∧ s.punch.manual = 0)) :
    s.punchOnce = none := by
  by_cases ha : s.answer.power = .active
  · cases hd : s.driversHeld with
    | true => exact State.punchOnce_of_held h (.inr (.inl hd))
    | false =>
      obtain hs | hs | ⟨hs, hm⟩ := hs
      · exact State.punchOnce_of_held h (.inr (.inr (.inl hs)))
      · exact State.punchOnce_of_held h (.inr (.inr (.inr hs)))
      · rw [State.punchOnce_of_rest h ha hd hs, if_pos hm]
  · exact State.punchOnce_of_held h (.inl ha)

/-- The follow-ups leave a punch with no row, and none to take, as it was. -/
theorem State.settle_of_rowless {u : State} (h : u.punch.row = none) (hs : u.punch.state = .tapeOut ∨
    u.punch.state = .fault ∨ ((u.punch.state = .idle ∨ u.punch.state = .suspended) ∧ u.punch.manual = 0)) :
    Readies u u.settle := by
  obtain ⟨v, hv, -, e⟩ := u.settle_readies
  have hrun : v.punchRun = v := repeatWhile_of_none (State.punchOnce_of_rowless (by rw [hv.punch]; exact h)
    (by rw [hv.punch]; exact hs)) _
  rw [e, hrun]
  exact hv.trans ⟨v.updateMeasures_runs, rfl, ⟨rfl, rfl⟩, .inl rfl, .inl rfl, rfl⟩

/-- With a row in hand they begin its advance when that is due, and do no more (R180). -/
theorem State.settle_of_row {u : State} {r : Row} (h : u.punch.row = some r) : ∃ v, Readies u v ∧ FollowUp u v ∧
    u.settle = State.updateMeasures { v with punch := { u.punch with
      row := some (if r.stage = .advanceDue ∧ v.advanceBlocked = false
        then { r with stage := .advancing, since := v.now } else r) } } := by
  obtain ⟨v, hv, hf, e⟩ := u.settle_readies
  refine ⟨v, hv, hf, e.trans (congrArg State.updateMeasures ?_)⟩
  rw [State.punchRun_of_row (by rw [hv.punch]; exact h), ← hv.punch]
  split
  · rfl
  · rw [show some r = v.punch.row by rw [hv.punch, h]]

theorem Runs.driversHeld {s t : State} (h : Runs s t) : t.driversHeld = s.driversHeld := by
  have held : ∀ x : State, x.driversHeld = (x.diag.sweep.map Sweep.place).any fun p => p.1 == .selfCheck := fun x => by
    unfold State.driversHeld
    cases x.diag.sweep <;> rfl
  rw [held, held, h.place]

/-- The follow-ups take a row in hand where the punch, in ACTIVE with the drivers released, has one to take (R178). -/
theorem State.settle_of_take {u : State} {c : RowContent} (ha : u.answer.power = .active) (hd : u.driversHeld = false)
    (h : ∀ v, Readies u v → FollowUp u v → v.answer.power = .active → v.driversHeld = false →
      v.punchOnce = some (v.takeRow c)) :
    ∃ r, u.settle.punch = { u.punch with row := some r } ∧ r.content = c := by
  obtain ⟨v, hv, hf, e⟩ := u.settle_readies
  have honce := h v hv hf (hv.runs.active ha).1 (hv.runs.driversHeld.trans hd)
  obtain ⟨r, hr, hc, -⟩ := v.takeRow_row c
  rw [hv.punch] at hr
  exact ⟨r, by rw [e, State.punchRun_of_take honce]; exact hr, hc⟩

end Sys2Proof.Machine
end

section
/-! # The keys that ask other blocks, and the tape -/
namespace Sys2Proof.Machine

/-! ### What the follow-ups leave of a sweep -/

section
variable {s t : State} (h : Runs s t)
include h

theorem Runs.sweep {w : Sweep} (hw : s.diag.sweep = some w) :
    ∃ w', t.diag.sweep = some w' ∧ w'.kind = w.kind ∧ w'.index = w.index ∧ w'.findings = w.findings := by
  have hplace := h.place
  rw [hw, Option.map_some, Option.map_eq_some_iff] at hplace
  obtain ⟨w', hw', he⟩ := hplace
  simp only [Sweep.place, Prod.mk.injEq] at he
  exact ⟨w', hw', he⟩

theorem Runs.sweep_none (hw : s.diag.sweep = none) : t.diag.sweep = none := by
  have hplace := h.place
  rwa [hw, Option.map_none, Option.map_eq_none_iff] at hplace

end

/-! ### STATUS -/

section
variable {s : State} {p : Press} {rest : List Press} (h : s.Takes p rest)
include h

theorem exec_statusKey_refused (hp : p.position = 55) (hr : s.answer.draft ≠ none ∨ s.diag.request ≠ .none) :
    exec .statusKey s = .next (s.took rest).bell := by
  show execStatusKey s = _
  by_cases hd : s.answer.draft = none
  · rw [execStatusKey, withFunctionKey_of_takes h (by simp [isAt, hp]) hd]
    exact congrArg _ (if_neg fun hc => hr.resolve_left (not_not_intro hd) (beq_iff_eq.1 hc))
  · rw [execStatusKey, withFunctionKey_of_draft h (by simp [isAt, hp]) hd]

theorem exec_statusKey (hp : p.position = 55) (hd : s.answer.draft = none) (hr : s.diag.request = .none) :
    exec .statusKey s = .next (s.took rest).acceptStatus.settle := by
  show execStatusKey s = _
  rw [execStatusKey, withFunctionKey_of_takes h (by simp [isAt, hp]) hd]
  exact congrArg _ (if_pos (beq_iff_eq.2 hr))

theorem exec_feedKey (hp : p.position = 60) (hc : p.ctrl = false) (hd : s.answer.draft = none) :
    (s.printer.state = .starting ∨ s.printer.state = .ready ∨ s.printer.state = .printing → s.printer.pendingFeeds < 3 →
      exec .feedKey s = .next (State.settle { s.took rest with
        printer := { s.printer with pendingFeeds := s.printer.pendingFeeds + 1 } })) ∧
    (s.printer.state ≠ .off → s.printer.state = .paperOut ∨ s.printer.state = .fault ∨ 3 ≤ s.printer.pendingFeeds →
      exec .feedKey s = .next (s.took rest).bell) ∧
    (s.printer.state = .off → exec .feedKey s = .next (s.took rest)) := by
  have hexec : exec .feedKey s = .next (match (generalizing := false) s.printer.state with
      | .starting | .ready | .printing => if s.printer.pendingFeeds < 3
          then State.settle { s.took rest with printer := { s.printer with pendingFeeds := s.printer.pendingFeeds + 1 } }
          else (s.took rest).bell
      | .paperOut | .fault => (s.took rest).bell
      | .off => s.took rest) := by
    show execFeedKey s = _
    rw [execFeedKey, withFunctionKey_of_takes h (by simp [isPlain, hp, hc]) hd]
    rfl
  rw [hexec]
  refine ⟨fun hs hn => ?_, fun hs hr => ?_, fun hs => ?_⟩
  · obtain hs | hs | hs := hs <;> rw [hs] <;> exact congrArg _ (if_pos hn)
  · obtain hr | hr | hr := hr
    · rw [hr]
    · rw [hr]
    · rw [if_neg (Nat.not_lt.2 hr)]
      split
      all_goals first | rfl | exact absurd ‹_› hs
  · rw [hs]

theorem exec_ctrlFeed (hp : p.position = 60) (hc : p.ctrl = true) (hd : s.answer.draft = none) :
    (s.punch.state = .idle ∨ s.punch.state = .suspended → s.punch.manualUnderWay = false →
      exec .ctrlFeed s = .next (State.settle { s.took rest with punch := { s.punch with manual := 20 } })) ∧
    ((s.punch.state ≠ .idle ∧ s.punch.state ≠ .suspended) ∨ s.punch.manualUnderWay = true →
      exec .ctrlFeed s = .next (s.took rest).bell) := by
  have hexec : exec .ctrlFeed s = .next (match (generalizing := false) s.punch.state with
      | .idle | .suspended => if s.punch.manualUnderWay = true then (s.took rest).bell
          else State.settle { s.took rest with punch := { s.punch with manual := 20 } }
      | .running | .tapeOut | .fault => (s.took rest).bell) := by
    show execCtrlFeed s = _
    rw [execCtrlFeed, withFunctionKey_of_takes h (by simp [isCtrl, hp, hc]) hd]
    rfl
  rw [hexec]
  refine ⟨fun hs hm => ?_, fun hr => ?_⟩
  · rw [hm]
    obtain hs | hs := hs <;> rw [hs] <;> rfl
  · obtain ⟨hi, hs⟩ | hm := hr
    · split
      all_goals first | rfl | exact absurd ‹_› hi | exact absurd ‹_› hs
    · rw [hm]
      split <;> rfl

theorem exec_punchKey (hp : p.position = 61) (hd : s.answer.draft = none) :
    exec .punchKey s = .next (s.took rest).takePunch.settle := by
  show execPunchKey s = _
  rw [execPunchKey, withFunctionKey_of_takes h (by simp [isAt, hp]) hd]

theorem exec_requestKeys_draft (hd : s.answer.draft ≠ none) :
    (p.position = 60 → p.ctrl = false → exec .feedKey s = .next (s.took rest).bell) ∧
    (p.position = 60 → p.ctrl = true → exec .ctrlFeed s = .next (s.took rest).bell) ∧
    (p.position = 61 → exec .punchKey s = .next (s.took rest).bell) := by
  refine ⟨fun hp hc => ?_, fun hp hc => ?_, fun hp => ?_⟩
  · show execFeedKey s = _
    rw [execFeedKey, withFunctionKey_of_draft h (by simp [isPlain, hp, hc]) hd]
  · show execCtrlFeed s = _
    rw [execCtrlFeed, withFunctionKey_of_draft h (by simp [isCtrl, hp, hc]) hd]
  · show execPunchKey s = _
    rw [execPunchKey, withFunctionKey_of_draft h (by simp [isAt, hp]) hd]

end

/-! ### Rows given up -/

section
variable {s : State}

theorem State.dropWaitingRow_of_none (h : s.punch.row = none) : s.dropWaitingRow = s := by
  simp only [State.dropWaitingRow, h]

/-- Manual leader stopped: its row is given up where it waits for its grant, and left to complete otherwise (R188). -/
theorem State.stopManual_cases (s : State) :
    (∃ r, s.punch.row = some r ∧ r.content = .manual ∧ r.stage = .waiting ∧ s.stopManual = { s with
      arb := { s.arb with waitPunch := false }, punch := { s.punch with row := none, manual := 0 } }) ∨
    ((∀ r, s.punch.row = some r → r.content = .manual → r.stage ≠ .waiting) ∧
      s.stopManual = { s with punch := { s.punch with manual := 0 } }) := by
  unfold State.stopManual Punch.manualRow
  cases h : s.punch.row with
  | none => exact .inr ⟨nofun, by simp⟩
  | some r =>
    by_cases hc : r.content = .manual
    · by_cases hs : r.stage = .waiting
      · refine .inl ⟨r, rfl, hc, hs, ?_⟩
        simp only [hc, beq_self_eq_true, if_true, State.dropWaitingRow_of_waiting h hs]
        rfl
      · refine .inr ⟨fun r' hr' _ => by cases hr'; exact hs, ?_⟩
        simp only [hc, beq_self_eq_true, if_true, State.dropWaitingRow, h, beq_iff_eq, hs, if_false]
    · refine .inr ⟨fun r' hr' hc' => by cases hr'; exact absurd hc' hc, ?_⟩
      simp only [beq_iff_eq, hc, if_false]

theorem State.stopManual_of_waiting {r : Row} (h : s.punch.row = some r) (hc : r.content = .manual)
    (hs : r.stage = .waiting) : s.stopManual = { s with
      arb := { s.arb with waitPunch := false }, punch := { s.punch with row := none, manual := 0 } } := by
  obtain ⟨-, -, -, -, e⟩ | ⟨hn, -⟩ := s.stopManual_cases
  · exact e
  · exact absurd hs (hn r h hc)

theorem State.stopManual_of_not_waiting (h : ∀ r, s.punch.row = some r → r.stage ≠ .waiting) :
    s.stopManual = { s with punch := { s.punch with manual := 0 } } := by
  obtain ⟨r, hr, -, hs, -⟩ | ⟨-, e⟩ := s.stopManual_cases
  · exact absurd hs (h r hr)
  · exact e

theorem State.stopManual_store (s : State) : s.stopManual.store = s.store := by
  obtain ⟨-, -, -, -, e⟩ | ⟨-, e⟩ := s.stopManual_cases <;> rw [e]

/-- A row and its request are none of what the follow-ups keep. -/
theorem FollowUp.setRow (s : State) {arb : Arbiter} (h : arb.supplyLow = s.arb.supplyLow) (row : Option Row) :
    FollowUp s { s with arb := arb, punch := { s.punch with row := row } } := by
  constructor
  case supplyLow => exact h
  all_goals first | rfl | exact Nat.le_refl _ | exact recordsStand _ | exact .inl rfl | exact .inl ⟨rfl, rfl⟩

end

/-- Manual leader stopped, and the punch in another state (R182, R183, R188). -/
theorem State.stopManual_followUp (s : State) (st : PunchState) :
    FollowUp { s with punch := { s.punch with state := st, manual := 0 } }
      { s.stopManual with punch := { s.stopManual.punch with state := st } } := by
  obtain ⟨-, -, -, -, e⟩ | ⟨-, e⟩ := s.stopManual_cases <;> rw [e]
  · exact FollowUp.setRow { s with punch := { s.punch with state := st, manual := 0 } }
      (arb := { s.arb with waitPunch := false }) rfl none
  · exact FollowUp.refl _

/-- Its row that waited for a grant is given up, and the punch takes no other (R188). -/
theorem State.settle_stopManual {s : State} {r : Row} {st : PunchState} (h : s.punch.row = some r) (hc : r.content = .manual)
    (hs : r.stage = .waiting) (hst : st = .idle ∨ st = .suspended) :
    (State.settle { s.stopManual with punch := { s.stopManual.punch with state := st } }).punch.row = none ∧
    (State.settle { s.stopManual with punch := { s.stopManual.punch with state := st } }).arb.waitPunch = false := by
  rw [State.stopManual_of_waiting h hc hs]
  have hr := State.settle_of_rowless (u := { s with arb := { s.arb with waitPunch := false }
                                                    punch := { s.punch with row := none, manual := 0, state := st } })
    rfl (.inr (.inr ⟨hst, rfl⟩))
  exact ⟨congrArg Punch.row hr.punch, hr.waits.2⟩

/-- The follow-ups move a punch with a row in hand, or none to take, from no state to another (R178). -/
theorem State.settle_punch_state {u : State} (h : u.punch.row = none → u.punch.state = .tapeOut ∨
    u.punch.state = .fault ∨ ((u.punch.state = .idle ∨ u.punch.state = .suspended) ∧ u.punch.manual = 0)) :
    u.settle.punch.state = u.punch.state := by
  cases hr : u.punch.row with
  | none => exact congrArg Punch.state (State.settle_of_rowless hr (h hr)).punch
  | some r =>
    obtain ⟨v, -, -, e⟩ := State.settle_of_row hr
    rw [e]
    rfl

/-! ### A claim taken up -/

theorem Rec.punchPos_unprinted (r : Rec) : r.unprinted.punchPos = r.punchPos := rfl

/-- A RUNNING punch at a claim with rows to make takes the next (R178). -/
theorem State.settle_of_claim {u : State} {x : Rec} (hrow : u.punch.row = none) (ha : u.answer.power = .active)
    (hd : u.driversHeld = false) (hs : u.punch.state = .running) (hx : u.store.punchCurrent = some x) :
    (u.punch.leader < 10 → ∃ r, u.settle.punch = { u.punch with row := some r } ∧ r.content = .leader) ∧
    (10 ≤ u.punch.leader → x.punchPos < x.length → ∃ r, u.settle.punch = { u.punch with row := some r } ∧
      r.content = .cell (u.store.cell (x.start + x.punchPos))) := by
  have hclaim : ∀ v, Readies u v → v.answer.power = .active → v.driversHeld = false → v.punchOnce = v.runClaim ∧
      ∃ x', v.store.punchCurrent = some x' ∧ x'.punchPos = x.punchPos ∧ x'.length = x.length ∧ x'.start = x.start := by
    intro v hv hva hvd
    refine ⟨State.punchOnce_of_running (by rw [hv.punch]; exact hrow) hva hvd (by rw [hv.punch]; exact hs), ?_⟩
    have hcurrent := hv.current
    rw [hx, Option.map_some, Option.map_eq_some_iff] at hcurrent
    obtain ⟨x', hx', he⟩ := hcurrent
    exact ⟨x', hx', (congrArg Rec.punchPos he :), (congrArg Rec.length he :), (congrArg Rec.start he :)⟩
  refine ⟨fun hl => ?_, fun hl hp => ?_⟩
  · refine State.settle_of_take ha hd fun v hv _ hva hvd => ?_
    obtain ⟨honce, x', hx', -⟩ := hclaim v hv hva hvd
    rw [honce, State.runClaim, hx']
    exact if_pos (by rw [hv.punch]; exact hl)
  · refine State.settle_of_take ha hd fun v hv hf hva hvd => ?_
    obtain ⟨honce, x', hx', hpos, hlength, hstart⟩ := hclaim v hv hva hvd
    have hcell : v.store.cell (x'.start + x'.punchPos) = u.store.cell (x.start + x.punchPos) := by
      rw [Store.cell, Store.cell, hf.cells, hpos, hstart]
    rw [honce, State.runClaim, hx']
    dsimp only
    rw [if_neg (by rw [hv.punch]; omega), if_pos (by omega), hcell]

/-! ### STATUS, FEED, CTRL+FEED and PUNCH -/

theorem State.acceptStatus_frame (s : State) : ∃ arb sweep testing, s.acceptStatus = { s with
    arb := arb, diag := { s.diag with request := .sweeping, sweep := sweep, testing := testing } } := by
  unfold State.acceptStatus
  dsimp only
  cases s.diag.sweep with
  | none => exact ⟨_, _, _, rfl⟩
  | some w =>
    dsimp only
    cases w.kind <;> exact ⟨_, _, _, rfl⟩

/-- A status sweep begins where none runs, and in the place of an idle one (R197, R202). -/
theorem State.acceptStatus_begins {s : State} (h : ∀ w, s.diag.sweep = some w → w.kind = .idle) :
    s.acceptStatus.diag.sweep =
      some { kind := .status, index := 0, findings := List.replicate 17 none, stage := .due } := by
  unfold State.acceptStatus
  dsimp only
  cases hw : s.diag.sweep with
  | none => rfl
  | some w => simp only [h w hw, State.beginSweep]

theorem State.acceptStatus_idle {s : State} {w : Sweep} {x : Testing} (hw : s.diag.sweep = some w) (hk : w.kind = .idle)
    (hx : s.diag.testing = some x) : s.acceptStatus.diag.testing = some { index := x.index, counts := false } ∧
      s.acceptStatus.arb.waitTest = false := by
  unfold State.acceptStatus
  dsimp only
  simp only [hw, hk]
  exact ⟨congrArg (Option.map _) hx, rfl⟩

theorem State.acceptStatus_selfCheck {s : State} {w : Sweep} (hw : s.diag.sweep = some w) (hk : w.kind = .selfCheck) :
    s.acceptStatus.diag.sweep = some w := by
  unfold State.acceptStatus
  dsimp only
  simp only [hw, hk]

section
variable {s : State}

theorem State.takePunch_of_stopped (h : s.punch.state = .tapeOut ∨ s.punch.state = .fault) : s.takePunch = s.bell := by
  unfold State.takePunch
  obtain h | h := h <;> rw [h]

theorem State.takePunch_of_idle (h : s.punch.state = .idle) :
    s.takePunch = { s.stopManual with punch := { s.stopManual.punch with state := .suspended } } := by
  unfold State.takePunch
  rw [h]

theorem State.takePunch_of_suspended (h : s.punch.state = .suspended) : s.takePunch = { s.stopManual with
    punch := { s.stopManual.punch with state := if s.store.punchCurrent.isSome then .running else .idle } } := by
  rw [← s.stopManual_store]
  unfold State.takePunch
  rw [h]

theorem State.takePunch_of_running (h : s.punch.state = .running) {r : Row} (hr : s.punch.row = some r)
    (hs : r.stage ≠ .waiting) :
    s.takePunch = { s with punch := { s.punch with suspendPending := !s.punch.suspendPending } } := by
  simp [State.takePunch, h, hr, hs]

theorem State.takePunch_of_waiting (h : s.punch.state = .running)
    (hr : s.punch.row = none ∨ ∃ r, s.punch.row = some r ∧ r.stage = .waiting) : ∃ arb : Arbiter,
      s.takePunch = { s with arb := arb, punch := { s.punch with row := none, state := .suspended } } ∧
      arb.supplyLow = s.arb.supplyLow ∧ (s.punch.row ≠ none → arb.waitPunch = false) := by
  obtain hr | ⟨r, hr, hs⟩ := hr
  · refine ⟨s.arb, ?_, rfl, fun hn => absurd hr hn⟩
    simp only [State.takePunch, h, hr]
  · refine ⟨{ s.arb with waitPunch := false }, ?_, rfl, fun _ => rfl⟩
    simp only [State.takePunch, h, hr, hs, beq_self_eq_true, if_true, State.dropWaitingRow_of_waiting hr hs]
    rfl

end

/-- Settles O50. -/
theorem requestKeysAreTaken : Obligations.RequestKeysAreTaken := by
  refine fun s p rest h => ⟨fun hp => ⟨exec_statusKey_refused h hp, fun hd hr => ⟨_, exec_statusKey h hp hd hr, ?_⟩⟩,
    fun hp hc hd => ?_, fun hp hc hd => ?_, fun hp hd => ?_, exec_requestKeys_draft h⟩
  · obtain ⟨arb, sweep, testing, hframe⟩ := (s.took rest).acceptStatus_frame
    have hf := (s.took rest).acceptStatus.settle_followUp
    have hr := (s.took rest).acceptStatus.settle_runs
    refine ⟨hf.request.trans (congrArg (fun x => x.diag.request) hframe :),
      hf.latched.trans (congrArg (fun x => x.diag.latched) hframe :),
      hf.interp.trans (congrArg State.interp hframe :), fun hw => ?_, fun w x hw hk hx => ?_, fun w hw hk => ?_⟩
    · obtain ⟨w', hw', hkind, hindex, -⟩ := hr.sweep (State.acceptStatus_begins (s := s.took rest) hw)
      exact ⟨w', hw', hkind, hindex⟩
    · obtain ⟨htesting, hwait⟩ := State.acceptStatus_idle (s := s.took rest) hw hk hx
      rw [(hr.testing (by rw [htesting]; simp) hwait).1, htesting]
    · obtain ⟨w', hw', hkind, hindex, hfindings⟩ := hr.sweep (State.acceptStatus_selfCheck (s := s.took rest) hw hk)
      exact ⟨w', hw', hkind.trans hk, hindex, hfindings⟩
  · obtain ⟨htaken, hrefused, hoff⟩ := exec_feedKey h hp hc hd
    exact ⟨fun hs hn => ⟨_, htaken hs hn, State.settle_followUp _⟩, hrefused, hoff⟩
  · obtain ⟨htaken, hrefused⟩ := exec_ctrlFeed h hp hc hd
    refine ⟨fun hs hm => ⟨_, htaken hs hm, State.settle_followUp _, fun hrow ha hheld => ?_⟩, hrefused⟩
    obtain ⟨r, hr, hcontent⟩ := State.settle_of_take (c := .manual)
      (u := { s.took rest with punch := { s.punch with manual := 20 } }) ha hheld fun v hv _ hva hvd => by
        rw [State.punchOnce_of_rest (by rw [hv.punch]; exact hrow) hva hvd (by rw [hv.punch]; exact hs), hv.punch]
        rfl
    exact ⟨r, congrArg Punch.row hr, hcontent⟩
  · refine ⟨fun hs => ⟨_, exec_punchKey h hp hd, ?_⟩, fun hs => ⟨_, exec_punchKey h hp hd, ?_⟩,
      fun hs hx => ⟨_, exec_punchKey h hp hd, ?_⟩, fun x hs hx => ⟨_, exec_punchKey h hp hd, ?_⟩,
      fun r hs hr hst => ⟨_, exec_punchKey h hp hd, ?_⟩, fun hs hr hm => ⟨_, exec_punchKey h hp hd, ?_⟩⟩
    · rw [State.takePunch_of_stopped (s := s.took rest) hs]
      have hf := (s.took rest).bell.settle_followUp
      refine ⟨hf, hf.bells, ?_⟩
      obtain hs | hs := hs
      · exact (hf.tapeOut.2 hs).trans hs.symm
      · exact (hf.punchFault.2 hs).trans hs.symm
    · rw [State.takePunch_of_idle (s := s.took rest) hs]
      have hf := ((s.took rest).stopManual_followUp .suspended).trans (State.settle_followUp _)
      exact ⟨hf.suspended.2 rfl, hf, fun r hr hc hst =>
        State.settle_stopManual (s := s.took rest) hr hc hst (.inr rfl)⟩
    · have hpunch : (s.took rest).takePunch = _ := State.takePunch_of_suspended (s := s.took rest) hs
      rw [show (s.took rest).store.punchCurrent = none from hx] at hpunch
      rw [hpunch]
      refine ⟨State.settle_punch_state fun _ => .inr (.inr ⟨.inl rfl, ?_⟩),
        ((s.took rest).stopManual_followUp .idle).trans (State.settle_followUp _), fun r hr hc hst =>
        State.settle_stopManual (s := s.took rest) hr hc hst (.inl rfl)⟩
      rfl
    · have hpunch : (s.took rest).takePunch = _ := State.takePunch_of_suspended (s := s.took rest) hs
      rw [show (s.took rest).store.punchCurrent = some x from hx] at hpunch
      rw [hpunch]
      refine ⟨((s.took rest).stopManual_followUp .running).trans (State.settle_followUp _), fun r hr hst => ?_,
        fun ha hheld hrow => ?_⟩
      · rw [State.stopManual_of_not_waiting (s := s.took rest) fun r' hr' => by cases hr.symm.trans hr'; exact hst]
        obtain ⟨v, -, -, e⟩ := State.settle_of_row (r := r)
          (u := { s.took rest with punch := { s.punch with state := .running, manual := 0 } }) hr
        refine ⟨congrArg (fun x => x.punch.state) e, _, congrArg (fun x => x.punch.row) e, ?_⟩
        split <;> rfl
      · obtain ⟨u, hu, hpunch', hstore, ha', hheld'⟩ : ∃ u : State, u = { (s.took rest).stopManual with
              punch := { (s.took rest).stopManual.punch with state := .running } } ∧
            u.punch = { s.punch with row := none, state := .running, manual := 0 } ∧ u.store = s.store ∧
            u.answer.power = .active ∧ u.driversHeld = false := by
          refine ⟨_, rfl, ?_⟩
          obtain hrow | ⟨r, hr, hc, hst⟩ := hrow
          · rw [State.stopManual_of_not_waiting (s := s.took rest) fun r hr => nomatch hrow.symm.trans hr]
            exact ⟨by rw [← hrow]; rfl, rfl, ha, hheld⟩
          · rw [State.stopManual_of_waiting (s := s.took rest) hr hc hst]
            exact ⟨rfl, rfl, ha, hheld⟩
        obtain ⟨hleader, hcell⟩ := State.settle_of_claim (u := u) (x := x) (by rw [hpunch']) ha' hheld' (by rw [hpunch'])
          (by rw [hstore]; exact hx)
        rw [hpunch'] at hleader
        rw [hpunch', hstore] at hcell
        rw [Option.isSome_some, if_pos rfl, ← hu]
        refine ⟨fun hl => ?_, fun hl hpos => ?_⟩
        · obtain ⟨r, hr, hc⟩ := hleader hl
          exact ⟨congrArg Punch.state hr, (congrArg Punch.leader hr :), r, congrArg Punch.row hr, hc⟩
        · obtain ⟨r, hr, hc⟩ := hcell hl hpos
          exact ⟨congrArg Punch.state hr, (congrArg Punch.leader hr :), r, congrArg Punch.row hr, hc⟩
    · rw [State.takePunch_of_running (s := s.took rest) hs hr hst]
      exact State.settle_followUp _
    · obtain ⟨arb, e, hlow, hwait⟩ := State.takePunch_of_waiting (s := s.took rest) hs hr
      have hrest := State.settle_of_rowless (u := (s.took rest).takePunch) (by rw [e])
        (.inr (.inr ⟨.inr (by rw [e]), by rw [e]; exact hm⟩))
      have hf := FollowUp.trans (FollowUp.setRow
        ({ s.took rest with punch := { s.punch with state := .suspended } } : State) (arb := arb) hlow none)
        (State.settle_followUp _)
      rw [e] at hrest ⊢
      exact ⟨congrArg Punch.state hrest.punch, congrArg Punch.row hrest.punch, hf, fun hn => hrest.waits.2.trans (hwait hn)⟩

/-! ### The tape -/

theorem Punch.rowInCycle_iff (p : Punch) : p.rowInCycle = true ↔ ∃ r, p.row = some r ∧ r.stage ≠ .waiting := by
  unfold Punch.rowInCycle Row.inCycle
  cases p.row with
  | none => simp
  | some r => simp

section
variable {s : State} (hp : s.powered = true)
include hp

theorem exec_tapeOut_false (hs : s.punch.state = .idle ∨ s.punch.state = .running ∨ s.punch.state = .suspended) :
    exec (.tapeOut false) s = .next { s with punch := { s.punch with tapeOutActive := false } } := by
  show execTapeOut s false = _
  rw [execTapeOut, whenPowered_of_powered hp]
  obtain hs | hs | hs := hs <;> simp only [hs] <;> rfl

theorem exec_tapeOut_inCycle (hs : s.punch.state = .idle ∨ s.punch.state = .running ∨ s.punch.state = .suspended)
    (hr : s.punch.rowInCycle = true) : exec (.tapeOut true) s = .next { s with
      punch := { s.punch with tapeOutPending := true, tapeOutActive := true } } := by
  show execTapeOut s true = _
  rw [execTapeOut, whenPowered_of_powered hp]
  obtain hs | hs | hs := hs <;> simp only [hs] <;> exact congrArg _ (if_pos hr)

theorem exec_tapeOut (hs : s.punch.state = .idle ∨ s.punch.state = .running ∨ s.punch.state = .suspended)
    (hr : s.punch.rowInCycle = false) : exec (.tapeOut true) s = .next
      (State.dropWaitingRow { s with punch := { s.punch with tapeOutActive := true } }).enterTapeOut.settle := by
  show execTapeOut s true = _
  rw [execTapeOut, whenPowered_of_powered hp]
  have hr' : ¬s.punch.rowInCycle = true := by simp [hr]
  obtain hs | hs | hs := hs <;> simp only [hs] <;> exact congrArg _ (if_neg hr')

theorem exec_tapeOut_of_tapeOut (hs : s.punch.state = .tapeOut) :
    exec (.tapeOut true) s = .next { s with punch := { s.punch with tapeOutActive := true, tapeMeasure := none } } ∧
    (s.punch.tapeMeasure = none → exec (.tapeOut false) s =
      .next { s with punch := { s.punch with tapeOutActive := false, tapeMeasure := some s.now } }) := by
  refine ⟨?_, fun hm => ?_⟩
  · show execTapeOut s true = _
    rw [execTapeOut, whenPowered_of_powered hp]
    simp only [hs]
    rfl
  · show execTapeOut s false = _
    rw [execTapeOut, whenPowered_of_powered hp]
    simp only [hs, hm]
    rfl

theorem exec_tapeOut_of_fault (hs : s.punch.state = .fault) (b : Bool) : exec (.tapeOut b) s = .next s := by
  show execTapeOut s b = _
  rw [execTapeOut, whenPowered_of_powered hp]
  simp only [hs]

theorem exec_tapeLow (b : Bool) : exec (.tapeLow b) s = .next { s with diag := { s.diag with tapeLow := b } } := by
  show execTapeLow b s = _
  rw [execTapeLow, whenPowered_of_powered hp]

theorem exec_tapeRestored {since : Nat} (hs : s.punch.state = .tapeOut) (hm : s.punch.tapeMeasure = some since) :
    exec .tapeRestored s = .next (State.settle { s.reach (since + ms 2000) with
      punch := { s.punch with state := .suspended, tapeMeasure := none } }) := by
  show execTapeRestored s = _
  rw [execTapeRestored, whenPowered_of_powered hp]
  simp only [hs, hm]
  rfl

end

theorem State.punchOnce_rest_cases {s : State} (h : s.punch.row = none)
    (hs : s.punch.state = .idle ∨ s.punch.state = .suspended) :
    s.punchOnce = none ∨ s.punchOnce = some (s.takeRow .manual) := by
  by_cases ha : s.answer.power = .active
  · cases hd : s.driversHeld with
    | true => exact .inl (State.punchOnce_of_held h (.inr (.inl hd)))
    | false =>
      rw [State.punchOnce_of_rest h ha hd hs]
      split
      · exact .inl rfl
      · exact .inr rfl
  · exact .inl (State.punchOnce_of_held h (.inl ha))

/-- A punch at rest finishes no claim, and moves to no other state (R178, R188). -/
theorem State.settle_of_rest {u : State} (hs : u.punch.state = .idle ∨ u.punch.state = .suspended) :
    u.settle.punch = { u.punch with row := u.settle.punch.row } := by
  cases hr : u.punch.row with
  | some r =>
    obtain ⟨v, -, -, e⟩ := State.settle_of_row hr
    rw [e]
    rfl
  | none =>
    obtain ⟨v, hv, -, e⟩ := u.settle_readies
    obtain honce | honce := State.punchOnce_rest_cases (s := v) (by rw [hv.punch]; exact hr) (by rw [hv.punch]; exact hs)
    · rw [e, State.punchRun, repeatWhile_of_none honce, ← hv.punch]
      rfl
    · obtain ⟨r, hrow, -⟩ := v.takeRow_row .manual
      have hpunch : u.settle.punch = { u.punch with row := some r } := by
        rw [e, State.punchRun_of_take honce, ← hv.punch]
        exact hrow
      rw [hpunch]

/-- Settles O59. -/
theorem tapeIsSensed : Obligations.TapeIsSensed := by
  refine ⟨fun s => ⟨s.punch.rowInCycle_iff, rfl⟩, fun s hp => ⟨fun hs => ⟨exec_tapeOut_false hp hs, exec_tapeOut_inCycle hp hs,
      fun hr => ⟨_, exec_tapeOut hp hs hr, ?_⟩⟩, exec_tapeOut_of_tapeOut hp, exec_tapeOut_of_fault hp, rfl,
    fun since hs hm => ⟨_, exec_tapeRestored hp hs hm, ?_⟩, fun b => exec_tapeLow hp b⟩⟩
  · obtain ⟨u, hu, hrow, hpunch, hstore, hwait⟩ : ∃ u : State,
        u = State.dropWaitingRow { s with punch := { s.punch with tapeOutActive := true } } ∧ u.punch.row = none ∧
        u.punch = { s.punch with tapeOutActive := true, row := u.punch.row } ∧ u.store = s.store ∧
        (s.punch.row ≠ none → u.arb.waitPunch = false) := by
      refine ⟨_, rfl, State.dropWaitingRow_notInCycle hr, ?_⟩
      cases hrow : s.punch.row with
      | none =>
        rw [State.dropWaitingRow_of_none (s := { s with punch := { s.punch with tapeOutActive := true } }) hrow]
        exact ⟨rfl, rfl, fun hn => absurd rfl hn⟩
      | some r =>
        have hst : r.stage = .waiting := by
          refine Classical.byContradiction fun hst => ?_
          rw [s.punch.rowInCycle_iff.2 ⟨r, hrow, hst⟩] at hr
          cases hr
        rw [State.dropWaitingRow_of_waiting (s := { s with punch := { s.punch with tapeOutActive := true } }) hrow hst]
        exact ⟨rfl, rfl, fun _ => rfl⟩
    rw [← hu]
    have hrest := State.settle_of_rowless (u := u.enterTapeOut) hrow (.inl rfl)
    have hf := u.enterTapeOut.settle_followUp
    have hactive : u.punch.tapeOutActive = true := by rw [hpunch]
    refine ⟨hf.tapeOut.2 rfl, (congrArg Punch.row hrest.punch :).trans hrow, hf.manual, hf.suspendPending,
      hf.tapeOutActive.trans hactive, hf.tapeMeasure.trans (if_pos hactive), ?_, fun r r' hr hr' => ?_,
      fun hn => hrest.waits.2.trans (hwait hn), ?_⟩
    · rw [hrest.punch]
      show u.punch.leader = _
      rw [hpunch]
    · have hcurrent := hrest.current
      rw [hr', show u.enterTapeOut.store.punchCurrent = some r by rw [← hr, ← hstore]; rfl] at hcurrent
      exact (congrArg Rec.punchPos (Option.some.inj hcurrent) :)
    · rw [hf.latched]
      exact (State.mem_latch u .tapeOut .tapeOut).2 (.inl rfl)
  · have hf := State.settle_followUp { s.reach (since + ms 2000) with
      punch := { s.punch with state := .suspended, tapeMeasure := none } }
    have hrest := State.settle_of_rest (u := { s.reach (since + ms 2000) with
      punch := { s.punch with state := .suspended, tapeMeasure := none } }) (.inr rfl)
    exact ⟨hf.now, hf.suspended.2 rfl, (congrArg Punch.leader hrest :), hf.tapeMeasure⟩

end Sys2Proof.Machine
end

section
/-! # Findings, their owners, and supply low -/
namespace Sys2Proof.Machine

/-! ### What the follow-ups leave of a stopped printer -/

theorem State.takeRow_printer (s : State) (c : RowContent) :
    (s.takeRow c).printer = { s.printer with hand := (s.takeRow c).printer.hand } :=
  (congrArg State.printer (State.request_grants
    { s with punch := { s.punch with row := some { content := c, stage := .waiting, since := s.now } } }
    (p := .punch) nofun).frame :)

/-- The punch's follow-ups leave the printer but for a grant to its character (R163). -/
theorem State.punchRun_printer (s : State) : s.punchRun.printer = { s.printer with hand := s.punchRun.printer.hand } := by
  refine repeatWhile_induct (P := fun v => v.printer = { s.printer with hand := v.printer.hand }) (fun u v h k => ?_) _ rfl
  unfold State.punchOnce State.runClaim at h
  repeat' split at h
  all_goals cases h
  all_goals first | exact k | (rw [State.takeRow_printer, k])

/-- A printer neither READY nor PRINTING, that no wake starts, takes no part in the follow-ups; a wake may find its spin-up
past (R143, R157). -/
theorem State.settle_printer_of_stopped {u : State} (hready : u.printer.state ≠ .ready)
    (hprinting : u.printer.state ≠ .printing) (hoff : u.printer.state ≠ .off ∨ u.wakeOnWork = u) :
    u.settle.printer = { u.printer with hand := u.settle.printer.hand, spunUp := u.settle.printer.spunUp } := by
  obtain ⟨b, hwake⟩ : ∃ b, u.wakeOnWork.printer = { u.printer with spunUp := b } := by
    obtain hoff | e := hoff
    · obtain ⟨-, e⟩ | ⟨-, -, e⟩ := u.wakeOnWork_cases <;> rw [e]
      · exact ⟨_, rfl⟩
      · refine ⟨false, ?_⟩
        simp only [State.enterActive, beq_iff_eq, hoff, if_false]
    · exact ⟨_, congrArg State.printer e⟩
  have hgo : u.wakeOnWork.testGo.printer = { u.printer with hand := u.wakeOnWork.testGo.printer.hand, spunUp := b } := by
    have hframe : u.wakeOnWork.testGo.printer =
        { u.wakeOnWork.printer with hand := u.wakeOnWork.testGo.printer.hand } :=
      (congrArg State.printer u.wakeOnWork.testGo_grants.frame :)
    generalize u.wakeOnWork.testGo.printer.hand = k at hframe ⊢
    rw [hframe, hwake]
  have hsettle : u.settle.printer = u.wakeOnWork.testGo.punchRun.printer := by
    rw [State.settle, State.printerRun_of_stopped (by rw [hgo]; exact hready) (by rw [hgo]; exact hprinting)]
    rfl
  rw [hsettle]
  have hpunch := u.wakeOnWork.testGo.punchRun_printer
  generalize u.wakeOnWork.testGo.punchRun.printer.hand = k at hpunch ⊢
  rw [hpunch, hgo]

theorem State.settle_printer_of_unavailable {u : State} (h : u.printer.state = .paperOut ∨ u.printer.state = .fault) :
    u.settle.printer = { u.printer with hand := u.settle.printer.hand, spunUp := u.settle.printer.spunUp } := by
  obtain h | h := h
  · exact State.settle_printer_of_stopped (by rw [h]; exact nofun) (by rw [h]; exact nofun) (.inl (by rw [h]; exact nofun))
  · exact State.settle_printer_of_stopped (by rw [h]; exact nofun) (by rw [h]; exact nofun) (.inl (by rw [h]; exact nofun))

/-! ### Codes -/

theorem updateAt_eq_modify {α : Type} (f : α → α) (n : Nat) (l : List α) : updateAt f n l = l.modify n f := by
  induction l generalizing n with
  | nil => cases n <;> rfl
  | cons a l ih =>
    cases n with
    | zero => rfl
    | succ n => exact congrArg (a :: ·) (ih n)

theorem mergeCode_overcurrent (old : ChanCode) : mergeCode .overcurrent old = .overcurrent := by
  cases old <;> rfl

/-- The worse of two findings (R193). -/
theorem mergeCode_eq (new old : ChanCode) : mergeCode new old =
    if new = .overcurrent ∨ old = .overcurrent then .overcurrent
    else if new = .shorted ∨ old = .shorted then .shorted
    else if new = .opened ∨ old = .opened then .opened
    else if new = .passed ∨ old = .passed then .passed else .notTested := by
  cases new <;> cases old <;> rfl

/-! ### The owners -/

theorem State.dropHand_of_none {s : State} (h : s.printer.hand = none) : s.dropHand = s := by
  simp only [State.dropHand, h]

theorem State.dropHand_of_firing {s : State} {k : Hand} (h : s.printer.hand = some k) (hs : k.stage = .firing) :
    s.dropHand = s := by
  simp only [State.dropHand, h, hs, beq_self_eq_true, if_true]

theorem State.dropHand_of_waiting {s : State} {k : Hand} (h : s.printer.hand = some k) (hs : k.stage = .waiting) :
    s.dropHand = { s with arb := { s.arb with waitPrint := false }, printer := { s.printer with hand := none } } := by
  simp only [State.dropHand, h, hs]
  rfl

theorem State.dropHand_of_step {s : State} {k : Hand} (h : s.printer.hand = some k)
    (hs : k.stage = .stepDue ∨ k.stage = .stepping) : s.dropHand = { s with printer := { s.printer with hand := none } } := by
  simp only [State.dropHand, h]
  obtain hs | hs := hs <;> rw [hs] <;> rfl

/-- A character is taken out of hand, or fires on; of the supply its request alone goes (R156, R159). -/
theorem State.dropHand_frame (s : State) : ∃ (b : Bool) (hand : Option Hand), s.dropHand = { s with
    arb := { s.arb with waitPrint := b }, printer := { s.printer with hand := hand } } ∧
    (hand = none ∨ hand = s.printer.hand) := by
  cases h : s.printer.hand with
  | none => exact ⟨s.arb.waitPrint, none, by rw [State.dropHand_of_none h, ← h], .inl rfl⟩
  | some k =>
    cases hs : k.stage with
    | waiting => exact ⟨false, none, State.dropHand_of_waiting h hs, .inl rfl⟩
    | firing => exact ⟨s.arb.waitPrint, some k, by rw [State.dropHand_of_firing h hs, ← h], .inr rfl⟩
    | stepDue => exact ⟨s.arb.waitPrint, none, State.dropHand_of_step h (.inl hs), .inl rfl⟩
    | stepping => exact ⟨s.arb.waitPrint, none, State.dropHand_of_step h (.inr hs), .inl rfl⟩

theorem State.enterPrinterFault_frame (s : State) : ∃ (b : Bool) (hand : Option Hand), s.enterPrinterFault = { s with
    arb := { s.arb with waitPrint := b }
    printer := { s.printer with
      hand := hand, state := .fault, pendingFeeds := 0, stop := .none, paperMeasure := none }
    diag := { s.diag with idleSince := none } } ∧ (hand = none ∨ hand = s.printer.hand) := by
  obtain ⟨b, hand, e, hhand⟩ := s.dropHand_frame
  refine ⟨b, hand, ?_, hhand⟩
  rw [State.enterPrinterFault, e]
  rfl

section
variable {s : State} {n : Nat}

theorem State.excludeNeedle_of_mem (h : n ∈ s.printer.excluded) : s.excludeNeedle n = s :=
  if_pos (by simpa using h)

theorem State.excludeNeedle_of_not_third (h : n ∉ s.printer.excluded)
    (hn : s.printer.excluded.length ≠ 2 ∨ s.printer.state = .fault) :
    s.excludeNeedle n = { s with printer := { s.printer with excluded := s.printer.excluded ++ [n] } } := by
  unfold State.excludeNeedle
  rw [if_neg (by simpa using h)]
  refine if_neg fun hc => ?_
  simp only [List.length_append, List.length_singleton, Bool.and_eq_true, beq_iff_eq, bne_iff_ne] at hc
  obtain hn | hn := hn
  · omega
  · exact hc.2 hn

theorem State.excludeNeedle_of_third (h : n ∉ s.printer.excluded) (hn : s.printer.excluded.length = 2)
    (hs : s.printer.state ≠ .fault) : s.excludeNeedle n =
      State.needleFault { s with printer := { s.printer with excluded := s.printer.excluded ++ [n] } } := by
  unfold State.excludeNeedle
  rw [if_neg (by simpa using h)]
  exact if_pos (by simp [hn, hs])

theorem Printer.busy_iff (p : Printer) : p.busy = true ↔ p.motion ≠ .none ∨ ∃ k, p.hand = some k ∧ k.stage ≠ .waiting := by
  unfold Printer.busy
  cases p.hand with
  | none => simp
  | some k => simp

/-- The third needle waits for what is in hand (R158, R159). -/
theorem State.needleFault_of_busy (h : s.printer.motion ≠ .none ∨
    (s.printer.state = .printing ∧ ∃ k, s.printer.hand = some k ∧ k.stage ≠ .waiting)) :
    s.needleFault = { s with printer := { s.printer with stop := .fault } } := by
  unfold State.needleFault
  refine if_pos ?_
  simp only [Bool.or_eq_true, Bool.and_eq_true, beq_iff_eq, bne_iff_ne, Printer.busy_iff]
  exact h.elim .inr fun ⟨hs, hk⟩ => .inl ⟨hs, .inr hk⟩

theorem State.needleFault_of_idle (hm : s.printer.motion = .none)
    (h : s.printer.state ≠ .printing ∨ ∀ k, s.printer.hand = some k → k.stage = .waiting) :
    s.needleFault = s.enterPrinterFault := by
  unfold State.needleFault
  refine if_neg ?_
  simp only [Bool.or_eq_true, Bool.and_eq_true, beq_iff_eq, bne_iff_ne, Printer.busy_iff]
  rintro (⟨hs, hb | ⟨k, hk, hst⟩⟩ | hb)
  · exact hb hm
  · exact h.elim (· hs) fun h => hst (h k hk)
  · exact hb hm

end

/-- What every owner leaves of a finding (R196): of the supply all but the requests, of the diagnostics all but the idle
measure, and every other block. -/
structure Owned (s t : State) : Prop where
  frame : t = { s with
    arb := { s.arb with waitPrint := t.arb.waitPrint, waitPunch := t.arb.waitPunch }
    printer := t.printer
    punch := t.punch
    diag := { s.diag with idleSince := t.diag.idleSince } }

theorem State.enterPrinterFault_owned (s : State) : Owned s s.enterPrinterFault := by
  obtain ⟨b, hand, e, -⟩ := s.enterPrinterFault_frame
  rw [e]
  exact ⟨rfl⟩

theorem State.punchFault_cases (s : State) : (s.punch.state = .fault ∧ s.punchFault = s) ∨
    (s.punch.state ≠ .fault ∧ ((∃ r, s.punch.row = some r ∧ r.stage = .firing ∧ s.punchFault = { s with
        punch := { s.punch with faultPending := true, manual := 0, suspendPending := false, tapeOutPending := false } }) ∨
      ((∀ r, s.punch.row = some r → r.stage ≠ .firing) ∧ ∃ b : Bool, s.punchFault = { s with
        arb := { s.arb with waitPunch := b }
        punch := { s.punch with
          state := .fault, row := none, manual := 0, suspendPending := false, tapeOutPending := false
          faultPending := false, tapeMeasure := none } }))) := by
  unfold State.punchFault
  by_cases hf : s.punch.state = .fault
  · exact .inl ⟨hf, if_pos (beq_iff_eq.2 hf)⟩
  · refine .inr ⟨hf, ?_⟩
    rw [if_neg fun hc => hf (beq_iff_eq.1 hc)]
    cases hr : s.punch.row with
    | none => exact .inr ⟨nofun, _, rfl⟩
    | some r =>
      by_cases hs : r.stage = .firing
      · exact .inl ⟨r, rfl, hs, if_pos (beq_iff_eq.2 hs)⟩
      · refine .inr ⟨fun r' hr' => by cases hr'; exact hs, ?_⟩
        dsimp only
        rw [if_neg fun hc => hs (beq_iff_eq.1 hc)]
        split
        · exact ⟨_, rfl⟩
        · exact ⟨_, rfl⟩

theorem State.punchFault_owned (s : State) : Owned s s.punchFault := by
  obtain ⟨-, e⟩ | ⟨-, ⟨_, -, -, e⟩ | ⟨-, _, e⟩⟩ := s.punchFault_cases <;> rw [e] <;> exact ⟨rfl⟩

theorem State.excludeNeedle_cases (s : State) (n : Nat) :
    (n ∈ s.printer.excluded ∧ s.excludeNeedle n = s) ∨ (n ∉ s.printer.excluded ∧ Owned s (s.excludeNeedle n) ∧
      (s.excludeNeedle n).printer.excluded = s.printer.excluded ++ [n]) := by
  by_cases h : n ∈ s.printer.excluded
  · exact .inl ⟨h, State.excludeNeedle_of_mem h⟩
  · refine .inr ⟨h, ?_⟩
    by_cases hn : s.printer.excluded.length ≠ 2 ∨ s.printer.state = .fault
    · rw [State.excludeNeedle_of_not_third h hn]
      exact ⟨⟨rfl⟩, rfl⟩
    · rw [not_or, Classical.not_not] at hn
      rw [State.excludeNeedle_of_third h hn.1 hn.2]
      unfold State.needleFault
      split
      · exact ⟨⟨rfl⟩, rfl⟩
      · obtain ⟨b, hand, e, -⟩ := State.enterPrinterFault_frame
          ({ s with printer := { s.printer with excluded := s.printer.excluded ++ [n] } } : State)
        rw [e]
        exact ⟨⟨rfl⟩, rfl⟩

theorem State.motionFault_printer (s : State) : Owned s s.motionFault ∧ s.motionFault.printer.state = .fault ∧
    s.motionFault.printer.motion = .none ∧ s.motionFault.printer.column = none ∧
    s.motionFault.printer.excluded = s.printer.excluded ∧
    (s.printer.state ≠ .fault → s.motionFault.printer.pendingFeeds = 0) := by
  obtain ⟨hf, e⟩ | ⟨-, e⟩ := s.motionFault_cases <;> rw [e]
  · exact ⟨⟨rfl⟩, hf, rfl, rfl, rfl, fun hn => absurd hf hn⟩
  · obtain ⟨b, hand, e', -⟩ := s.cutMotion.enterPrinterFault_frame
    rw [e']
    exact ⟨⟨rfl⟩, rfl, rfl, rfl, rfl, fun _ => rfl⟩

theorem State.toOwner_owned (s : State) (ch : Channel) : Owned s (s.toOwner ch) := by
  cases ch with
  | needle i =>
    obtain ⟨-, e⟩ | ⟨-, h, -⟩ := s.excludeNeedle_cases i.val
    · exact (congrArg (Owned s) e).mpr ⟨rfl⟩
    · exact h
  | track i => exact s.punchFault_owned
  | tapeAdvance => exact s.punchFault_owned
  | motion => exact s.motionFault_printer.1

/-! ### Driven channels -/

section
variable {s : State} (hp : s.powered = true)
include hp

theorem State.drives_needle_iff (i : Fin 7) : s.drives (.needle i) = true ↔ s.arb.holder = some .print ∧
    ∃ k, s.printer.hand = some k ∧ k.stage = .firing ∧ i.val ∈ k.needles := by
  simp only [State.drives, hp, Bool.true_and]
  cases s.printer.hand with
  | none => simp
  | some k => simp

theorem State.drives_track_iff (i : Fin 8) : s.drives (.track i) = true ↔ s.arb.holder = some .punch ∧
    ∃ r, s.punch.row = some r ∧ r.stage = .firing ∧
      (i.val = 7 ∨ ∃ c, r.content = .cell c ∧ c.getLsbD i.val = true) := by
  have htracks : ∀ c, (rowTracks c).contains i.val = true ↔ i.val = 7 ∨ ∃ x, c = .cell x ∧ x.getLsbD i.val = true := by
    intro c
    cases c with
    | leader => simp [rowTracks]
    | manual => simp [rowTracks]
    | cell x =>
      have hi := i.isLt
      simp only [rowTracks, List.contains_eq_mem, decide_eq_true_eq, RowContent.cell.injEq, exists_eq_left',
        List.mem_append, List.mem_filter, List.mem_range, List.mem_singleton]
      refine ⟨fun h => h.elim (fun h => .inr h.2) .inl, fun h => h.elim .inr fun h => ?_⟩
      by_cases h7 : i.val = 7
      · exact .inr h7
      · exact .inl ⟨by omega, h⟩
  simp only [State.drives, hp, Bool.true_and]
  cases s.punch.row with
  | none => simp
  | some r =>
    simp only [Bool.and_eq_true, beq_iff_eq, htracks, Option.some_inj, exists_eq_left']

theorem State.drives_tapeAdvance_iff : s.drives .tapeAdvance = true ↔ ∃ r, s.punch.row = some r ∧ r.stage = .advancing := by
  simp only [State.drives, hp, Bool.true_and, Punch.advancing]
  cases s.punch.row with
  | none => simp
  | some r => simp

theorem State.drives_motion_iff : s.drives .motion = true ↔ s.printer.motion ≠ .none := by
  simp only [State.drives, hp, Bool.true_and, bne_iff_ne]

theorem exec_overcurrentFinding (ch : Channel) : exec (.overcurrentFinding ch) s =
    .next (if s.drives ch = true then (s.failing ch .overcurrent).settle else s) := by
  show execOvercurrentFinding ch s = _
  rw [execOvercurrentFinding, whenPowered_of_powered hp]

theorem exec_supplyLowOnset : exec .supplyLowOnset s = .next (if s.arb.supplyLow = true then s
    else State.latch { s with arb := { s.arb with supplyLow := true } } .supplyLow) := by
  show execSupplyLowOnset s = _
  rw [execSupplyLowOnset, whenPowered_of_powered hp]

theorem exec_supplyLowEnd : exec .supplyLowEnd s = .next (if s.arb.supplyLow = true
    then State.grantIfFree { s with arb := { s.arb with supplyLow := false } } else s) := by
  show execSupplyLowEnd s = _
  rw [execSupplyLowEnd, whenPowered_of_powered hp]

end

/-- Settles O55. -/
theorem overcurrentAndSupplyLow : Obligations.OvercurrentAndSupplyLow := by
  refine ⟨⟨fun i => rfl, fun i => rfl, rfl, rfl, rfl, rfl, rfl, mergeCode_eq⟩, fun s v hnone hsome => ?_,
    fun s u n hu => ⟨State.excludeNeedle_of_mem, fun h hn => hu ▸ State.excludeNeedle_of_not_third h hn, fun h hn hs => ?_⟩,
    fun s hp => ⟨fun ch hd => ?_, fun ch hd hlen => ⟨_, (exec_overcurrentFinding hp ch).trans (by rw [if_pos hd]), ?_⟩,
      State.drives_needle_iff hp, State.drives_track_iff hp, State.drives_tapeAdvance_iff hp, State.drives_motion_iff hp,
      fun hl => ?_, fun hl => ?_⟩⟩
  · have hdrop : s.dropHand = v := by
      cases h : s.printer.hand with
      | none => rw [State.dropHand_of_none h, hnone h]
      | some k =>
        obtain ⟨hfiring, hwaiting, hstep⟩ := hsome k h
        cases hs : k.stage with
        | waiting => rw [State.dropHand_of_waiting h hs, hwaiting hs]
        | firing => rw [State.dropHand_of_firing h hs, hfiring hs]
        | stepDue => rw [State.dropHand_of_step h (.inl hs), hstep (.inl hs)]
        | stepping => rw [State.dropHand_of_step h (.inr hs), hstep (.inr hs)]
    have hdiag : s.dropHand.diag = s.diag := by
      obtain ⟨b, hand, e, -⟩ := s.dropHand_frame
      rw [e]
    rw [← hdrop, ← hdiag]
    rfl
  · rw [State.excludeNeedle_of_third h hn hs, ← hu]
    have hmotion : u.printer.motion = s.printer.motion := by rw [hu]
    have hhand : u.printer.hand = s.printer.hand := by rw [hu]
    have hstate : u.printer.state = s.printer.state := by rw [hu]
    have harb : u.arb = s.arb := by rw [hu]
    refine ⟨fun hb => State.needleFault_of_busy (by rwa [hmotion, hhand, hstate]), fun hm hi => ?_, fun k hm hk hst => ?_⟩
    · rw [State.needleFault_of_idle (hmotion.trans hm) (hi.imp (fun hi => by rwa [hstate]) fun hi k hk => by
        rw [hhand, hi] at hk; cases hk)]
      obtain ⟨b, hand, e, -⟩ := u.enterPrinterFault_frame
      rw [e]
      exact ⟨rfl, rfl, rfl, rfl, rfl⟩
    · rw [State.needleFault_of_idle (hmotion.trans hm) (.inr fun k' hk' => by
        cases (hhand.trans hk).symm.trans hk'; exact hst)]
      unfold State.enterPrinterFault
      rw [State.dropHand_of_waiting (hhand.trans hk) hst, harb]
      exact ⟨rfl, rfl, rfl⟩
  · rw [exec_overcurrentFinding hp, hd]
    rfl
  · have howned := (s.mergeFinding ch .overcurrent).toOwner_owned ch
    have hf := (s.failing ch .overcurrent).settle_followUp
    have hcodes : (s.failing ch .overcurrent).diag.codes = s.diag.codes.set (channelIndex ch) .overcurrent :=
      ((congrArg (fun x => x.diag.codes) howned.frame :)).trans
        ((updateAt_eq_set _ _ _ .notTested).trans (by rw [mergeCode_overcurrent]))
    have hlatched : (s.failing ch .overcurrent).diag.latched = s.diag.latched :=
      (congrArg (fun x => x.diag.latched) howned.frame :)
    have hpunch : (∃ i, ch = .track i) ∨ ch = .tapeAdvance →
        s.failing ch .overcurrent = (s.mergeFinding ch .overcurrent).punchFault := by
      rintro (⟨i, rfl⟩ | rfl) <;> rfl
    refine ⟨hf.codes.trans hcodes, hf.latched.trans hlatched, fun i hi hx => ?_, fun hch => ?_, fun r hch hs hr => ?_,
      fun hch => ?_⟩
    · subst hi
      rw [hf.excluded]
      obtain ⟨hmem, -⟩ | ⟨-, -, e⟩ := (s.mergeFinding (.needle i) .overcurrent).excludeNeedle_cases i.val
      · rw [List.contains_eq_mem, decide_eq_false_iff_not] at hx
        exact absurd hmem hx
      · exact e
    · rw [hf.punchFault, hf.faultPending, hpunch hch]
      obtain ⟨hs, e⟩ | ⟨-, ⟨_, -, -, e⟩ | ⟨-, _, e⟩⟩ := (s.mergeFinding ch .overcurrent).punchFault_cases <;> rw [e]
      · exact .inl hs
      · exact .inr rfl
      · exact .inl rfl
    · rw [hpunch hch]
      obtain ⟨hs', e⟩ | ⟨-, ⟨r', hr', hst, e⟩ | ⟨hn, b, e⟩⟩ := (s.mergeFinding ch .overcurrent).punchFault_cases <;> rw [e]
      · exact absurd hs' hs
      · obtain rfl := Option.some.inj (hr'.symm.trans hr)
        refine ⟨fun _ => ?_, fun ha => nomatch hst.symm.trans ha⟩
        obtain ⟨v, -, -, e'⟩ := State.settle_of_row (r := r') (u := { s.mergeFinding ch .overcurrent with
          punch := { s.punch with faultPending := true, manual := 0, suspendPending := false, tapeOutPending := false } }) hr
        refine (congrArg State.punch e').trans ?_
        rw [if_neg (by rw [hst]; exact nofun)]
        exact congrArg (fun row => { s.punch with
          row := row, faultPending := true, manual := 0, suspendPending := false, tapeOutPending := false }) hr.symm
      · refine ⟨fun hst => absurd hst (hn r hr), fun _ => ?_⟩
        exact (State.settle_of_rowless rfl (.inr (.inl rfl))).punch
    · subst hch
      obtain ⟨-, hs, hm, hc, -, hfeeds⟩ := (s.mergeFinding .motion .overcurrent).motionFault_printer
      refine ⟨hf.printerFault.2 hs, ?_, hf.column.trans hc, fun hn => hf.pendingFeeds.trans (hfeeds hn)⟩
      exact ((congrArg Printer.motion (State.settle_printer_of_unavailable (.inr hs)) :)).trans hm
  · rw [exec_supplyLowOnset hp, exec_supplyLowEnd hp, hl]
    exact ⟨rfl, rfl⟩
  · rw [exec_supplyLowOnset hp, exec_supplyLowEnd hp, hl]
    exact ⟨rfl, rfl⟩

end Sys2Proof.Machine
end

section
/-! # Slots -/
namespace Sys2Proof.Machine

/-! ### Glyphs -/

/-- The manual's glyph table, code by code (R150). -/
theorem glyphs_agree : ((List.range 96).map fun n =>
      ((List.range 7).map fun i => codeOf (Char.ofNat (0x30 + glyphDots (BitVec.ofNat 7 (0x20 + n)) i)),
        firedDots (BitVec.ofNat 7 (0x20 + n)) [])) =
    (glyphRows.zip glyphTotals).map fun x => (textOf x.1, x.2) := by
  decide

theorem mem_strikingNeedles (c : Code) (excluded : List Nat) (i : Nat) :
    i ∈ strikingNeedles c excluded ↔ i < 7 ∧ glyphDots c i ≠ 0 ∧ i ∉ excluded := by
  simp [strikingNeedles]

/-- A needle that does not strike adds no dot (R150, R158). -/
theorem firedDots_eq (c : Code) (excluded : List Nat) :
    firedDots c excluded = ((List.range 7).map fun i => if i ∈ excluded then 0 else glyphDots c i).sum := by
  unfold firedDots strikingNeedles
  induction List.range 7 with
  | nil => rfl
  | cons n l ih =>
    rw [List.map_cons, List.sum_cons, ← ih, List.filter_cons]
    by_cases hx : n ∈ excluded
    · rw [if_pos hx, if_neg (by simp [hx]), Nat.zero_add]
    · rw [if_neg hx]
      split
      next => rw [List.map_cons, List.sum_cons]
      next h =>
        have hzero : glyphDots c n = 0 := by simpa [hx] using h
        rw [hzero, Nat.zero_add]

/-! ### Steps and boundaries -/

theorem Pacer.atBoundary_iff (p : Pacer) : p.atBoundary = true ↔ (p.steps + 1) % 3 = 0 := by
  simp [Pacer.atBoundary]

/-- The character in hand when an offer is answered FIRE (R152). -/
def State.firedHand (s : State) (c : Code) : Hand :=
  { char := c, dots := firedDots c s.printer.excluded, needles := strikingNeedles c s.printer.excluded
    stage := if firedDots c s.printer.excluded = 0 then .stepDue else .waiting }

/-- The part once an offer is answered FIRE, the supply not yet asked for (R171). -/
def State.fired (s : State) (c : Code) : State := { s with
  pacer := { s.pacer with
    lastFired := true, h := min (s.pacer.h + 64 * firedDots c s.printer.excluded) 65535 }
  printer := { s.printer with hand := some (s.firedHand c) } }

theorem State.fire_eq (s : State) (c : Code) : s.fire c =
    if firedDots c s.printer.excluded = 0 then (s.fired c).settle else (s.fired c).request .print := rfl

section
variable {s u : State} (hp : s.powered = true)
include hp

theorem exec_coolingStep (h : (s.pacer.steps + 1) % 3 ≠ 0) : exec .coolingStep s = .next { s with
    now := max s.now (5280 * (s.pacer.steps + 1))
    pacer := { s.pacer with h := s.pacer.h - s.pacer.h / 128, steps := s.pacer.steps + 1 } } := by
  show execCoolingStep s = _
  rw [execCoolingStep, whenPowered_of_powered hp]
  exact congrArg _ (if_neg fun hc => h ((Pacer.atBoundary_iff _).1 hc))

theorem exec_slotBoundary (h : (s.pacer.steps + 1) % 3 = 0)
    (hu : u = (s.reach (5280 * (s.pacer.steps + 1))).coolAndDecide) : exec .slotBoundary s = .next
      (match (generalizing := false) u.offer with
        | some c => if firesIn u.pacer.state u.pacer.lastFired = true then u.fire c
            else { u with pacer := { u.pacer with lastFired := false } }
        | none => { u with pacer := { u.pacer with lastFired := false } }) := by
  subst hu
  show execSlotBoundary s = _
  rw [execSlotBoundary, whenPowered_of_powered hp]
  exact congrArg _ (if_pos ((Pacer.atBoundary_iff _).2 h))

end

theorem firesIn_iff (p : Pacing) (b : Bool) : firesIn p b = true ↔ p = .cool ∨ (p = .warm ∧ b = false) := by
  cases p <;> simp [firesIn]

/-- Settles O52. -/
theorem stepsAndSlotsAreTaken : Obligations.StepsAndSlotsAreTaken := by
  refine ⟨fun n row total hrow htotal => ?_, fun c excluded => ⟨mem_strikingNeedles c excluded, firedDots_eq c excluded⟩,
    fun s u hp => ⟨exec_coolingStep hp, fun h hu => ⟨fun hno => ?_, fun c hc hf hw => ?_⟩⟩⟩
  · have hn : n < 96 := (List.getElem?_eq_some_iff.1 hrow).1
    have hglyph := congrArg (·[n]?) glyphs_agree
    have hzip : (glyphRows.zip glyphTotals)[n]? = some (row, total) := List.getElem?_zip_eq_some.2 ⟨hrow, htotal⟩
    simp only [List.getElem?_map, List.getElem?_range hn, hzip, Option.map_some,
      Option.some_inj, Prod.mk.injEq] at hglyph
    exact hglyph
  · rw [exec_slotBoundary hp h hu]
    refine congrArg _ ?_
    split
    next c hc =>
      refine if_neg fun hfires => ?_
      obtain hf | ⟨hf, hl⟩ := (firesIn_iff _ _).1 hfires
      · obtain ho | ho | ⟨ho, -⟩ := hno
        · exact nomatch hc.symm.trans ho
        · exact nomatch hf.symm.trans ho
        · exact nomatch hf.symm.trans ho
      · obtain ho | ho | ⟨-, ho⟩ := hno
        · exact nomatch hc.symm.trans ho
        · exact nomatch hf.symm.trans ho
        · exact nomatch hl.symm.trans ho
    next => rfl
  · refine ⟨u.fire c, ?_, ?_⟩
    · rw [exec_slotBoundary hp h hu, hc]
      exact congrArg _ (if_pos ((firesIn_iff _ _).2 hf))
    by_cases hd : firedDots c u.printer.excluded = 0
    · rw [State.fire_eq, if_pos hd]
      have hf := (u.fired c).settle_followUp
      obtain ⟨-, -, hhand⟩ := (u.fired c).settle_runs.print hw
      refine ⟨hf.pacer, hf.column, hf.cells, hf.latched, ?_⟩
      obtain e | ⟨k, hk, -, e⟩ := hhand
      · refine ⟨_, e, rfl, rfl, rfl, fun _ => .inl (if_pos hd), fun hn => absurd hd hn, fun hn => absurd hd hn⟩
      · obtain rfl : u.firedHand c = k := Option.some.inj hk
        exact ⟨_, e, rfl, rfl, rfl, fun _ => .inr rfl, fun hn => absurd hd hn, fun hn => absurd hd hn⟩
    · rw [State.fire_eq, if_neg hd]
      have hstage : (u.firedHand c).stage = .waiting := if_neg hd
      have hg := (u.fired c).request_grants (p := .print) nofun
      obtain ⟨k, hk, hchar, hdots, hneedles⟩ : ∃ k, ((u.fired c).request .print).printer.hand = some k ∧ k.char = c ∧
          k.dots = firedDots c u.printer.excluded ∧ k.needles = strikingNeedles c u.printer.excluded := by
        obtain e | e := hg.hand <;> exact ⟨_, e, rfl, rfl, rfl⟩
      refine ⟨(congrArg State.pacer hg.frame :), (congrArg (fun x => x.printer.column) hg.frame :),
        (congrArg (fun x => x.store.cells) hg.frame :), (congrArg (fun x => x.diag.latched) hg.frame :), k, hk, hchar, hdots,
        hneedles, fun hz => absurd (hdots.symm.trans hz) hd, fun _ hheld => ?_, fun _ hn hl ht hpunch => ?_⟩
      · have e : (u.fired c).request .print = { u.fired c with arb := { u.arb with waitPrint := true } } :=
          State.grantIfFree_of_held (s := { u.fired c with arb := { u.arb with waitPrint := true } }) hheld
        rw [e] at hk ⊢
        obtain rfl := Option.some.inj hk
        exact ⟨hstage, rfl⟩
      · have e : (u.fired c).request .print =
            State.giveGrant { u.fired c with arb := { u.arb with waitPrint := true } } .print :=
          State.grantIfFree_of_choice (s := { u.fired c with arb := { u.arb with waitPrint := true } }) hn hl
            (Arbiter.choice_of_print ht rfl (.inl hpunch))
        rw [e] at hk ⊢
        obtain rfl := Option.some.inj hk
        exact ⟨rfl, rfl, rfl⟩

end Sys2Proof.Machine
end

section
/-! # Spin-up and paper -/
namespace Sys2Proof.Machine

theorem State.Begun.printerAtWork {t : State} (h : t.Begun) : t.PrinterAtWork :=
  ⟨fun hs => absurd hs h.notReady, fun hs => absurd hs h.notPrinting,
    fun hi => absurd h.idle hi, fun hs => absurd hs h.notReady⟩

/-! ### What the follow-ups leave of READY and PRINTING -/

/-- The printer moves between READY and PRINTING as its work comes and goes (R143). -/
theorem State.printerRun_state {s : State} (h : s.printer.state = .ready ∨ s.printer.state = .printing) :
    s.printerRun.printer.state = .ready ∨ s.printerRun.printer.state = .printing := by
  refine repeatWhile_induct (P := fun v => v.printer.state = .ready ∨ v.printer.state = .printing) (fun u v hv hu => ?_) _ h
  unfold State.printerOnce at hv
  split at hv
  next => split at hv <;> cases hv; exact .inr rfl
  next hs =>
    split at hv
    · exact .inr ((State.printingWork_keeps hv).1.trans hs)
    · cases hv; exact .inl rfl
  all_goals cases hv

/-- An ACTIVE station needs no wake. -/
theorem State.wakeOnWork_of_active {u : State} (h : u.answer.power = .active) : u.wakeOnWork = u := by
  obtain ⟨-, e⟩ | ⟨hn, -⟩ := u.wakeOnWork_cases
  · exact e
  · exact absurd h hn

theorem State.wakeOnWork_of_no_work {u : State} (h : ¬u.store.work) : u.wakeOnWork = u := by
  obtain ⟨-, e⟩ | ⟨-, hw, -⟩ := u.wakeOnWork_cases
  · exact e
  · exact absurd hw h

theorem State.settle_printer_state {u : State} (ha : u.answer.power = .active)
    (h : u.printer.state = .ready ∨ u.printer.state = .printing) :
    u.settle.printer.state = .ready ∨ u.settle.printer.state = .printing := by
  have hgo : u.testGo.printer.state = u.printer.state := (congrArg (fun x => x.printer.state) u.testGo_grants.frame :)
  have hrun := State.printerRun_state (s := u.testGo) (by rwa [hgo])
  have hpunch : u.testGo.printerRun.punchRun.printer.state = u.testGo.printerRun.printer.state := by
    rw [State.punchRun_printer]
  rw [State.settle, State.wakeOnWork_of_active ha]
  show u.testGo.printerRun.punchRun.printer.state = _ ∨ u.testGo.printerRun.punchRun.printer.state = _
  rwa [hpunch]

/-! ### The current print claim -/

theorem Store.finishPunch_printCurrent (s : State) :
    s.finishPunch.store.printCurrent.map Rec.unpunched = s.store.printCurrent.map Rec.unpunched := by
  show (s.store.onPunch Rec.donePunch).reclaim.printCurrent.map Rec.unpunched = _
  rw [Store.reclaim_printCurrent, Store.printCurrent_unpunched, Store.printCurrent_unpunched]
  exact congrArg _ (map_updateFirst (p := Rec.punchLive) (f := Rec.donePunch) (g := Rec.unpunched) (fun _ => rfl) s.store.recs)

theorem State.takeRow_store (s : State) (c : RowContent) : (s.takeRow c).store = s.store :=
  (congrArg State.store (State.request_grants
    { s with punch := { s.punch with row := some { content := c, stage := .waiting, since := s.now } } }
    (p := .punch) nofun).frame :)

/-- The punch changes no print claim (R12). -/
theorem State.punchRun_printCurrent (s : State) :
    s.punchRun.store.printCurrent.map Rec.unpunched = s.store.printCurrent.map Rec.unpunched := by
  refine repeatWhile_induct (P := fun v => v.store.printCurrent.map Rec.unpunched = _) (fun u v h k => ?_) _ rfl
  rw [← k]
  unfold State.punchOnce State.runClaim at h
  repeat' split at h
  all_goals cases h
  all_goals first | rfl | exact Store.finishPunch_printCurrent u | rw [State.takeRow_store]

/-- With the printer stopped the follow-ups leave the current print claim where it was. -/
theorem State.settle_printCurrent {u : State} (h : u.printer.state = .paperOut ∨ u.printer.state = .fault) :
    u.settle.store.printCurrent.map Rec.unpunched = u.store.printCurrent.map Rec.unpunched := by
  obtain ⟨hstore, -⟩ := u.wakeOnWork_keeps
  have hgo : u.wakeOnWork.testGo.printer.state = u.wakeOnWork.printer.state :=
    (congrArg (fun x => x.printer.state) u.wakeOnWork.testGo_grants.frame :)
  have hwake : u.wakeOnWork.printer.state = u.printer.state := by
    have hoff : u.printer.state ≠ .off := by obtain h | h := h <;> rw [h] <;> exact nofun
    obtain ⟨-, e⟩ | ⟨-, -, e⟩ := u.wakeOnWork_cases <;> rw [e]
    simp only [State.enterActive, beq_iff_eq, hoff, if_false]
  have hrun : u.wakeOnWork.testGo.printerRun = u.wakeOnWork.testGo :=
    State.printerRun_of_stopped (by rw [hgo, hwake]; obtain h | h := h <;> rw [h] <;> exact nofun)
      (by rw [hgo, hwake]; obtain h | h := h <;> rw [h] <;> exact nofun)
  have hsettle : u.settle.store = u.wakeOnWork.testGo.punchRun.store := by
    rw [State.settle, hrun]
    rfl
  rw [hsettle, State.punchRun_printCurrent, State.testGo_store, hstore]

/-! ### Spin-up and paper -/

section
variable {s : State} (hp : s.powered = true)
include hp

theorem exec_spinUpEnd (hs : s.printer.state = .starting) : exec .spinUpEnd s =
    .next (State.settle { s.reach (s.printer.spinUp + ms 400) with
      printer := { s.printer with state := .ready, spunUp := true }
      diag := { s.diag with idleSince := some (max s.now (s.printer.spinUp + ms 400)) } }) := by
  show execSpinUpEnd s = _
  rw [execSpinUpEnd, whenPowered_of_powered hp]
  exact congrArg _ (if_pos (beq_iff_eq.2 hs))

theorem exec_paperAbsent (hf : s.printer.state ≠ .fault) (ho : s.printer.state ≠ .paperOut) :
    exec (.paperAbsent true) s = .next (State.losePaper { s with printer := { s.printer with paperAbsent := true } }) ∧
    exec (.paperAbsent false) s = .next { s with printer := { s.printer with paperAbsent := false } } := by
  refine ⟨?_, ?_⟩
  · show execPaperAbsent s true = _
    rw [execPaperAbsent, whenPowered_of_powered hp]
    refine congrArg _ ?_
    split
    all_goals first | exact absurd ‹_› hf | exact absurd ‹_› ho | rfl
  · show execPaperAbsent s false = _
    rw [execPaperAbsent, whenPowered_of_powered hp]
    refine congrArg _ ?_
    split
    all_goals first | exact absurd ‹_› hf | exact absurd ‹_› ho | rfl

theorem exec_paperAbsent_of_paperOut (h : s.printer.state = .paperOut) :
    exec (.paperAbsent true) s = .next { s with
      printer := { s.printer with paperAbsent := true, paperMeasure := none } } ∧
    (s.printer.paperMeasure = none → exec (.paperAbsent false) s = .next { s with
      printer := { s.printer with paperAbsent := false, paperMeasure := some s.now } }) := by
  refine ⟨?_, fun hm => ?_⟩
  · show execPaperAbsent s true = _
    rw [execPaperAbsent, whenPowered_of_powered hp]
    simp only [h]
    rfl
  · show execPaperAbsent s false = _
    rw [execPaperAbsent, whenPowered_of_powered hp]
    simp only [h, hm]
    rfl

theorem exec_paperAbsent_of_fault (h : s.printer.state = .fault) (b : Bool) : exec (.paperAbsent b) s = .next s := by
  show execPaperAbsent s b = _
  rw [execPaperAbsent, whenPowered_of_powered hp]
  simp only [h]

/-- The part as it leaves PAPER OUT, its follow-ups to come (R157). -/
theorem exec_paperRestored {since : Nat} (hs : s.printer.state = .paperOut) (hm : s.printer.paperMeasure = some since) :
    exec .paperRestored s = .next (State.settle { s.reach (since + ms 2000) with
      printer := { s.printer with
        state := s.afterPaperOut, paperMeasure := none
        spinUp := if s.afterPaperOut = .starting then max s.now (since + ms 2000) else s.printer.spinUp }
      diag := { s.diag with
        idleSince := if s.afterPaperOut = .ready then some (max s.now (since + ms 2000)) else none } }) := by
  show execPaperRestored s = _
  rw [execPaperRestored, whenPowered_of_powered hp]
  simp only [hs, hm, beq_iff_eq]
  rfl

end

theorem State.afterPaperOut_eq (s : State) : s.afterPaperOut =
    if s.answer.power = .active then if s.printer.spunUp = true then .ready else .starting else .off := by
  simp only [State.afterPaperOut, beq_iff_eq]

theorem State.printerHasWork_iff (s : State) : s.printerHasWork = true ↔ s.store.printWork = true ∨
    s.printer.pendingFeeds ≠ 0 ∨ s.printer.returnOwed = true ∨ s.printer.motion ≠ .none := by
  simp only [State.printerHasWork, Bool.or_eq_true, bne_iff_ne, or_assoc]

theorem State.printerOnce_of_ready {s : State} (h : s.printer.state = .ready) : s.printerOnce =
    if s.printerHasWork = true then some { s with
      printer := { s.printer with state := .printing }, diag := { s.diag with idleSince := none } } else none := by
  unfold State.printerOnce
  rw [h]

theorem State.printerOnce_of_printing {s : State} (h : s.printer.state = .printing) : s.printerOnce =
    if s.printerHasWork = true then s.printingWork else some { s with
      printer := { s.printer with state := .ready }, diag := { s.diag with idleSince := some s.now } } := by
  unfold State.printerOnce
  rw [h]

/-- Settles O57. -/
theorem spinUpAndPaperAreTaken : Obligations.SpinUpAndPaperAreTaken := by
  refine ⟨fun c s t hshape hs h => ?_, fun c s t h x hx => ?_, fun s => ⟨s.printerHasWork_iff, fun hs hw => ?_,
    fun hs hw => ?_, fun hs hw => ?_, fun hs hw => ?_, State.printerOnce_of_stopped, s.printer.busy_iff, rfl⟩,
    fun s hp => ⟨fun hs ha => ?_, fun hs hstop => ?_, fun hs hb hstop => ?_, fun hf ho => ⟨fun hstop => ?_, ?_⟩,
      exec_paperAbsent_of_paperOut hp, exec_paperAbsent_of_fault hp, rfl, fun since hs hm => ?_⟩⟩
  · exact (exec_done_or_begun h).elim (fun hd => hd.printerAtWork hshape hs) State.Begun.printerAtWork
  · exact (exec_done_or_begun h).elim (fun hd => hd.idleSince hx) fun hb => by rw [hb.idle] at hx; cases hx
  · rw [State.printerOnce_of_ready hs, if_pos hw]
  · rw [State.printerOnce_of_printing hs, if_neg (by simp [hw])]
  · rw [State.printerOnce_of_printing hs, if_pos hw]
  · rw [State.printerOnce_of_ready hs, if_neg (by simp [hw])]
  · refine ⟨_, exec_spinUpEnd hp hs, ?_⟩
    obtain ⟨w, hw⟩ : ∃ w : State, w = { s.reach (s.printer.spinUp + ms 400) with
      printer := { s.printer with state := .ready, spunUp := true }
      diag := { s.diag with idleSince := some (max s.now (s.printer.spinUp + ms 400)) } } := ⟨_, rfl⟩
    rw [← hw]
    have hf := w.settle_followUp
    have ha' : w.answer.power = .active := by rw [hw]; exact ha
    refine ⟨hf.now.trans (by rw [hw]; rfl), State.settle_printer_state ha' (.inl (by rw [hw])),
      (w.settle_runs.active ha').2.trans (by rw [hw]), hf.column.trans (by rw [hw]), hf.latched.trans (by rw [hw])⟩
  · have hns : s.printer.state ≠ .fault ∧ s.printer.state ≠ .paperOut := by
      obtain hs | hs | hs | ⟨hs, -⟩ := hs <;> rw [hs] <;> exact ⟨nofun, nofun⟩
    refine ⟨_, (exec_paperAbsent hp hns.1 hns.2).1, ?_⟩
    obtain ⟨w, hw⟩ : ∃ w : State, w = { s with printer := { s.printer with paperAbsent := true } } := ⟨_, rfl⟩
    have hlose : w.losePaper = w.dropHand.enterPaperOut.settle := by
      obtain ⟨hstop', -⟩ | ⟨hs', hb, -⟩ | ⟨-, e⟩ := w.losePaper_cases
      · rw [hw] at hstop'
        exact absurd hstop' hstop
      · rw [hw] at hs' hb
        obtain hs | hs | hs | ⟨-, hs⟩ := hs
        · exact nomatch hs.symm.trans hs'
        · exact nomatch hs.symm.trans hs'
        · exact nomatch hs.symm.trans hs'
        · exact nomatch hs.symm.trans hb
      · exact e
    rw [← hw, hlose]
    obtain ⟨b, hand, hdrop, -⟩ := w.dropHand_frame
    have hf := w.dropHand.enterPaperOut.settle_followUp
    have hprinter := State.settle_printer_of_unavailable (u := w.dropHand.enterPaperOut) (.inl rfl)
    have hcurrent := State.settle_printCurrent (u := w.dropHand.enterPaperOut) (.inl rfl)
    refine ⟨hf.paperOut.2 rfl, ?_, hf.pendingFeeds, ?_, ?_, fun k hk hst => ?_, fun r r' hr hr' => ?_, fun hc => ?_,
      fun hc => ?_, ?_, ?_, ?_⟩
    · rw [hf.latched]
      exact (State.mem_latch w.dropHand .paperOut .paperOut).2 (.inl rfl)
    · rw [hf.paperMeasure, hdrop, hw]
      rfl
    · rw [hf.paperAbsent, hdrop, hw]
      rfl
    · have hwaiting : w.dropHand = _ := State.dropHand_of_waiting (k := k) (by rw [hw]; exact hk) hst
      obtain ⟨hwait, -, hhand⟩ := w.dropHand.enterPaperOut.settle_runs.print (by rw [hwaiting]; rfl)
      refine ⟨?_, hwait⟩
      have hnone : w.dropHand.enterPaperOut.printer.hand = none := by rw [hwaiting]; rfl
      obtain e | ⟨k', hk', -⟩ := hhand
      · exact e.trans hnone
      · rw [hnone] at hk'
        cases hk'
    · rw [hr', show w.dropHand.enterPaperOut.store.printCurrent = some r by rw [hdrop, hw, ← hr]; rfl] at hcurrent
      exact (congrArg (fun x => x.print.pos) (Option.some.inj hcurrent) :)
    · rw [hf.returnOwed, hdrop, hw]
      simp [State.enterPaperOut, State.stopPrinter, State.latch, hc]
    · rw [hf.returnOwed, hdrop, hw]
      simp [State.enterPaperOut, State.stopPrinter, State.latch, hc]
    · rw [hprinter, hdrop, hw]
      rfl
    · rw [hprinter, hdrop, hw]
      rfl
    · rw [hf.column, hdrop, hw]
      rfl
  · rw [(exec_paperAbsent hp (by rw [hs]; exact nofun) (by rw [hs]; exact nofun)).1]
    refine congrArg _ ?_
    obtain ⟨hstop', -⟩ | ⟨-, -, e⟩ | ⟨hn, -⟩ := State.losePaper_cases { s with printer := { s.printer with paperAbsent := true } }
    · exact absurd hstop' hstop
    · exact e
    · exact absurd ⟨hs, hb⟩ hn
  · rw [(exec_paperAbsent hp hf ho).1]
    refine congrArg _ (if_pos (beq_iff_eq.2 ?_))
    exact hstop
  · exact (exec_paperAbsent hp hf ho).2
  · refine ⟨_, exec_paperRestored hp hs hm, ?_⟩
    obtain ⟨w, hw⟩ : ∃ w : State, w = { s.reach (since + ms 2000) with
      printer := { s.printer with
        state := s.afterPaperOut, paperMeasure := none
        spinUp := if s.afterPaperOut = .starting then max s.now (since + ms 2000) else s.printer.spinUp }
      diag := { s.diag with
        idleSince := if s.afterPaperOut = .ready then some (max s.now (since + ms 2000)) else none } } := ⟨_, rfl⟩
    have hstate : w.printer.state = s.afterPaperOut := by rw [hw]
    rw [← hw]
    have hf := w.settle_followUp
    have hnow : w.settle.now = max s.now (since + 528000) := hf.now.trans (by rw [hw]; rfl)
    refine ⟨hnow, hf.paperMeasure.trans (by rw [hw]), hf.returnOwed.trans (by rw [hw]), fun ha hs => ?_, fun ha hs => ?_,
      fun ha hprint hpunch => ?_⟩
    · have hstarting : s.afterPaperOut = .starting := by rw [State.afterPaperOut_eq, if_pos ha, hs]; rfl
      have hwstate := hstate.trans hstarting
      have hprinter := State.settle_printer_of_stopped (u := w) (by rw [hwstate]; exact nofun) (by rw [hwstate]; exact nofun)
        (.inl (by rw [hwstate]; exact nofun))
      refine ⟨(congrArg Printer.state hprinter :).trans hwstate, ?_⟩
      rw [hprinter, hnow, hw]
      exact if_pos hstarting
    · have hready : s.afterPaperOut = .ready := by rw [State.afterPaperOut_eq, if_pos ha, hs]; rfl
      exact State.settle_printer_state (by rw [hw]; exact ha) (.inl (hstate.trans hready))
    · have hoff : s.afterPaperOut = .off := by rw [State.afterPaperOut_eq, if_neg ha]
      have hwstate := hstate.trans hoff
      have hnowork : ¬w.store.work := by
        rw [hw]
        rintro (hn | hn)
        · exact nomatch hprint.symm.trans hn
        · exact nomatch hpunch.symm.trans hn
      have hprinter := State.settle_printer_of_stopped (u := w) (by rw [hwstate]; exact nofun) (by rw [hwstate]; exact nofun)
        (.inr (State.wakeOnWork_of_no_work hnowork))
      exact (congrArg Printer.state hprinter :).trans hwstate

end Sys2Proof.Machine
end

section
/-! # The rows of the punch -/
namespace Sys2Proof.Machine

/-! ### Claims -/

theorem Store.punchCurrent_eq_none_iff (st : Store) : st.punchCurrent = none ↔
    ∀ r ∈ st.recs, ∀ p, r.punch = some p → p.done = true ∨ p.skipped = true := by
  simp only [Store.punchCurrent, List.find?_eq_none, Bool.not_eq_true, Rec.punchLive_eq_false_iff]

theorem Store.punchWork_iff (st : Store) : st.punchWork = true ↔
    ∃ r ∈ st.recs, ∃ p, r.punch = some p ∧ p.done = false ∧ p.skipped = false := by
  simp only [Store.punchWork, List.any_eq_true, Rec.punchLive_iff]

theorem State.claimEnded_iff (s : State) : s.claimEnded = true ↔ s.punch.state = .running ∧ 10 ≤ s.punch.leader ∧
    ∃ r, s.store.punchCurrent = some r ∧ r.isOpen = false ∧ r.length ≤ r.punchPos := by
  unfold State.claimEnded
  cases s.store.punchCurrent with
  | none => simp
  | some r => simp [and_assoc]

theorem State.finishEnded_of_ended {s : State} {r : Rec} (hs : s.punch.state = .running) (hl : 10 ≤ s.punch.leader)
    (hr : s.store.punchCurrent = some r) (ho : r.isOpen = false) (hp : r.length ≤ r.punchPos) :
    s.finishEnded = s.finishPunch :=
  if_pos ((State.claimEnded_iff s).2 ⟨hs, hl, r, hr, ho, hp⟩)

theorem State.finishEnded_of_not_ended {s : State} (h : s.punch.state ≠ .running ∨ s.punch.leader < 10 ∨
    s.store.punchCurrent = none ∨
    (∃ r, s.store.punchCurrent = some r ∧ (r.isOpen = true ∨ r.punchPos < r.length))) : s.finishEnded = s := by
  refine if_neg fun hc => ?_
  obtain ⟨hs, hl, r, hr, ho, hp⟩ := (State.claimEnded_iff s).1 hc
  obtain h | h | h | ⟨r', hr', h⟩ := h
  · exact h hs
  · omega
  · exact nomatch h.symm.trans hr
  · obtain rfl := Option.some.inj (hr'.symm.trans hr)
    obtain h | h := h
    · exact nomatch h.symm.trans ho
    · omega

/-- Finishing a claim changes claims and the leader count alone (R181). -/
theorem State.finishEnded_frame (s : State) : ∃ recs leader, s.finishEnded =
    { s with store := { s.store with recs := recs }, punch := { s.punch with leader := leader } } := by
  unfold State.finishEnded
  split <;> exact ⟨_, _, rfl⟩

/-! ### One step of the punch -/

theorem State.testTurn_iff (s : State) (n : Nat) : s.testTurn n = true ↔
    ∃ w, s.diag.sweep = some w ∧ w.index = n ∧ w.stage ≠ .granted := by
  unfold State.testTurn
  cases s.diag.sweep with
  | none => simp
  | some w => simp

theorem State.advanceBlocked_iff (s : State) : s.advanceBlocked = true ↔ s.arb.holder = some .test ∨
    ∃ w, s.diag.sweep = some w ∧ w.index = 15 ∧ w.stage ≠ .granted := by
  simp only [State.advanceBlocked, Bool.or_eq_true, beq_iff_eq, State.testTurn_iff]

theorem Punch.manualUnderWay_iff (p : Punch) : p.manualUnderWay = true ↔
    p.manual ≠ 0 ∨ ∃ r, p.row = some r ∧ r.content = .manual := by
  unfold Punch.manualUnderWay Punch.manualRow
  cases p.row with
  | none => simp
  | some r => simp

theorem State.runClaim_of_ended {s : State} {x : Rec} (hs : s.punch.state = .running) (hx : s.store.punchCurrent = some x)
    (hl : 10 ≤ s.punch.leader) (hp : x.length ≤ x.punchPos) :
    s.runClaim = if x.isOpen = true then none else some s.finishEnded := by
  unfold State.runClaim
  rw [hx]
  dsimp only
  rw [if_neg (Nat.not_lt.2 hl), if_neg (Nat.not_lt.2 hp)]
  split
  next => rfl
  next ho => rw [State.finishEnded_of_ended hs hl hx (by simpa using ho) hp]

/-! ### The leader count -/

/-- A claim with leader or rows still to make, or of an OPEN record, is not finished (R181). -/
structure State.Unended (s : State) (n : Nat) : Prop where
  leader : s.punch.leader = n
  claim : n < 10 ∨ ∀ x, s.store.punchCurrent = some x → x.isOpen = true ∨ x.punchPos < x.length

theorem State.punchOnce_unended {u v : State} {n : Nat} (h : u.punchOnce = some v) (hu : u.Unended n) : v.Unended n := by
  have htake : ∀ c, (u.takeRow c).Unended n := fun c => by
    obtain ⟨r, hr, -⟩ := u.takeRow_row c
    refine ⟨?_, ?_⟩
    · rw [hr]
      exact hu.leader
    · rw [State.takeRow_store]
      exact hu.claim
  unfold State.punchOnce at h
  split at h
  next =>
    split at h <;> cases h
    exact ⟨hu.leader, hu.claim⟩
  next =>
    split at h
    · cases h
    · split at h
      next => split at h <;> cases h; exact htake _
      next => split at h <;> cases h; exact htake _
      next =>
        unfold State.runClaim at h
        split at h
        next => cases h; exact ⟨hu.leader, hu.claim⟩
        next x hx =>
          split at h
          · cases h; exact htake _
          · split at h
            · cases h; exact htake _
            · rename_i hl hp
              split at h
              · cases h
              · rename_i ho
                obtain hn | hn := hu.claim
                · exact absurd (hu.leader ▸ hn) hl
                · obtain hn | hn := hn x hx
                  · exact absurd hn ho
                  · exact absurd hn hp
      all_goals cases h

/-- The follow-ups keep the leader count of a claim that is not finished (R181). -/
theorem State.settle_leader {u : State} {n : Nat} (h : u.Unended n) : u.settle.punch.leader = n := by
  obtain ⟨v, hv, -, e⟩ := u.settle_readies
  have hunended : v.Unended n := by
    refine ⟨by rw [hv.punch]; exact h.leader, h.claim.imp_right fun hc x hx => ?_⟩
    have hcurrent := hv.current
    rw [hx, Option.map_some] at hcurrent
    obtain ⟨x', hx', he⟩ := Option.map_eq_some_iff.1 hcurrent.symm
    have hpos : x'.punchPos = x.punchPos := (congrArg Rec.punchPos he :)
    have hlength : x'.length = x.length := (congrArg Rec.length he :)
    have hopen : x'.isOpen = x.isOpen := (congrArg Rec.isOpen he :)
    rw [← hpos, ← hlength, ← hopen]
    exact hc x' hx'
  rw [e]
  exact (repeatWhile_induct (P := fun w => w.Unended n) (fun _ _ => State.punchOnce_unended) punchFuel hunended).leader

/-! ### The row's cycle -/

section
variable {s : State} (hp : s.powered = true)
include hp

theorem exec_takingAClaim {x : Rec} (hs : s.punch.state = .idle) (hx : s.store.punchCurrent = some x)
    (ha : s.answer.power = .active) (hm : s.punch.manualUnderWay = false) (hd : s.driversHeld = false) :
    exec .takingAClaim s = .next (State.settle { s with punch := { s.punch with state := .running } }) := by
  show execTakingAClaim s = _
  rw [execTakingAClaim, whenPowered_of_powered hp]
  exact congrArg _ (if_pos (by simp [hs, hx, ha, hm, hd]))

theorem exec_advancingEnd {r : Row} (hr : s.punch.row = some r) (hs : r.stage = .advancing) :
    exec .advancingEnd s = .next (State.settle { s.reach (r.since + ms 20) with
      punch := { s.punch with row := some { r with stage := .settling, since := max s.now (r.since + ms 20) } } }) := by
  show execAdvancingEnd s = _
  rw [execAdvancingEnd, whenPowered_of_powered hp]
  simp only [hr]
  exact congrArg _ (if_pos (beq_iff_eq.2 hs))

theorem exec_rowSettlingEnd {r : Row} (hr : s.punch.row = some r) (hs : r.stage = .settling) :
    exec .rowSettlingEnd s =
      .next ((s.rowEnded (r.since + ms 22)).countRow r.content).finishEnded.afterRow.settle := by
  show execRowSettlingEnd s = _
  rw [execRowSettlingEnd, whenPowered_of_powered hp]
  simp only [hr]
  exact congrArg _ (if_pos (beq_iff_eq.2 hs))

end

/-- Settles O58. -/
theorem punchRowsRun : Obligations.PunchRowsRun := by
  refine ⟨fun st l l' r p hrecs hl hr hd hs => ?_, fun st => ⟨st.punchCurrent_eq_none_iff, st.punchWork_iff⟩,
    fun s => ⟨s.advanceBlocked_iff, s.punch.manualUnderWay_iff, fun r hr => State.punchOnce_of_row hr,
      fun hrow => ⟨State.punchOnce_of_held hrow, fun ha hd take htake => ?_⟩⟩,
    fun s => ⟨fun r l hs hl hr ho hpos hrecs => ?_, State.finishEnded_of_not_ended⟩,
    fun s hp => ⟨fun x hs hx ha hm hd => ⟨_, exec_takingAClaim hp hs hx ha hm hd, ?_⟩,
      fun r hr hs => ⟨_, exec_advancingEnd hp hr hs, ?_⟩, fun r u hr hs hleader hmanual hcell =>
        ⟨_, exec_rowSettlingEnd hp hr hs, ?_⟩⟩⟩
  · have hdead : ∀ x ∈ l, x.punchLive = false := fun x hx => x.punchLive_eq_false_iff.2 (hl x hx)
    have hlive : r.punchLive = true := r.punchLive_iff.2 ⟨p, hr, hd, hs⟩
    refine ⟨?_, by rw [Rec.punchPos, hr], fun f => ?_⟩
    · rw [Store.punchCurrent, hrecs]
      exact find?_append_cons l' hdead hlive
    · rw [Store.onPunch, hrecs, updateFirst_append_cons f l' hdead hlive]
  · have htake' : ∀ c, take c = s.takeRow c := htake
    refine ⟨fun hs => ?_, fun hs hx => ?_, fun x hs hx => ⟨fun hl => ?_, fun hl hpos => ?_, fun hl hpos => ?_⟩⟩
    · rw [State.punchOnce_of_rest hrow ha hd hs, htake']
    · rw [State.punchOnce_of_running hrow ha hd hs, State.runClaim, hx]
    · rw [State.punchOnce_of_running hrow ha hd hs, State.runClaim, hx, htake']
      exact if_pos hl
    · rw [State.punchOnce_of_running hrow ha hd hs, State.runClaim, hx, htake']
      dsimp only
      rw [if_neg (Nat.not_lt.2 hl), if_pos hpos]
    · rw [State.punchOnce_of_running hrow ha hd hs, State.runClaim_of_ended hs hx hl hpos]
  · rw [State.finishEnded_of_ended hs hl hr ho hpos, hrecs]
    rfl
  · have hf : FollowUp s (State.settle { s with punch := { s.punch with state := .running } }) := by
      refine FollowUp.trans ?_ (State.settle_followUp _)
      constructor
      case suspended | tapeOut | punchFault => rw [hs]; exact ⟨nofun, nofun⟩
      all_goals first | rfl | exact Nat.le_refl _ | exact recordsStand _ | exact .inl rfl | exact .inl ⟨rfl, rfl⟩
    refine ⟨hf, fun hrow hl => ?_, fun hrow hl hpos => ?_⟩
    all_goals
      obtain ⟨hleader, hcell⟩ := State.settle_of_claim (u := { s with punch := { s.punch with state := .running } })
        hrow ha hd rfl hx
    · obtain ⟨r, hr, hc⟩ := hleader hl
      exact ⟨congrArg Punch.state hr, (congrArg Punch.leader hr :), r, congrArg Punch.row hr, hc⟩
    · obtain ⟨r, hr, hc⟩ := hcell hl hpos
      exact ⟨congrArg Punch.state hr, (congrArg Punch.leader hr :), r, congrArg Punch.row hr, hc⟩
  · obtain ⟨v, -, -, e⟩ := State.settle_of_row (u := { s.reach (r.since + ms 20) with
      punch := { s.punch with row := some { r with stage := .settling, since := max s.now (r.since + ms 20) } } }) rfl
    refine ⟨?_, (FollowUp.setRow (s.reach (r.since + ms 20)) rfl _).trans (State.settle_followUp _)⟩
    rw [e]
    rfl
  · have hu : (s.rowEnded (r.since + ms 22)).countRow r.content = u := by
      cases hc : r.content with
      | leader => exact (hleader hc).symm
      | manual => exact (hmanual hc).symm
      | cell c => exact (hcell c hc).symm
    rw [hu]
    have hrow : u.punch.row = none ∧ u.punch.tapeOutPending = s.punch.tapeOutPending ∧
        u.punch.suspendPending = s.punch.suspendPending := by
      rw [← hu]
      cases r.content <;> exact ⟨rfl, rfl, rfl⟩
    obtain ⟨hrow, htape, hsuspend⟩ := hrow
    obtain ⟨recs, leader, hfinish⟩ := u.finishEnded_frame
    refine ⟨fun ht hn => ?_, fun ht => ?_, fun ht hn => ?_⟩
    · have hafter : u.finishEnded.afterRow = u.finishEnded := by
        unfold State.afterRow
        rw [hfinish]
        dsimp only
        rw [htape, ht, hsuspend, hn]
        rfl
      rw [hafter]
      refine ⟨State.settle_followUp _, fun hc hl => ?_, fun hc hl x hx ho => ?_⟩
      · have hlead : u.punch.leader = s.punch.leader + 1 := by rw [hleader hc]
        rw [State.finishEnded_of_not_ended (.inr (.inl (by omega)))]
        exact State.settle_leader ⟨hlead, .inl (by omega)⟩
      · have hlead : u.punch.leader = 10 := by rw [hleader hc, hl]
        have hstore : u.store = s.store := by rw [hleader hc]; rfl
        have hcurrent : u.store.punchCurrent = some x := by rw [hstore, hx]
        rw [State.finishEnded_of_not_ended (.inr (.inr (.inr ⟨x, hcurrent, ho⟩)))]
        exact State.settle_leader ⟨hlead, .inr fun y hy => by
          obtain rfl := Option.some.inj (hcurrent.symm.trans hy)
          exact ho⟩
    · have hafter : u.finishEnded.afterRow = u.finishEnded.enterTapeOut := by
        unfold State.afterRow
        refine if_pos ?_
        rw [hfinish]
        exact htape.trans ht
      rw [hafter]
      have hf := u.finishEnded.enterTapeOut.settle_followUp
      have hrest := State.settle_of_rowless (u := u.finishEnded.enterTapeOut) (by rw [hfinish]; exact hrow) (.inl rfl)
      refine ⟨hf, hf.tapeOut.2 rfl, ?_, hf.manual, (congrArg Punch.leader hrest.punch :), ?_⟩
      · rw [hrest.punch, hfinish]
        exact hrow
      · rw [hf.latched]
        exact (State.mem_latch u.finishEnded .tapeOut .tapeOut).2 (.inl rfl)
    · have hafter : u.finishEnded.afterRow = { u.finishEnded with
          punch := { u.finishEnded.punch with state := .suspended, suspendPending := false } } := by
        unfold State.afterRow
        rw [hfinish]
        dsimp only
        rw [htape, ht, hsuspend, hn]
        rfl
      rw [hafter]
      refine ⟨State.settle_followUp _, fun hm => ?_⟩
      have hrest := State.settle_of_rowless (u := { u.finishEnded with
          punch := { u.finishEnded.punch with state := .suspended, suspendPending := false } })
        (by rw [hfinish]; exact hrow) (.inr (.inr ⟨.inr rfl, by rw [hfinish]; exact hm⟩))
      rw [hrest.punch]
      exact ⟨rfl, by rw [hfinish]; exact hrow, rfl⟩

end Sys2Proof.Machine
end

section
/-! # The walk of a record -/
namespace Sys2Proof.Machine

/-! ### Print claims -/

theorem Store.printCurrent_eq_none_iff (st : Store) : st.printCurrent = none ↔ ∀ r ∈ st.recs, r.print.done = true := by
  simp [Store.printCurrent]

theorem Store.printWork_iff (st : Store) : st.printWork = true ↔ ∃ r ∈ st.recs, r.print.done = false := by
  simp [Store.printWork]

section
variable {st : Store} {l l' : List Rec} {r : Rec} (hrecs : st.recs = l ++ r :: l') (hl : ∀ x ∈ l, x.print.done = true)
  (hr : r.print.done = false)
include hrecs hl hr

theorem Store.printCurrent_of_split : st.printCurrent = some r := by
  rw [Store.printCurrent, hrecs]
  exact find?_append_cons l' (fun x hx => by simp [hl x hx]) (by simp [hr])

theorem Store.onPrint_of_split (f : Rec → Rec) : st.onPrint f = { st with recs := l ++ f r :: l' } := by
  rw [Store.onPrint, hrecs, updateFirst_append_cons f l' (fun x hx => by simp [hl x hx]) (by simp [hr])]

end

/-! ### Motion -/

theorem State.driversHeld_iff (s : State) : s.driversHeld = true ↔ ∃ w, s.diag.sweep = some w ∧ w.kind = .selfCheck := by
  unfold State.driversHeld
  cases s.diag.sweep with
  | none => simp
  | some w => simp

theorem State.motionBlocked_iff (s : State) : s.motionBlocked = true ↔ s.driversHeld = true ∨ s.arb.holder = some .test ∨
    ∃ w, s.diag.sweep = some w ∧ w.index = 16 ∧ w.stage ≠ .granted := by
  simp only [State.motionBlocked, Bool.or_eq_true, beq_iff_eq, State.testTurn_iff, or_assoc]

theorem permittedSteps_eq {col : Option Nat} {p : Nat} (hnone : col = none → p = 88) (hsome : ∀ n, col = some n → p = n + 8) :
    permittedSteps col = p := by
  cases col with
  | none => exact (hnone rfl).symm
  | some n => exact (hsome n rfl).symm

section
variable {s : State}

theorem State.begin_of_blocked (h : s.motionBlocked = true) (c : MotionCause) (k : Hand) :
    s.beginReturn c = none ∧ s.beginFeed c = none ∧ s.beginStep k = none :=
  ⟨if_pos h, if_pos h, if_pos h⟩

theorem State.beginReturn_of_free (h : s.motionBlocked = false) (c : MotionCause) : s.beginReturn c = some { s with
    printer := { s.printer with
      pair := .none, motion := .carriage 0 (permittedSteps s.printer.column) false s.now c } } :=
  if_neg (by simp [h])

theorem State.beginFeed_of_free (h : s.motionBlocked = false) (c : MotionCause) : s.beginFeed c = some { s with
    printer := { s.printer with pair := .none, selector := .feed, motion := .feed s.now c } } :=
  if_neg (by simp [h])

theorem State.beginStep_of_free (h : s.motionBlocked = false) (k : Hand) : s.beginStep k = some { s with
    printer := { s.printer with motion := .step s.now, hand := some { k with stage := .stepping } } } :=
  if_neg (by simp [h])

end

/-! ### Decimal -/

/-- A count in decimal digits, the first no zero but for the count 0 (R147). -/
theorem plainDecimal_digits {n : Nat} (hn : n ≤ 65535) : ∃ ds : List Nat,
    plainDecimal n = ds.map (fun d => BitVec.ofNat 7 (0x30 + d)) ∧ (∀ d ∈ ds, d ≤ 9) ∧
    ds.foldl (fun a d => 10 * a + d) 0 = n ∧ ds ≠ [] ∧ (ds.head? = some 0 → ds = [0]) := by
  unfold plainDecimal
  by_cases h1 : n < 10
  · refine ⟨[n % 10], if_pos h1, ?_, ?_, nofun, ?_⟩ <;> simp <;> omega
  by_cases h2 : n < 100
  · rw [if_neg h1, if_pos h2]
    refine ⟨[n / 10 % 10, n % 10], rfl, ?_, ?_, nofun, ?_⟩ <;> simp <;> omega
  by_cases h3 : n < 1000
  · rw [if_neg h1, if_neg h2, if_pos h3]
    refine ⟨[n / 100 % 10, n / 10 % 10, n % 10], rfl, ?_, ?_, nofun, ?_⟩ <;> simp <;> omega
  by_cases h4 : n < 10000
  · rw [if_neg h1, if_neg h2, if_neg h3, if_pos h4]
    refine ⟨[n / 1000 % 10, n / 100 % 10, n / 10 % 10, n % 10], rfl, ?_, ?_, nofun, ?_⟩ <;> simp <;> omega
  · rw [if_neg h1, if_neg h2, if_neg h3, if_neg h4]
    refine ⟨[n / 10000 % 10, n / 1000 % 10, n / 100 % 10, n / 10 % 10, n % 10], rfl, ?_, ?_, nofun, ?_⟩ <;> simp <;> omega

/-! ### The phases of a record -/

section
variable {s : State} {r : Rec}

theorem State.awaitSlot_eq (s : State) : s.awaitSlot = if s.printer.column = some 72
    then some { s with printer := { s.printer with pair := .both } } else none := by
  simp only [State.awaitSlot, beq_iff_eq]
  rfl

theorem State.alignThen_eq (s next : State) : s.alignThen next =
    if s.printer.column = some 0 then next else { s with printer := { s.printer with pair := .both } } := by
  simp only [State.alignThen, beq_iff_eq]
  rfl

theorem State.phaseWork_none (h : s.printer.phase = .none) :
    s.phaseWork r = some { s with printer := { s.printer with phase := .align, index := 0 } } := by
  unfold State.phaseWork
  rw [h]
  rfl

theorem State.phaseWork_align (h : s.printer.phase = .align) : s.phaseWork r = some (if s.printer.column = some 0
    then { s with printer := { s.printer with phase := .heading, index := 0 } }
    else { s with printer := { s.printer with pair := .both } }) := by
  unfold State.phaseWork
  rw [h, ← State.alignThen_eq]
  rfl

theorem State.phaseWork_heading (h : s.printer.phase = .heading) : s.phaseWork r =
    if s.printer.index < r.heading.length then s.awaitSlot
    else some { s with printer := { s.printer with phase := .text, index := 0 } } := by
  unfold State.phaseWork
  rw [h]
  rfl

theorem State.phaseWork_text (h : s.printer.phase = .text) :
    (r.print.pos < r.length → s.phaseWork r = s.takeCell (s.store.cell (r.start + r.print.pos))) ∧
    (r.length ≤ r.print.pos → s.phaseWork r = if r.isOpen = true then none
      else some { s with printer := { s.printer with phase := .closing, index := 0 } }) := by
  unfold State.phaseWork
  rw [h]
  exact ⟨fun hp => if_pos hp, fun hp => if_neg (Nat.not_lt.2 hp)⟩

theorem State.phaseWork_closing (h : s.printer.phase = .closing) : s.phaseWork r = some (if s.printer.column = some 0
    then { s with printer := { s.printer with phase := .endLines, index := 0 } }
    else { s with printer := { s.printer with pair := .both } }) := by
  unfold State.phaseWork
  rw [h, ← State.alignThen_eq]
  rfl

theorem State.phaseWork_endLines (h : s.printer.phase = .endLines) : s.phaseWork r =
    if s.printer.index < r.endLines.length then s.awaitSlot
    else some { s.finishPrint with printer := { s.printer with phase := .none, index := 0 } } := by
  unfold State.phaseWork
  rw [h]
  rfl

end

theorem isPrinting_iff (c : Code) : isPrinting c = true ↔ 0x20 ≤ c.toNat := by
  simp [isPrinting]

/-- A control code that the printer passes over, rings the bell for or leaves (R148). -/
theorem State.takeCell_control (s : State) {c : Code} (h : c.toNat < 0x20) (hcr : c ≠ 0x0D#7) (hlf : c ≠ 0x0A#7)
    (hbell : c ≠ 0x07#7) : s.takeCell c = some { s with
      store := s.store.onPrint fun x => { x with print := { x.print with pos := x.print.pos + 1 } } } := by
  unfold State.takeCell
  rw [if_neg (by rw [isPrinting_iff]; omega), if_neg hcr, if_neg hlf, if_neg hbell]
  rfl

theorem State.takeCell_bell (s : State) : s.takeCell 0x07#7 = some { s with
    bells := if s.answer.attend = .attended then s.bells + 1 else s.bells
    store := s.store.onPrint fun x => { x with print := { x.print with pos := x.print.pos + 1 } } } := by
  unfold State.takeCell
  rw [if_neg (by decide), if_neg (by decide), if_neg (by decide), if_pos rfl]
  by_cases h : s.answer.attend = .attended
  · rw [if_pos (beq_iff_eq.2 h), if_pos h]
    rfl
  · rw [if_neg (fun hc => h (beq_iff_eq.1 hc)), if_neg h]
    rfl

end Sys2Proof.Machine
end

section
/-! # Headings, end lines, work and offers -/
namespace Sys2Proof.Machine

/-! ### Headings and end lines -/

theorem twoDigits_station (d : Station) :
    twoDigits d.toNat = [BitVec.ofNat 7 (0x30 + d.toNat / 10), BitVec.ofNat 7 (0x30 + d.toNat % 10)] := by
  rw [twoDigits, digitCode_tens]
  rfl

section
variable {r : Rec}

theorem Rec.heading_of_peer {d : Station} {nn : List Code} (hp : r.peer = some d)
    (hn : nn = [BitVec.ofNat 7 (0x30 + d.toNat / 10), BitVec.ofNat 7 (0x30 + d.toNat % 10)]) :
    (r.kind = .received → r.heading = nn ++ [0x3E#7, 0x20#7]) ∧
    (r.kind = .overheard → r.heading = nn ++ [0x3A#7, 0x20#7]) ∧
    (r.kind = .sent → r.heading = nn ++ [0x3C#7, 0x20#7]) ∧
    (r.kind = .ident → r.heading = nn ++ [0x20#7, 0x49#7, 0x53#7, 0x20#7]) := by
  rw [← twoDigits_station] at hn
  subst hn
  refine ⟨fun hk => ?_, fun hk => ?_, fun hk => ?_, fun hk => ?_⟩ <;> simp only [Rec.heading, hp, hk] <;> rfl

theorem Rec.heading_of_sent (hk : r.kind = .sent) (hp : r.peer = none) : r.heading = [0x2A#7, 0x2A#7, 0x3C#7, 0x20#7] := by
  simp only [Rec.heading, hp, hk]
  decide

theorem Rec.heading_of_own (h : r.kind = .localTyping ∨ r.kind = .confirm ∨ r.kind = .status) : r.heading = [] := by
  obtain h | h | h := h <;> simp only [Rec.heading, h]

theorem Rec.reasonLine_of_closed {reason : EndReason} (h : r.state = .closed reason) : r.reasonLine = reason.name := by
  simp only [Rec.reasonLine, h]

theorem Rec.reasonLine_of_complete (h : r.state = .opened ∨ r.state = .closed .complete) : r.reasonLine = [] := by
  obtain h | h := h
  · simp only [Rec.reasonLine, h]
  · rw [Rec.reasonLine_of_closed h]
    rfl

theorem Rec.truncatedLine_of_false (h : r.truncated = false) : r.truncatedLine = [] := by
  simp [Rec.truncatedLine, h]

theorem Rec.truncatedLine_of_true (h : r.truncated = true) : r.truncatedLine =
    [0x54#7, 0x52#7, 0x55#7, 0x4E#7, 0x43#7, 0x41#7, 0x54#7, 0x45#7, 0x44#7, 0x20#7] ++ plainDecimal r.dropped := by
  rw [Rec.truncatedLine, if_pos h]
  exact congrArg (· ++ _) (by decide)

theorem Rec.atLineEnd_succ (i : Nat) : r.atLineEnd (i + 1) = true ↔ i + 1 = r.reasonLine.length ∨ i + 1 = r.endLines.length := by
  simp [Rec.atLineEnd]

end

/-! ### The printer's next work -/

section
variable {s : State}

theorem State.printingWork_of_motion (h : s.printer.motion ≠ .none) : s.printingWork = none :=
  if_pos (by simpa using h)

theorem State.printingWork_of_hand (hm : s.printer.motion = .none) {k : Hand} (hk : s.printer.hand = some k) :
    s.printingWork = if k.stage = .stepDue then s.beginStep k else none := by
  simp [State.printingWork, hm, hk]

variable (hm : s.printer.motion = .none) (hh : s.printer.hand = none)
include hm hh

theorem State.printingWork_of_owed (hr : s.printer.returnOwed = true) : s.printingWork = s.beginReturn .owed := by
  simp [State.printingWork, hm, hh, hr]

variable (hr : s.printer.returnOwed = false)
include hr

theorem State.printingWork_of_pair (hp : s.printer.pair = .both) : s.printingWork = s.beginReturn .pair := by
  simp [State.printingWork, hm, hh, hr, hp]

theorem State.printingWork_of_feedOnly (hp : s.printer.pair = .feedOnly) : s.printingWork = s.beginFeed .pair := by
  simp [State.printingWork, hm, hh, hr, hp]

variable (hp : s.printer.pair = .none)
include hp

theorem State.printingWork_of_feed (hn : s.printer.pendingFeeds ≠ 0) : s.printingWork = s.beginFeed .feedKey := by
  simp [State.printingWork, hm, hh, hr, hp, hn]

theorem State.printingWork_of_record (hn : s.printer.pendingFeeds = 0) :
    (s.store.printCurrent = none → s.printingWork = none) ∧
    ∀ r, s.store.printCurrent = some r → s.printingWork = s.phaseWork r := by
  refine ⟨fun hc => ?_, fun r hc => ?_⟩ <;> simp [State.printingWork, hm, hh, hr, hp, hn, hc]

end

/-- What is offered at a boundary (R151). -/
theorem State.offer_iff (s : State) (c : Code) : s.offer = some c ↔ s.printer.state = .printing ∧ s.printer.motion = .none ∧
    s.printer.hand = none ∧ s.printer.returnOwed = false ∧ s.printer.pendingFeeds = 0 ∧ s.printer.pair = .none ∧
    s.printer.column ≠ some 72 ∧ s.driversHeld = false ∧ ∃ r, s.store.printCurrent = some r ∧
      ((s.printer.phase = .heading ∧ r.heading[s.printer.index]? = some c) ∨
        (s.printer.phase = .text ∧ r.print.pos < r.length ∧ s.store.cell (r.start + r.print.pos) = c ∧ 0x20 ≤ c.toNat) ∨
        (s.printer.phase = .endLines ∧ r.endLines[s.printer.index]? = some c)) := by
  have hcond : (s.printer.state == .printing && s.printer.motion == .none && s.printer.hand == none
      && !s.printer.returnOwed && s.printer.pendingFeeds == 0 && s.printer.pair == .none
      && s.printer.column != some 72 && !s.driversHeld) = true ↔ s.printer.state = .printing ∧ s.printer.motion = .none ∧
    s.printer.hand = none ∧ s.printer.returnOwed = false ∧ s.printer.pendingFeeds = 0 ∧ s.printer.pair = .none ∧
    s.printer.column ≠ some 72 ∧ s.driversHeld = false := by
    simp only [Bool.and_eq_true, beq_iff_eq, bne_iff_ne, Bool.not_eq_true', and_assoc]
  have hchar : ∀ r : Rec, (match (generalizing := false) s.printer.phase with
      | .heading => r.heading[s.printer.index]?
      | .text => if r.print.pos < r.length then
          if isPrinting (s.store.cell (r.start + r.print.pos)) = true then some (s.store.cell (r.start + r.print.pos)) else none
        else none
      | .endLines => r.endLines[s.printer.index]?
      | .none | .align | .closing => none) = some c ↔
      ((s.printer.phase = .heading ∧ r.heading[s.printer.index]? = some c) ∨
        (s.printer.phase = .text ∧ r.print.pos < r.length ∧ s.store.cell (r.start + r.print.pos) = c ∧ 0x20 ≤ c.toNat) ∨
        (s.printer.phase = .endLines ∧ r.endLines[s.printer.index]? = some c)) := by
    intro r
    cases s.printer.phase with
    | text =>
      simp only [Option.ite_none_right_eq_some, Option.some_inj, isPrinting_iff, reduceCtorEq, false_and, or_false, true_and,
        false_or]
      exact and_congr_right fun _ => ⟨fun ⟨h, e⟩ => ⟨e, e ▸ h⟩, fun ⟨e, h⟩ => ⟨e ▸ h, e⟩⟩
    | _ => simp
  unfold State.offer
  rw [Option.ite_none_right_eq_some, hcond]
  simp only [and_assoc]
  refine and_congr_right fun _ => and_congr_right fun _ => and_congr_right fun _ => and_congr_right fun _ =>
    and_congr_right fun _ => and_congr_right fun _ => and_congr_right fun _ => and_congr_right fun _ => ?_
  cases hr : s.store.printCurrent with
  | none => simp
  | some r =>
    simp only [Option.some_inj, exists_eq_left']
    exact hchar r

end Sys2Proof.Machine
end

section
/-! # Motions -/
namespace Sys2Proof.Machine

/-! ### What the follow-ups leave of a printer at a character or with a motion to begin -/

/-- A wake of a station whose printer is not OFF changes no more of the printer than that its spin-up may be past (R143). -/
theorem State.wakeOnWork_eq {u : State} (h : u.printer.state ≠ .off) : ∃ a b,
    u.wakeOnWork = { u with answer := a, printer := { u.printer with spunUp := b } } := by
  obtain ⟨-, e⟩ | ⟨-, -, e⟩ := u.wakeOnWork_cases <;> rw [e]
  · exact ⟨_, _, rfl⟩
  · refine ⟨{ u.answer with power := .active, rest := none, dormancy := none }, false, ?_⟩
    simp only [State.enterActive, beq_iff_eq, h, if_false]

/-- The walk that begins a motion goes no further (R144, R152). -/
theorem State.printerRun_of_motion {w x : State} (hs : w.printer.state = .printing) (hw : w.printerHasWork = true)
    (h : w.printingWork = some x) (hx : x.printer.motion ≠ .none) : w.printerRun = x := by
  have hstate : x.printer.state = .printing := (State.printingWork_keeps h).1.trans hs
  have honce : w.printerOnce = some x := by rw [State.printerOnce_of_printing hs, if_pos hw, h]
  refine (repeatWhile_of_some (n := storeCells + 10 * maxRecords + 15) honce).trans (repeatWhile_of_none ?_ _)
  rw [State.printerOnce_of_printing hstate, if_pos (x.printerHasWork_iff.2 (.inr (.inr (.inr hx)))),
    State.printingWork_of_motion hx]

/-- A motion that a PRINTING printer has to begin, no test being in hand, is begun by the follow-ups (R153). -/
theorem State.settle_of_motion {u : State} {m : Motion} {sel : Selector} (hs : u.printer.state = .printing)
    (hw : u.printerHasWork = true) (hsweep : u.diag.sweep = none) (hholder : u.arb.holder ≠ some .test) (hm : m ≠ .none)
    (h : ∀ v : State, v.printer = { u.printer with spunUp := v.printer.spunUp } → v.now = u.now → v.motionBlocked = false →
      ∃ x, v.printingWork = some x ∧ x.printer.motion = m ∧ x.printer.selector = sel) :
    u.settle.printer.motion = m ∧ u.settle.printer.selector = sel := by
  obtain ⟨a, b, hwake⟩ := State.wakeOnWork_eq (u := u) (by rw [hs]; exact nofun)
  have hgo : u.wakeOnWork.testGo = u.wakeOnWork := by
    have hnone : u.wakeOnWork.diag.sweep = none := by rw [hwake]; exact hsweep
    unfold State.testGo
    rw [hnone]
  have hblocked : u.wakeOnWork.motionBlocked = false := by
    rw [Bool.eq_false_iff, ne_eq, State.motionBlocked_iff, State.driversHeld_iff, hwake]
    rintro (⟨w, hw, -⟩ | hh | ⟨w, hw, -⟩)
    · exact nomatch hsweep.symm.trans hw
    · exact hholder hh
    · exact nomatch hsweep.symm.trans hw
  obtain ⟨x, hx, hmotion, hsel⟩ := h u.wakeOnWork (by rw [hwake]) (by rw [hwake]) hblocked
  have hwork : u.wakeOnWork.printerHasWork = true := by rw [hwake]; exact hw
  have hrun := State.printerRun_of_motion (by rw [hwake]; exact hs) hwork hx (by rw [hmotion]; exact hm)
  have hsettle : u.settle = x.punchRun.updateMeasures := by rw [State.settle, hgo, hrun]
  rw [hsettle]
  show x.punchRun.printer.motion = m ∧ x.punchRun.printer.selector = sel
  rw [State.punchRun_printer]
  exact ⟨hmotion, hsel⟩

/-- The printer is in the heading or the end lines of the record at hand, with a character of them next (R145). -/
structure State.AtCharacter (s : State) (p : Phase) (i : Nat) (r : Rec) : Prop where
  phase : s.printer.phase = p
  index : s.printer.index = i
  current : s.store.printCurrent = some r
  char : (p = .heading ∧ i < r.heading.length) ∨ (p = .endLines ∧ i < r.endLines.length)

section
variable {s t : State} {p : Phase} {i : Nat} {r : Rec}

theorem State.AtCharacter.congr (h : s.AtCharacter p i r) (hp : t.printer.phase = s.printer.phase)
    (hi : t.printer.index = s.printer.index) (hst : t.store = s.store) : t.AtCharacter p i r :=
  ⟨hp.trans h.phase, hi.trans h.index, by rw [hst]; exact h.current, h.char⟩

theorem State.AtCharacter.phaseWork (h : s.AtCharacter p i r) (e : s.phaseWork r = some t) : t.AtCharacter p i r := by
  have hslot : s.awaitSlot = some t → t.AtCharacter p i r := fun e => by
    rw [State.awaitSlot_eq] at e
    split at e <;> cases e
    exact h.congr rfl rfl rfl
  obtain ⟨hp, hi⟩ | ⟨hp, hi⟩ := h.char
  · rw [State.phaseWork_heading (h.phase.trans hp), if_pos (by rw [h.index]; exact hi)] at e
    exact hslot e
  · rw [State.phaseWork_endLines (h.phase.trans hp), if_pos (by rw [h.index]; exact hi)] at e
    exact hslot e

theorem State.AtCharacter.printerOnce (h : s.AtCharacter p i r) (e : s.printerOnce = some t) : t.AtCharacter p i r := by
  have hreturn : ∀ c, s.beginReturn c = some t → t.AtCharacter p i r := fun c e => by
    unfold State.beginReturn at e
    split at e <;> cases e
    exact h.congr rfl rfl rfl
  have hfeed : ∀ c, s.beginFeed c = some t → t.AtCharacter p i r := fun c e => by
    unfold State.beginFeed at e
    split at e <;> cases e
    exact h.congr rfl rfl rfl
  unfold State.printerOnce at e
  split at e
  next =>
    split at e <;> cases e
    exact h.congr rfl rfl rfl
  next =>
    split at e
    · unfold State.printingWork at e
      split at e
      · cases e
      · split at e
        · split at e
          · unfold State.beginStep at e
            split at e <;> cases e
            exact h.congr rfl rfl rfl
          · cases e
        · split at e
          · exact hreturn _ e
          · split at e
            · exact hreturn _ e
            · exact hfeed _ e
            · split at e
              · exact hfeed _ e
              · rw [h.current] at e
                exact h.phaseWork e
    · cases e
      exact h.congr rfl rfl rfl
  all_goals cases e

/-- The follow-ups leave a printer at a character where it is (R145, R151). -/
theorem State.AtCharacter.settle (h : s.AtCharacter p i r) :
    s.settle.printer.phase = p ∧ s.settle.printer.index = i := by
  have hwake : s.wakeOnWork.AtCharacter p i r := by
    obtain ⟨-, e⟩ | ⟨-, -, e⟩ := s.wakeOnWork_cases <;> rw [e]
    · exact h
    · exact h.congr rfl rfl rfl
  have hgo : s.wakeOnWork.testGo.AtCharacter p i r := by
    have hframe := s.wakeOnWork.testGo_grants.frame
    exact hwake.congr (congrArg (fun x => x.printer.phase) hframe :) (congrArg (fun x => x.printer.index) hframe :)
      (State.testGo_store _)
  have hrun : s.wakeOnWork.testGo.printerRun.AtCharacter p i r :=
    repeatWhile_induct (P := fun v => v.AtCharacter p i r) (fun _ _ e k => k.printerOnce e) _ hgo
  show s.wakeOnWork.testGo.printerRun.punchRun.printer.phase = p ∧
    s.wakeOnWork.testGo.printerRun.punchRun.printer.index = i
  rw [State.punchRun_printer]
  exact ⟨hrun.phase, hrun.index⟩

end

/-- No character comes into hand by the follow-ups (R151). -/
theorem State.settle_hand_none {u : State} (h : u.printer.hand = none) : u.settle.printer.hand = none := by
  obtain ⟨v, hv, -, e⟩ := u.settle_readies
  have hnone : v.printer.hand = none := by
    obtain e | ⟨k, hk, -⟩ := hv.hand
    · exact e.trans h
    · exact nomatch h.symm.trans hk
  rw [e]
  refine repeatWhile_induct (P := fun w => w.printer.hand = none) (fun x y hxy hx => ?_) _ hnone
  have htake : ∀ c, (x.takeRow c).printer.hand = none := fun c => by
    obtain e | e := (State.request_grants
      { x with punch := { x.punch with row := some { content := c, stage := .waiting, since := x.now } } }
      (p := .punch) nofun).hand
    · exact e.trans hx
    · exact e.trans (by rw [show _ = none from hx]; rfl)
  unfold State.punchOnce State.runClaim at hxy
  repeat' split at hxy
  all_goals cases hxy
  all_goals first | exact hx | exact htake _

/-! ### Stops that waited -/

section
variable {s : State} (h : s.printer.busy = false)
include h

theorem State.applyStop_of_none (hs : s.printer.stop = .none) : s.applyStop = s := by
  simp [State.applyStop, h, hs]

theorem State.applyStop_of_paperOut (hs : s.printer.stop = .paperOut) : s.applyStop = s.enterPaperOut := by
  simp [State.applyStop, h, hs]

theorem State.applyStop_of_fault (hs : s.printer.stop = .fault) : s.applyStop = s.enterPrinterFault := by
  simp [State.applyStop, h, hs]

end

theorem Printer.not_busy {p : Printer} (hm : p.motion = .none) (hh : p.hand = none) : p.busy = false := by
  simp [Printer.busy, hm, hh]

/-- A stop with nothing in hand: what it leaves once its follow-ups are made (R156, R159). -/
theorem State.settle_enterPaperOut (v : State) : FollowUp v.enterPaperOut v.enterPaperOut.settle ∧
    v.enterPaperOut.settle.printer.state = .paperOut ∧ v.enterPaperOut.settle.printer.phase = v.printer.phase ∧
    v.enterPaperOut.settle.printer.index = v.printer.index ∧ v.enterPaperOut.settle.printer.motion = v.printer.motion ∧
    Event.paperOut ∈ v.enterPaperOut.settle.diag.latched := by
  have hf := v.enterPaperOut.settle_followUp
  have hprinter := State.settle_printer_of_unavailable (u := v.enterPaperOut) (.inl rfl)
  refine ⟨hf, hf.paperOut.2 rfl, ?_, ?_, ?_, ?_⟩
  · exact (congrArg Printer.phase hprinter :)
  · exact (congrArg Printer.index hprinter :)
  · exact (congrArg Printer.motion hprinter :)
  · rw [hf.latched]
    exact (State.mem_latch v .paperOut .paperOut).2 (.inl rfl)

theorem State.settle_enterPrinterFault (v : State) : FollowUp v.enterPrinterFault v.enterPrinterFault.settle ∧
    v.enterPrinterFault.settle.printer.state = .fault ∧ v.enterPrinterFault.settle.printer.phase = v.printer.phase ∧
    v.enterPrinterFault.settle.printer.index = v.printer.index ∧
    v.enterPrinterFault.settle.printer.motion = v.printer.motion ∧
    v.enterPrinterFault.settle.printer.column = v.printer.column ∧
    v.enterPrinterFault.settle.printer.pendingFeeds = 0 ∧
    v.enterPrinterFault.settle.diag.latched = v.diag.latched := by
  obtain ⟨b, hand, e, -⟩ := v.enterPrinterFault_frame
  have hf := v.enterPrinterFault.settle_followUp
  have hprinter := State.settle_printer_of_unavailable (u := v.enterPrinterFault) (.inr (by rw [e]))
  refine ⟨hf, hf.printerFault.2 (by rw [e]), ?_, ?_, ?_, ?_, ?_, ?_⟩
  · exact (congrArg Printer.phase hprinter :).trans (by rw [e])
  · exact (congrArg Printer.index hprinter :).trans (by rw [e])
  · exact (congrArg Printer.motion hprinter :).trans (by rw [e])
  · exact hf.column.trans (by rw [e])
  · exact hf.pendingFeeds.trans (by rw [e])
  · exact hf.latched.trans (by rw [e])

end Sys2Proof.Machine
end

section
/-! # The ends of the motions -/
namespace Sys2Proof.Machine

section
variable {s : State} (hp : s.powered = true)
include hp

theorem exec_stepEnd {since : Nat} (hm : s.printer.motion = .step since) :
    exec .stepEnd s = .next (State.characterPrinted { s.reach (since + ms 10) with printer := { s.printer with
      motion := .none, hand := none, column := s.printer.column.map (· + 1) } }).applyStop.settle := by
  show execStepEnd s = _
  rw [execStepEnd, whenPowered_of_powered hp]
  simp only [hm]
  rfl

theorem exec_carriageReturnStep {steps permitted since : Nat} {cause : MotionCause}
    (hm : s.printer.motion = .carriage steps permitted false since cause) (h : steps < permitted) (home : Bool) :
    exec (.carriageReturnStep home) s = .next { s.reach (since + ms (10 * steps)) with printer := { s.printer with
      motion := if home = true then .carriage steps permitted true (max s.now (since + ms (10 * steps))) cause
        else .carriage (steps + 1) permitted false since cause } } := by
  show execCarriageReturnStep home s = _
  rw [execCarriageReturnStep, whenPowered_of_powered hp]
  simp only [hm]
  exact congrArg _ (if_pos h)

theorem exec_jam {steps permitted since : Nat} {cause : MotionCause}
    (hm : s.printer.motion = .carriage steps permitted false since cause) (h : permitted ≤ steps) :
    exec .jam s = .next (State.enterPrinterFault { (s.reach (since + ms (10 * steps))).latch .jam with
      printer := { s.printer with motion := .none } }).settle := by
  show execJam s = _
  rw [execJam, whenPowered_of_powered hp]
  simp only [hm]
  exact congrArg _ (if_pos h)

theorem exec_carriageReturnEnd {steps permitted since : Nat} {cause : MotionCause}
    (hm : s.printer.motion = .carriage steps permitted true since cause) :
    exec .carriageReturnEnd s = .next (State.applyStop { s.reach (since + ms 40) with
      printer := { s.printer with
        motion := .none, column := some 0, returnOwed := false
        pair := if cause = .pair then .feedOnly else s.printer.pair }
      store := if cause = .cell
        then s.store.onPrint fun x => { x with print := { x.print with pos := x.print.pos + 1 } }
        else s.store }).settle := by
  show execCarriageReturnEnd s = _
  rw [execCarriageReturnEnd, whenPowered_of_powered hp]
  simp only [hm]
  cases cause <;> rfl

theorem exec_lineFeedEnd {since : Nat} {cause : MotionCause} (hm : s.printer.motion = .feed since cause) :
    exec .lineFeedEnd s = .next (State.applyStop { s.reach (since + ms 70) with
      printer := { s.printer with
        motion := .none, selector := .carriage
        pendingFeeds := if cause = .feedKey then s.printer.pendingFeeds - 1 else s.printer.pendingFeeds }
      store := if cause = .cell
        then s.store.onPrint fun x => { x with print := { x.print with pos := x.print.pos + 1 } }
        else s.store }).settle := by
  show execLineFeedEnd s = _
  rw [execLineFeedEnd, whenPowered_of_powered hp]
  simp only [hm]
  cases cause <;> rfl

end

/-! ### A character printed -/

section
variable {u : State}

theorem State.characterPrinted_text (h : u.printer.phase = .text) : u.characterPrinted = { u with
    store := u.store.onPrint fun x => { x with print := { x.print with pos := x.print.pos + 1 } } } := by
  unfold State.characterPrinted
  rw [h]
  rfl

theorem State.characterPrinted_heading (h : u.printer.phase = .heading) :
    u.characterPrinted = { u with printer := { u.printer with index := u.printer.index + 1 } } := by
  unfold State.characterPrinted
  rw [h]

theorem State.characterPrinted_endLines (h : u.printer.phase = .endLines) {r : Rec} (hr : u.store.printCurrent = some r) :
    u.characterPrinted = { u with printer := { u.printer with
      index := u.printer.index + 1
      pair := if u.printer.index + 1 = r.reasonLine.length ∨ u.printer.index + 1 = r.endLines.length then .both
        else u.printer.pair } } := by
  simp only [State.characterPrinted, h, hr, Rec.atLineEnd_succ]
  split <;> rfl

theorem State.characterPrinted_other (h : u.printer.phase = .none ∨ u.printer.phase = .align ∨ u.printer.phase = .closing) :
    u.characterPrinted = u := by
  unfold State.characterPrinted
  obtain h | h | h := h <;> rw [h]

end

/-- Counting a character changes the printer's index and its pair, and the print claims (R147, R152). -/
theorem State.characterPrinted_frame (u : State) : ∃ st i p, u.characterPrinted =
    { u with store := st, printer := { u.printer with index := i, pair := p } } := by
  unfold State.characterPrinted
  split
  · exact ⟨_, _, _, rfl⟩
  · exact ⟨_, _, _, rfl⟩
  · dsimp only
    split
    · split <;> exact ⟨_, _, _, rfl⟩
    · exact ⟨_, _, _, rfl⟩
  all_goals exact ⟨_, _, _, rfl⟩

/-- A PRINTING printer that owes a pair, or its feed, and nothing before it, begins it (R153). -/
theorem State.settle_of_pair {v : State} (hs : v.printer.state = .printing) (hw : v.store.printWork = true)
    (hsweep : v.diag.sweep = none) (hholder : v.arb.holder ≠ some .test) (hm : v.printer.motion = .none)
    (hh : v.printer.hand = none) (hr : v.printer.returnOwed = false) :
    (v.printer.pair = .both →
      v.settle.printer.motion = .carriage 0 (permittedSteps v.printer.column) false v.now .pair) ∧
    (v.printer.pair = .feedOnly →
      v.settle.printer.motion = .feed v.now .pair ∧ v.settle.printer.selector = .feed) := by
  have hwork := v.printerHasWork_iff.2 (.inl hw)
  refine ⟨fun hpair => ?_, fun hpair => ?_⟩
  · refine (State.settle_of_motion (m := .carriage 0 (permittedSteps v.printer.column) false v.now .pair)
      (sel := v.printer.selector) hs hwork hsweep hholder nofun fun w hprinter hnow hb => ?_).1
    rw [State.printingWork_of_pair (by rw [hprinter]; exact hm) (by rw [hprinter]; exact hh) (by rw [hprinter]; exact hr)
      (by rw [hprinter]; exact hpair), State.beginReturn_of_free hb]
    refine ⟨_, rfl, ?_, ?_⟩
    · dsimp only
      rw [hnow, hprinter]
    · dsimp only
      rw [hprinter]
  · refine State.settle_of_motion hs hwork hsweep hholder nofun fun w hprinter hnow hb => ?_
    rw [State.printingWork_of_feedOnly (by rw [hprinter]; exact hm) (by rw [hprinter]; exact hh)
      (by rw [hprinter]; exact hr) (by rw [hprinter]; exact hpair), State.beginFeed_of_free hb]
    refine ⟨_, rfl, ?_, rfl⟩
    dsimp only
    rw [hnow]

theorem Store.printWork_of_current {st : Store} {r : Rec} (h : st.printCurrent = some r) : st.printWork = true :=
  st.printWork_iff.2 ⟨r, List.mem_of_find?_eq_some h, by simpa using List.find?_some h⟩

/-- Settles O56. -/
theorem motionsRun : Obligations.MotionsRun := by
  refine ⟨fun st l l' r hrecs hl hr => ⟨Store.printCurrent_of_split hrecs hl hr, Store.onPrint_of_split hrecs hl hr⟩,
    fun st => ⟨st.printCurrent_eq_none_iff, st.printWork_iff⟩, fun s l l' r hrecs hl hr => ?_,
    fun s => ⟨s.driversHeld_iff, s.motionBlocked_iff⟩,
    ⟨fun t => rfl, rfl, rfl, rfl, rfl, rfl, rfl, rfl⟩, fun n => plainDecimal_digits,
    fun s r => ⟨State.phaseWork_none, State.phaseWork_align, State.phaseWork_heading, fun h => (State.phaseWork_text h).1,
      fun h => (State.phaseWork_text h).2, State.phaseWork_closing, State.phaseWork_endLines, s.awaitSlot_eq⟩,
    fun s c => ⟨fun h => if_pos ((isPrinting_iff c).2 h), rfl, rfl, s.takeCell_bell, fun h => s.takeCell_control h⟩,
    fun r => ⟨fun d nn => Rec.heading_of_peer, Rec.heading_of_sent, Rec.heading_of_own, rfl, Rec.reasonLine_of_complete,
      fun reason => Rec.reasonLine_of_closed, Rec.truncatedLine_of_false, Rec.truncatedLine_of_true⟩,
    fun s => ⟨State.printingWork_of_motion, fun hm k => State.printingWork_of_hand hm,
      fun hm hh => ⟨State.printingWork_of_owed hm hh, fun hr => ⟨State.printingWork_of_pair hm hh hr,
        State.printingWork_of_feedOnly hm hh hr, State.printingWork_of_feed hm hh hr, State.printingWork_of_record hm hh hr⟩⟩,
      State.begin_of_blocked, fun hb c k => ⟨fun p hnone hsome => ?_, State.beginFeed_of_free hb c, State.beginStep_of_free hb k⟩,
      s.offer_iff⟩,
    fun s hp => ⟨fun since u v hm hu htext hheading hendLines hother => ?_,
      fun steps permitted since cause hm => ⟨fun h => ?_, fun h => ⟨_, exec_jam hp hm h, ?_⟩⟩,
      fun steps permitted since cause u hm hh hu => ?_,
      fun since cause u hm hh hu => ?_⟩⟩
  · have hdone : s.store.onPrint Rec.donePrint = _ := Store.onPrint_of_split hrecs hl hr Rec.donePrint
    rw [State.finishPrint, hdone]
    rfl
  · rw [← permittedSteps_eq hnone hsome]
    exact State.beginReturn_of_free hb c
  · have hexec : exec .stepEnd s = .next u.characterPrinted.applyStop.settle := by
      rw [hu]
      exact exec_stepEnd hp hm
    have hphase : u.printer.phase = s.printer.phase := by rw [hu]
    have hstore : u.store = s.store := by rw [hu]; rfl
    have hindex : u.printer.index = s.printer.index := by rw [hu]
    have hpair : u.printer.pair = s.printer.pair := by rw [hu]
    have hv : u.characterPrinted = v := by
      cases hph : s.printer.phase with
      | none => rw [hother (.inl hph), State.characterPrinted_other (.inl (hphase.trans hph))]
      | align => rw [hother (.inr (.inl hph)), State.characterPrinted_other (.inr (.inl (hphase.trans hph)))]
      | closing => rw [hother (.inr (.inr hph)), State.characterPrinted_other (.inr (.inr (hphase.trans hph)))]
      | heading => rw [hheading hph, State.characterPrinted_heading (hphase.trans hph), hindex]
      | text => rw [htext hph, State.characterPrinted_text (hphase.trans hph), hstore]
      | endLines =>
        obtain ⟨r, hr, hv⟩ := hendLines hph
        rw [hv, State.characterPrinted_endLines (hphase.trans hph) (by rw [hstore, hr]), hindex, hpair]
    obtain ⟨st, i, pair, hframe⟩ := u.characterPrinted_frame
    rw [hv, hu] at hframe
    have hmotion : v.printer.motion = .none := by rw [hframe]
    have hhand : v.printer.hand = none := by rw [hframe]
    have hbusy := Printer.not_busy hmotion hhand
    have hstop : v.printer.stop = s.printer.stop := by rw [hframe]
    have hvphase : v.printer.phase = s.printer.phase := by rw [hframe]
    rw [hv] at hexec
    refine ⟨_, hexec, fun hs => ?_, fun hs => ?_, fun hs => ?_⟩
    · rw [State.applyStop_of_none hbusy (hstop.trans hs)]
      have hf := v.settle_followUp
      refine ⟨hf, fun r hph hr hlt => ?_, fun r hph hr => ⟨fun hlt => ?_, fun hst hro hsw hho hend => ?_⟩⟩
      · have hv' := hheading hph
        exact State.AtCharacter.settle (r := r) ⟨hvphase.trans hph, by rw [hv'], by rw [hv']; exact hstore ▸ hr,
          .inl ⟨rfl, hlt⟩⟩
      · obtain ⟨r', hr', hv'⟩ := hendLines hph
        exact State.AtCharacter.settle (r := r) ⟨hvphase.trans hph, by rw [hv'], by rw [hv']; exact hstore ▸ hr,
          .inr ⟨rfl, hlt⟩⟩
      · obtain ⟨r', hr', hv'⟩ := hendLines hph
        obtain rfl := Option.some.inj (hr'.symm.trans hr)
        have hwork : v.store.printWork = true := Store.printWork_of_current (r := r') (by rw [hv']; exact hstore ▸ hr)
        have hboth : v.printer.pair = .both := by
          rw [hv']
          exact if_pos hend
        rw [hf.now]
        exact ⟨_, (State.settle_of_pair (v := v) (by rw [hframe]; exact hst) hwork (by rw [hframe]; exact hsw)
          (by rw [hframe]; exact hho) hmotion hhand (by rw [hframe]; exact hro)).1 hboth⟩
    · rw [State.applyStop_of_paperOut hbusy (hstop.trans hs)]
      obtain ⟨hf, hst, hph, hi, hmo, hl⟩ := v.settle_enterPaperOut
      exact ⟨hf, hst, hph.trans hvphase, hi, State.settle_hand_none hhand, hmo.trans hmotion, hl⟩
    · rw [State.applyStop_of_fault hbusy (hstop.trans hs)]
      obtain ⟨hf, hst, hph, hi, hmo, -⟩ := v.settle_enterPrinterFault
      refine ⟨hf, hst, hph.trans hvphase, hi, State.settle_hand_none ?_, hmo.trans hmotion⟩
      obtain ⟨b, hand, e, hn⟩ := v.enterPrinterFault_frame
      rw [e]
      exact hn.elim id (·.trans hhand)
  · exact ⟨exec_carriageReturnStep hp hm h true, exec_carriageReturnStep hp hm h false⟩
  · obtain ⟨-, hst, hph, hi, hmo, hc, hfeeds, hl⟩ := State.settle_enterPrinterFault
      { (s.reach (since + ms (10 * steps))).latch .jam with printer := { s.printer with motion := .none } }
    refine ⟨hst, hmo, hfeeds, hc, hph, hi, ?_⟩
    rw [hl]
    exact (State.mem_latch (s.reach (since + ms (10 * steps))) .jam .jam).2 (.inl rfl)
  · have hexec : exec .carriageReturnEnd s = .next u.applyStop.settle := by
      rw [hu]
      exact exec_carriageReturnEnd hp hm
    have hmotion : u.printer.motion = .none := by rw [hu]
    have hhand : u.printer.hand = none := by rw [hu]; exact hh
    have hbusy := Printer.not_busy hmotion hhand
    have hstop : u.printer.stop = s.printer.stop := by rw [hu]
    have howed : u.printer.returnOwed = false := by rw [hu]
    have hcolumn : u.printer.column = some 0 := by rw [hu]
    refine ⟨_, hexec, fun hs => ?_, fun hs => ?_, fun hs => ?_⟩
    · rw [State.applyStop_of_none hbusy (hstop.trans hs)]
      have hf := u.settle_followUp
      refine ⟨hf, fun hc hst hw hsw hho => ?_⟩
      rw [hf.now]
      refine (State.settle_of_pair (v := u) (by rw [hu]; exact hst) ?_ (by rw [hu]; exact hsw) (by rw [hu]; exact hho)
        hmotion hhand howed).2 ?_
      · rw [hu, hc]
        exact hw
      · rw [hu]
        exact if_pos hc
    · rw [State.applyStop_of_paperOut hbusy (hstop.trans hs)]
      obtain ⟨hf, hst, -, -, -, hl⟩ := u.settle_enterPaperOut
      have hprinter := State.settle_printer_of_unavailable (u := u.enterPaperOut) (.inl rfl)
      refine ⟨hf, hst, hf.column.trans hcolumn, hf.returnOwed.trans ?_, (congrArg Printer.pair hprinter :), hl⟩
      show (u.printer.returnOwed || u.printer.column != some 0) = false
      rw [howed, hcolumn]
      rfl
    · rw [State.applyStop_of_fault hbusy (hstop.trans hs)]
      obtain ⟨hf, hst, -, -, -, hc, -⟩ := u.settle_enterPrinterFault
      exact ⟨hf, hst, hc.trans hcolumn⟩
  · have hexec : exec .lineFeedEnd s = .next u.applyStop.settle := by
      rw [hu]
      exact exec_lineFeedEnd hp hm
    have hbusy := Printer.not_busy (p := u.printer) (by rw [hu]) (by rw [hu]; exact hh)
    have hstop : u.printer.stop = s.printer.stop := by rw [hu]
    have hcolumn : u.printer.column = s.printer.column := by rw [hu]
    refine ⟨_, hexec, ?_, fun hs => ?_, fun hs => ?_, fun hs => ?_⟩
    · obtain hs | hs | hs : u.printer.stop = .none ∨ u.printer.stop = .paperOut ∨ u.printer.stop = .fault := by
        cases u.printer.stop <;> simp
      · rw [State.applyStop_of_none hbusy hs]
        exact u.settle_followUp.column.trans hcolumn
      · rw [State.applyStop_of_paperOut hbusy hs]
        exact u.enterPaperOut.settle_followUp.column.trans hcolumn
      · rw [State.applyStop_of_fault hbusy hs]
        obtain ⟨-, -, -, -, -, hc, -⟩ := u.settle_enterPrinterFault
        exact hc.trans hcolumn
    · rw [State.applyStop_of_none hbusy (hstop.trans hs)]
      exact u.settle_followUp
    · rw [State.applyStop_of_paperOut hbusy (hstop.trans hs)]
      obtain ⟨hf, hst, -, -, -, hl⟩ := u.settle_enterPaperOut
      exact ⟨hf, hst, hf.pendingFeeds, hl⟩
    · rw [State.applyStop_of_fault hbusy (hstop.trans hs)]
      obtain ⟨hf, hst, -, -, -, -, hfeeds, -⟩ := u.settle_enterPrinterFault
      exact ⟨hf, hst, hfeeds⟩

end Sys2Proof.Machine
end

section
/-! # The ends of the grants -/
namespace Sys2Proof.Machine

/-! ### A TEST request where the supply is free -/

/-- No TEST request waits where the supply is free and not low (R163). -/
def Arbiter.TestServed (a : Arbiter) : Prop := a.holder = none → a.supplyLow = false → a.waitTest = false

theorem State.grantIfFree_testServed (s : State) : s.grantIfFree.arb.TestServed := by
  unfold Arbiter.TestServed
  intro hh hl
  obtain e | ⟨p, -, -, -, e⟩ := s.grantIfFree_cases
  · rw [e] at hh hl ⊢
    refine Classical.byContradiction fun ht => ?_
    have hgrant := State.grantIfFree_of_choice hh hl (Arbiter.choice_of_test (by simpa using ht))
    have hnone : (s.giveGrant .test).arb.holder = none := by rw [← hgrant, e, hh]
    cases hnone
  · rw [e] at hh
    cases hh

theorem State.testGo_testServed {s : State} (h : s.arb.TestServed) : s.testGo.arb.TestServed := by
  obtain e | ⟨w, -, -, -, e⟩ := s.testGo_cases <;> rw [e]
  · exact h
  · exact State.grantIfFree_testServed _

/-- A test asked for leaves the character in hand as it was (R163). -/
theorem State.testGo_hand (s : State) : s.testGo.printer.hand = s.printer.hand := by
  obtain e | ⟨w, -, -, -, e⟩ := s.testGo_cases
  · rw [e]
  · obtain e' | ⟨p, -, -, hp, e'⟩ := State.grantIfFree_cases ({ s with
      diag := { s.diag with sweep := some { w with stage := .waiting s.now } }, arb := s.arb.setWait .test true } : State)
    · rw [e.trans e']
    · obtain rfl : Party.test = p := Option.some.inj ((Arbiter.choice_of_test rfl).symm.trans hp)
      rw [e.trans e']
      rfl

/-- A row taken in hand has the supply granted to no test (R163, R180). -/
theorem State.takeRow_sweep {s : State} (h : s.arb.TestServed) (c : RowContent) : (s.takeRow c).arb.TestServed ∧
    (s.takeRow c).diag.sweep = s.diag.sweep ∧
    ((s.takeRow c).arb.holder = some .test ↔ s.arb.holder = some .test) := by
  refine ⟨State.grantIfFree_testServed _, ?_⟩
  obtain e | ⟨p, hn, hl, hp, e⟩ := State.grantIfFree_cases
      ({ s with punch := { s.punch with row := some { content := c, stage := .waiting, since := s.now } }
                arb := s.arb.setWait .punch true } : State)
  · rw [show s.takeRow c = _ from e]
    exact ⟨rfl, Iff.rfl⟩
  · have hholder : s.arb.holder = none := hn
    have hwait : s.arb.waitTest = false := h hholder hl
    rw [show s.takeRow c = _ from e, hholder]
    cases p with
    | test => exact absurd (hwait.symm.trans (Arbiter.waits_of_choice hp)) (by decide)
    | print => exact ⟨rfl, nofun, nofun⟩
    | punch => exact ⟨rfl, nofun, nofun⟩

/-- The punch's follow-ups leave the tests as they were (R195). -/
theorem State.punchRun_sweep {s : State} (h : s.arb.TestServed) : s.punchRun.diag.sweep = s.diag.sweep ∧
    (s.punchRun.arb.holder = some .test ↔ s.arb.holder = some .test) := by
  refine (repeatWhile_induct (P := fun v => v.arb.TestServed ∧ v.diag.sweep = s.diag.sweep ∧
    (v.arb.holder = some .test ↔ s.arb.holder = some .test)) (fun u v hv hu => ?_) punchFuel ⟨h, rfl, Iff.rfl⟩).2
  obtain ⟨hserved, hsweep, hholder⟩ := hu
  have htake : ∀ c, (u.takeRow c).arb.TestServed ∧ (u.takeRow c).diag.sweep = s.diag.sweep ∧
      ((u.takeRow c).arb.holder = some .test ↔ s.arb.holder = some .test) := fun c => by
    obtain ⟨kserved, ksweep, kholder⟩ := State.takeRow_sweep hserved c
    exact ⟨kserved, ksweep.trans hsweep, kholder.trans hholder⟩
  unfold State.punchOnce State.runClaim at hv
  repeat' split at hv
  all_goals cases hv
  all_goals first | exact htake _ | exact ⟨hserved, hsweep, hholder⟩

theorem State.motionBlocked_congr {s t : State} (hsweep : t.diag.sweep = s.diag.sweep)
    (hholder : t.arb.holder = some .test ↔ s.arb.holder = some .test) : t.motionBlocked = s.motionBlocked := by
  rw [Bool.eq_iff_iff, State.motionBlocked_iff, State.motionBlocked_iff, State.driversHeld_iff, State.driversHeld_iff,
    hsweep, hholder]

/-! ### The step of a fired character -/

/-- A character whose request does not wait is in hand as before once the supply is granted (R162). -/
theorem State.grantIfFree_hand {s : State} (h : s.arb.waitPrint = false) : s.grantIfFree.printer.hand = s.printer.hand := by
  obtain e | ⟨p, -, -, hp, e⟩ := s.grantIfFree_cases <;> rw [e]
  cases p with
  | print => exact absurd (h.symm.trans (Arbiter.waits_of_choice hp)) (by decide)
  | punch => rfl
  | test => rfl

/-- So it is once the punch has made its follow-ups. -/
theorem State.punchRun_hand {s : State} (h : s.arb.waitPrint = false) : s.punchRun.printer.hand = s.printer.hand := by
  refine (repeatWhile_induct (P := fun v => v.arb.waitPrint = false ∧ v.printer.hand = s.printer.hand)
    (fun u v hv hu => ?_) punchFuel ⟨h, rfl⟩).2
  obtain ⟨hwait, hhand⟩ := hu
  have htake : ∀ c, (u.takeRow c).arb.waitPrint = false ∧ (u.takeRow c).printer.hand = s.printer.hand := fun c =>
    ⟨((u.takeRow_runs c).print hwait).1, (State.grantIfFree_hand (s := { u with
      punch := { u.punch with row := some { content := c, stage := .waiting, since := u.now } }
      arb := u.arb.setWait .punch true }) hwait).trans hhand⟩
  unfold State.punchOnce State.runClaim at hv
  repeat' split at hv
  all_goals cases hv
  all_goals first | exact htake _ | exact ⟨hwait, hhand⟩

/-- A step that is due begins with the follow-ups unless motion is held back (R152, R195). -/
theorem State.settle_of_stepDue {u : State} {k : Hand} (hserved : u.arb.TestServed) (hw : u.arb.waitPrint = false)
    (hs : u.printer.state = .printing) (hwork : u.store.printWork = true) (hm : u.printer.motion = .none)
    (hk : u.printer.hand = some k) (hdue : k.stage = .stepDue) : u.settle.printer.hand = some
      (if u.settle.motionBlocked = true then k else { k with stage := .stepping }) := by
  obtain ⟨a, b, hwake⟩ := State.wakeOnWork_eq (u := u) (by rw [hs]; exact nofun)
  obtain ⟨g, hg⟩ : ∃ g, g = u.wakeOnWork.testGo := ⟨_, rfl⟩
  have hready : Readies u g := hg ▸ u.wakeOnWork_readies.trans (State.testGo_readies _)
  have hgserved : g.arb.TestServed := hg ▸ State.testGo_testServed (by rw [hwake]; exact hserved)
  have hgw : g.arb.waitPrint = false := hready.waits.1.trans hw
  have hframe := u.wakeOnWork.testGo_grants.frame
  rw [← hg, hwake] at hframe
  have hghand : g.printer.hand = some k := by
    rw [hg, State.testGo_hand, hwake]
    exact hk
  have hgs : g.printer.state = .printing := (congrArg (fun x => x.printer.state) hframe :).trans hs
  have hgm : g.printer.motion = .none := (congrArg (fun x => x.printer.motion) hframe :).trans hm
  have hgwork : g.printerHasWork = true :=
    g.printerHasWork_iff.2 (.inl ((congrArg (fun x => x.store.printWork) hframe :).trans hwork))
  have hwork' := State.printingWork_of_hand hgm hghand
  rw [if_pos hdue] at hwork'
  have hsettle : u.settle = g.printerRun.punchRun.updateMeasures := by rw [hg]; rfl
  have hrun : g.printerRun.arb = g.arb ∧ g.printerRun.diag.sweep = g.diag.sweep :=
    ⟨(congrArg State.arb g.printerRun_walks.frame :), (congrArg (fun x => x.diag.sweep) g.printerRun_walks.frame :)⟩
  obtain ⟨hsweep, hholder⟩ := State.punchRun_sweep (s := g.printerRun) (by rw [hrun.1]; exact hgserved)
  have hblocked : u.settle.motionBlocked = g.motionBlocked := by
    rw [hsettle]
    exact State.motionBlocked_congr (t := g.printerRun.punchRun.updateMeasures) (hsweep.trans hrun.2)
      (hholder.trans (by rw [hrun.1]))
  have hhand : u.settle.printer.hand = g.printerRun.printer.hand := by
    rw [hsettle]
    exact State.punchRun_hand (by rw [hrun.1]; exact hgw)
  rw [hhand, hblocked]
  cases hb : g.motionBlocked with
  | true =>
    rw [(State.begin_of_blocked hb .cell k).2.2] at hwork'
    have honce : g.printerOnce = none := by rw [State.printerOnce_of_printing hgs, if_pos hgwork, hwork']
    rw [State.printerRun, repeatWhile_of_none honce, hghand]
    rfl
  | false =>
    rw [State.beginStep_of_free hb] at hwork'
    rw [State.printerRun_of_motion hgs hgwork hwork' nofun]
    rfl

end Sys2Proof.Machine
end

section
/-! # What the end of a grant hands on -/
namespace Sys2Proof.Machine

/-! ### The supply handed back -/

/-- A grant once given stands as it is (R162). -/
def State.GrantStands (s t : State) : Prop :=
  s.arb.holder ≠ none → t.arb.holder = s.arb.holder ∧ t.arb.until' = s.arb.until' ∧ t.arb.last = s.arb.last

section
variable {b t : State} (h : b.grantIfFree.GrantStands t) (hn : t.now = b.now) (hb : b.arb.holder = none)
  (hl : b.arb.supplyLow = false)
include h hn hb hl

theorem State.granted_stands {p : Party} (hp : b.arb.choice = some p) : t.arb.holder = some p ∧
    t.arb.until' = t.now + grantTime p ∧ t.arb.last = if p == .test then b.arb.last else p := by
  unfold State.GrantStands at h
  rw [State.grantIfFree_of_choice hb hl hp] at h
  rw [hn]
  exact h nofun

/-- TEST goes first where its request waits (R163). -/
theorem State.granted_test (ht : b.arb.waitTest = true) :
    t.arb.holder = some .test ∧ t.arb.until' = t.now + 528 ∧ t.arb.last = b.arb.last :=
  State.granted_stands h hn hb hl (Arbiter.choice_of_test ht)

theorem State.granted_print (ht : b.arb.waitTest = false) (hw : b.arb.waitPrint = true)
    (hp : b.arb.waitPunch = false ∨ b.arb.last = .punch) :
    t.arb.holder = some .print ∧ t.arb.until' = t.now + 2112 ∧ t.arb.last = .print :=
  State.granted_stands h hn hb hl (Arbiter.choice_of_print ht hw hp)

theorem State.granted_punch (ht : b.arb.waitTest = false) (hw : b.arb.waitPunch = true)
    (hp : b.arb.waitPrint = false ∨ b.arb.last = .print) :
    t.arb.holder = some .punch ∧ t.arb.until' = t.now + 2112 ∧ t.arb.last = .punch :=
  State.granted_stands h hn hb hl (Arbiter.choice_of_punch ht hw hp)

end

/-- Where the punch asks for nothing it is as before once the supply is granted (R162). -/
theorem State.grantIfFree_punch {s : State} (h : s.arb.waitPunch = false) : s.grantIfFree.punch = s.punch ∧
    s.grantIfFree.arb.waitPunch = false ∧ (s.arb.holder = none → s.grantIfFree.arb.holder ≠ some .punch) := by
  obtain e | ⟨p, -, -, hp, e⟩ := s.grantIfFree_cases <;> rw [e]
  · exact ⟨rfl, h, fun hn => by rw [hn]; nofun⟩
  · cases p with
    | punch => exact absurd (h.symm.trans (Arbiter.waits_of_choice hp)) (by decide)
    | print => exact ⟨rfl, h, nofun⟩
    | test => exact ⟨rfl, h, nofun⟩

/-! ### The end of a PRINT grant -/

section
variable {s : State} (hp : s.powered = true)
include hp

theorem exec_grantEnd_print (f : TestFinding) {k : Hand} (hh : s.arb.holder = some .print) (hk : s.printer.hand = some k)
    (hs : s.printer.state ≠ .fault) : exec (.grantEnd f) s = .next (State.settle (State.grantIfFree
      { s.reach s.arb.until' with
        arb := { s.arb with holder := none }
        printer := { s.printer with hand := some { k with stage := .stepDue } } })) := by
  show execGrantEnd f s = _
  rw [execGrantEnd, whenPowered_of_powered hp]
  simp only [hh]
  have hend : (s.reach s.arb.until').endPrintGrant = State.handBack { s.reach s.arb.until' with
      printer := { s.printer with hand := some { k with stage := .stepDue } } } := by
    unfold State.endPrintGrant
    simp only [State.reach, hk, beq_iff_eq, hs, if_false, Option.map_some]
  rw [hend]
  rfl

theorem exec_grantEnd_punch (f : TestFinding) (hh : s.arb.holder = some .punch) :
    (s.punch.faultPending = true → exec (.grantEnd f) s = .next (State.settle (State.grantIfFree
      { (s.reach s.arb.until').enterPunchFault with arb := { s.arb with holder := none } }))) ∧
    (∀ r, s.punch.faultPending = false → s.punch.row = some r → exec (.grantEnd f) s = .next (State.settle
      (State.grantIfFree { s.reach s.arb.until' with
        arb := { s.arb with holder := none }
        punch := { s.punch with
          row := some { r with stage := .advanceDue, since := max s.now s.arb.until' } } }))) := by
  have hexec : exec (.grantEnd f) s = .next (s.reach s.arb.until').endPunchGrant.settle := by
    show execGrantEnd f s = _
    rw [execGrantEnd, whenPowered_of_powered hp]
    simp only [hh]
  rw [hexec]
  refine ⟨fun hf => ?_, fun r hf hr => ?_⟩
  · have hend : (s.reach s.arb.until').endPunchGrant = (s.reach s.arb.until').enterPunchFault.handBack :=
      congrArg State.handBack (if_pos hf)
    rw [hend]
    rfl
  · have hend : (s.reach s.arb.until').endPunchGrant = State.handBack { s.reach s.arb.until' with
        punch := { s.punch with row := some { r with stage := .advanceDue, since := max s.now s.arb.until' } } } := by
      refine congrArg State.handBack ((if_neg (by rw [show (s.reach s.arb.until').punch = s.punch from rfl, hf]; nofun)).trans ?_)
      simp only [State.reach, hr, Option.map_some]
    rw [hend]
    rfl

end

/-- What the end of a PRINT grant hands on: `b` is the part with the step due and the supply free (R152, R162). -/
theorem State.printGrantEnded {b t : State} {k : Hand} (ht : b.grantIfFree.settle = t)
    (hw : b.arb.waitPrint = false) (hk : b.printer.hand = some k) (hdue : k.stage = .stepDue) :
    FollowUp b t ∧ Runs b t ∧ b.grantIfFree.GrantStands t ∧ ∃ k', t.printer.hand = some k' ∧
      (k' = k ∨ k' = { k with stage := .stepping }) ∧ (b.printer.state = .printing → b.store.printWork = true →
        b.printer.motion = .none → (k'.stage = .stepping ↔ t.motionBlocked = false)) := by
  obtain ⟨w, hw'⟩ : ∃ w, w = b.grantIfFree := ⟨_, rfl⟩
  rw [← hw'] at ht ⊢
  have hrw : Runs b w := hw' ▸ b.grantIfFree_runs
  have hrt : Runs w t := ht ▸ w.settle_runs
  refine ⟨(hw' ▸ b.grantIfFree_followUp : FollowUp b w).trans (ht ▸ w.settle_followUp), hrw.trans hrt, hrt.held, ?_⟩
  obtain ⟨-, -, hhand⟩ := (hrw.trans hrt).print hw
  obtain ⟨k', hk', hcases⟩ : ∃ k', t.printer.hand = some k' ∧ (k' = k ∨ k' = { k with stage := .stepping }) := by
    obtain e | ⟨x, hx, -, e⟩ := hhand
    · exact ⟨k, e.trans hk, .inl rfl⟩
    · obtain rfl := Option.some.inj (hk.symm.trans hx)
      exact ⟨_, e, .inr rfl⟩
  refine ⟨k', hk', hcases, fun hs hwork hm => ?_⟩
  have hframe := b.grantIfFree_grants.frame
  rw [← hw'] at hframe
  have hstep := State.settle_of_stepDue (u := w) (k := k) (hw' ▸ b.grantIfFree_testServed) (hrw.print hw).1
    ((congrArg (fun x => x.printer.state) hframe :).trans hs) ((congrArg (fun x => x.store.printWork) hframe :).trans hwork)
    ((congrArg (fun x => x.printer.motion) hframe :).trans hm) (hw' ▸ (State.grantIfFree_hand hw).trans hk) hdue
  rw [ht, hk'] at hstep
  obtain rfl := Option.some.inj hstep
  cases t.motionBlocked with
  | true => simp [hdue]
  | false => simp

/-- What the end of a PUNCH grant hands on: `b` is the part with the row's advance due, or in FAULT without a row, and the
supply free (R162, R180, R189). -/
theorem State.punchGrantEnded {b t : State} (ht : b.grantIfFree.settle = t) (hh : b.arb.holder = none)
    (hw : b.arb.waitPunch = false) (hrow : (b.punch.row = none ∧ b.punch.state = .fault) ∨
      ∃ r, b.punch.row = some r ∧ r.stage = .advanceDue) :
    FollowUp b t ∧ Runs b t ∧ b.grantIfFree.GrantStands t ∧ t.arb.holder ≠ some .punch ∧ t.arb.waitPunch = false ∧
      (b.punch.row = none → t.punch = b.punch) ∧ ∀ r, b.punch.row = some r → ∃ r', t.punch.row = some r' ∧
        r'.content = r.content ∧ ((r'.stage = .advanceDue ∧ t.advanceBlocked = true) ∨
          (r'.stage = .advancing ∧ t.advanceBlocked = false)) := by
  obtain ⟨w, hw'⟩ : ∃ w, w = b.grantIfFree := ⟨_, rfl⟩
  obtain ⟨hpunch, hwait, hholder⟩ := State.grantIfFree_punch hw
  rw [← hw'] at ht hpunch hwait hholder ⊢
  have hrw : Runs b w := hw' ▸ b.grantIfFree_runs
  have hrt : Runs w t := ht ▸ w.settle_runs
  refine ⟨(hw' ▸ b.grantIfFree_followUp : FollowUp b w).trans (ht ▸ w.settle_followUp), hrw.trans hrt, hrt.held, ?_⟩
  have hready : ∀ v, Readies w v → v.arb.holder ≠ some .punch ∧ v.arb.waitPunch = false := fun v hv =>
    ⟨hv.holder.elim (fun e => e ▸ hholder hh) (fun e => by rw [e]; nofun), hv.waits.2.trans hwait⟩
  obtain ⟨hnone, hfault⟩ | ⟨r, hr, hdue⟩ := hrow
  · have hrest := State.settle_of_rowless (u := w) (by rw [hpunch, hnone]) (.inr (.inl (by rw [hpunch, hfault])))
    rw [ht] at hrest
    obtain ⟨hnot, hno⟩ := hready t hrest
    exact ⟨hnot, hno, fun _ => hrest.punch.trans hpunch, fun r hr => nomatch hnone.symm.trans hr⟩
  · obtain ⟨v, hv, -, e⟩ := State.settle_of_row (u := w) (r := r) (by rw [hpunch, hr])
    obtain ⟨hnot, hno⟩ := hready v hv
    rw [ht] at e
    subst e
    refine ⟨hnot, hno, fun hn => (nomatch hn.symm.trans hr), fun r' hr' => ⟨_, rfl, ?_⟩⟩
    obtain rfl := Option.some.inj (hr.symm.trans hr')
    have hblocked : v.advanceBlocked = true ∨ v.advanceBlocked = false := by cases v.advanceBlocked <;> simp
    obtain hb | hb := hblocked
    · rw [if_neg (by simp [hb])]
      exact ⟨rfl, .inl ⟨hdue, hb⟩⟩
    · rw [if_pos ⟨hdue, hb⟩]
      exact ⟨rfl, .inr ⟨rfl, hb⟩⟩

end Sys2Proof.Machine
end

section
/-! # Tests, their findings, and the sweeps -/
namespace Sys2Proof.Machine

/-! ### What a finding leaves -/

theorem channelIndex_channelAt {i : Nat} (h : i < 17) : channelIndex (channelAt i) = i := by
  unfold channelAt
  by_cases h7 : i < 7
  · rw [dif_pos h7]
    rfl
  · rw [dif_neg h7]
    by_cases h15 : i - 7 < 8
    · rw [dif_pos h15]
      show 7 + (i - 7) = i
      omega
    · rw [dif_neg h15]
      by_cases e : i = 15
      · rw [if_pos e, e]
        rfl
      · rw [if_neg e]
        show 16 = i
        omega

theorem channelAt_needle {i : Nat} (h : i < 7) : channelAt i = .needle ⟨i, h⟩ := dif_pos h

theorem State.toOwner_punch (s : State) {i : Nat} (h : 7 ≤ i) (h' : i ≤ 15) : s.toOwner (channelAt i) = s.punchFault := by
  unfold channelAt
  rw [dif_neg (by omega)]
  by_cases e : i - 7 < 8
  · rw [dif_pos e]
    rfl
  · rw [dif_neg e, if_pos (by omega)]
    rfl

/-- `v` is `s` with the finding of an off-state test of the channel at `i` taken (R193, R195, R196). -/
structure Merged (s : State) (i : Nat) (f : TestFinding) (v : State) : Prop where
  frame : v = { s with
    arb := { s.arb with waitPrint := v.arb.waitPrint, waitPunch := v.arb.waitPunch }
    printer := v.printer
    punch := v.punch
    diag := { s.diag with
      codes := v.diag.codes, latched := v.diag.latched, again := v.diag.again, idleSince := v.diag.idleSince } }
  codes : v.diag.codes = s.diag.codes.modify i (mergeCode (findingCode f))
  latched : f ≠ .passed → Event.selfCheck ∈ v.diag.latched
  passed : f = .passed → v.printer.excluded = s.printer.excluded ∧ v.arb = s.arb
  needle : f ≠ .passed → i < 7 → i ∈ v.printer.excluded
  third : f ≠ .passed → i < 7 → i ∉ s.printer.excluded → s.printer.excluded.length = 2 →
    s.printer.state = .ready → s.printer.motion = .none → v.printer.state = .fault
  punch : f ≠ .passed → 7 ≤ i → i ≤ 15 → (∀ r, s.punch.row = some r → r.stage ≠ .firing) → v.punch.state = .fault
  motion : f ≠ .passed → i = 16 → v.printer.state = .fault ∧ v.printer.column = none ∧ v.printer.motion = .none

theorem State.offStateFinding_failing (s : State) (ch : Channel) {f : TestFinding} (h : f ≠ .passed) :
    s.offStateFinding ch f = ((s.latch .selfCheck).mergeFinding ch (findingCode f)).toOwner ch := by
  cases f with
  | passed => exact absurd rfl h
  | opened => rfl
  | shorted => rfl

theorem State.offStateFinding_merged (s : State) {i : Nat} (h : i < 17) (f : TestFinding) :
    Merged s i f (s.offStateFinding (channelAt i) f) := by
  have hcodes : ∀ u : State, u.diag.codes = s.diag.codes →
      (u.mergeFinding (channelAt i) (findingCode f)).diag.codes = s.diag.codes.modify i (mergeCode (findingCode f)) :=
    fun u hu => (updateAt_eq_modify _ _ _).trans (by rw [channelIndex_channelAt h, hu])
  by_cases hf : f = .passed
  · subst hf
    exact ⟨rfl, hcodes s rfl, absurd rfl, fun _ => ⟨rfl, rfl⟩, absurd rfl, absurd rfl, absurd rfl, absurd rfl⟩
  · rw [State.offStateFinding_failing s _ hf]
    obtain ⟨b, hb⟩ : ∃ b, b = (s.latch .selfCheck).mergeFinding (channelAt i) (findingCode f) := ⟨_, rfl⟩
    have hown : Owned b (b.toOwner (channelAt i)) := b.toOwner_owned _
    have hprinter : b.printer = s.printer := by rw [hb]; rfl
    have hpunch : b.punch = s.punch := by rw [hb]; rfl
    have hlatched : Event.selfCheck ∈ b.diag.latched := by
      rw [hb]
      exact (State.mem_latch s .selfCheck .selfCheck).2 (.inl rfl)
    rw [← hb]
    have hframe := hown.frame
    refine ⟨?_, ((congrArg (fun x => x.diag.codes) hframe :)).trans ?_, fun _ => ?_, fun h => absurd h hf, fun _ h7 => ?_,
      fun _ h7 hn hlen hs hm => ?_, fun _ h7 h15 hrow => ?_, fun _ h16 => ?_⟩
    · have hdiag := (congrArg State.diag hframe :)
      generalize b.toOwner (channelAt i) = v at hframe hdiag ⊢
      rw [hdiag]
      generalize v.arb.waitPrint = x1, v.arb.waitPunch = x2, v.printer = x3, v.punch = x4, v.diag.idleSince = x5 at hframe ⊢
      rw [hframe, hb]
      rfl
    · exact hb ▸ hcodes _ rfl
    · rw [(congrArg (fun x => x.diag.latched) hframe :)]
      exact hlatched
    · rw [channelAt_needle h7]
      obtain ⟨hmem, e⟩ | ⟨-, -, e⟩ := b.excludeNeedle_cases i
      · show i ∈ (b.excludeNeedle i).printer.excluded
        rw [e]
        exact hmem
      · show i ∈ (b.excludeNeedle i).printer.excluded
        rw [e]
        simp
    · rw [channelAt_needle h7]
      show (b.excludeNeedle i).printer.state = .fault
      rw [State.excludeNeedle_of_third (by rwa [hprinter]) (by rw [hprinter, hlen]) (by rw [hprinter, hs]; nofun),
        State.needleFault_of_idle (by rw [hprinter]; exact hm) (.inl (by rw [hprinter, hs]; nofun))]
      obtain ⟨_, _, e, -⟩ := State.enterPrinterFault_frame
        { b with printer := { b.printer with excluded := b.printer.excluded ++ [i] } }
      rw [e]
    · rw [State.toOwner_punch b h7 h15]
      obtain ⟨hs, e⟩ | ⟨-, ⟨r, hr, hs, -⟩ | ⟨-, _, e⟩⟩ := b.punchFault_cases
      · rw [e]
        exact hs
      · exact absurd hs (hrow r (hpunch ▸ hr))
      · rw [e]
    · subst h16
      obtain ⟨-, hs, hm, hc, -⟩ := b.motionFault_printer
      exact ⟨hs, hc, hm⟩

/-! ### What stands through the rest of a test's end -/

/-- What the steps after a finding leave of it, and of a grant given (R162, R195, R196). -/
structure Passes (s t : State) : Prop where
  now : t.now = s.now
  codes : t.diag.codes = s.diag.codes
  latched : t.diag.latched = s.diag.latched
  excluded : t.printer.excluded = s.printer.excluded
  column : t.printer.column = s.printer.column
  printerFault : s.printer.state = .fault → t.printer.state = .fault ∧ t.printer.motion = s.printer.motion
  punchFault : s.punch.state = .fault → t.punch.state = .fault
  grant : s.GrantStands t

/-- What `Passes` reads. -/
def State.foundView (s : State) := (s.now, s.diag.codes, s.diag.latched, s.printer, s.punch, s.arb)

theorem Passes.same {s t : State} (h : t.foundView = s.foundView) : Passes s t := by
  simp only [State.foundView, Prod.mk.injEq] at h
  obtain ⟨hnow, hcodes, hlatched, hprinter, hpunch, harb⟩ := h
  exact ⟨hnow, hcodes, hlatched, by rw [hprinter], by rw [hprinter], fun h => by rw [hprinter]; exact ⟨h, rfl⟩,
    fun h => by rw [hpunch]; exact h, fun _ => by rw [harb]; exact ⟨rfl, rfl, rfl⟩⟩

theorem Passes.trans {s t u : State} (h : Passes s t) (k : Passes t u) : Passes s u where
  now := k.now.trans h.now
  codes := k.codes.trans h.codes
  latched := k.latched.trans h.latched
  excluded := k.excluded.trans h.excluded
  column := k.column.trans h.column
  printerFault hs := by
    obtain ⟨ht, hm⟩ := h.printerFault hs
    obtain ⟨hu, km⟩ := k.printerFault ht
    exact ⟨hu, km.trans hm⟩
  punchFault hs := k.punchFault (h.punchFault hs)
  grant hs := by
    obtain ⟨hholder, huntil, hlast⟩ := h.grant hs
    obtain ⟨kholder, kuntil, klast⟩ := k.grant (by rwa [hholder])
    exact ⟨kholder.trans hholder, kuntil.trans huntil, klast.trans hlast⟩

theorem Passes.of_followUp {s t : State} (h : FollowUp s t) (hr : Runs s t)
    (hm : s.printer.state = .fault → t.printer.motion = s.printer.motion) : Passes s t :=
  ⟨h.now, h.codes, h.latched, h.excluded, h.column, fun hs => ⟨h.printerFault.2 hs, hm hs⟩, h.punchFault.2, hr.held⟩

theorem State.grantIfFree_passes (s : State) : Passes s s.grantIfFree :=
  .of_followUp s.grantIfFree_followUp s.grantIfFree_runs fun _ =>
    (congrArg (fun x => x.printer.motion) s.grantIfFree_grants.frame :)

theorem State.printerRun_passes (s : State) : Passes s s.printerRun :=
  .of_followUp s.printerRun_followUp s.printerRun_walks.runs fun h => by
    rw [State.printerRun_of_stopped (by rw [h]; nofun) (by rw [h]; nofun)]

theorem State.punchRun_passes (s : State) : Passes s s.punchRun :=
  .of_followUp s.punchRun_followUp s.punchRun_runs fun _ => (congrArg Printer.motion s.punchRun_printer :)

theorem State.settle_passes (s : State) : Passes s s.settle :=
  .of_followUp s.settle_followUp s.settle_runs fun h =>
    (congrArg Printer.motion (State.settle_printer_of_unavailable (.inr h)) :)

/-- STARTING may end, and the Sender take up its work (R198). -/
theorem State.checkStarting_frame (s : State) : ∃ (r : Sender) (b : Bool), s.checkStarting = { s with
    sender := r, diag := { s.diag with starting := b } } ∧ (s.driversHeld = false → s.keys.seeding = 16 → b = false) := by
  rw [State.checkStarting_eq]
  split
  · obtain ⟨r, e, -⟩ := State.workAppears_frame { s with diag := { s.diag with starting := false } }
    exact ⟨r, false, e, fun _ _ => rfl⟩
  · rename_i h
    refine ⟨s.sender, s.diag.starting, rfl, fun hd hk => ?_⟩
    refine Classical.byContradiction fun hs => ?_
    exact h ⟨by simpa using hs, hd, hk⟩

theorem State.checkStarting_passes (s : State) : Passes s s.checkStarting := by
  obtain ⟨r, b, e, -⟩ := s.checkStarting_frame
  rw [e]
  exact .same rfl

/-! ### A sweep's next channel -/

/-- The sweep `w` with the result of its channel, at its next channel (R197). -/
def Sweep.next (w : Sweep) (r : Option TestFinding) : Sweep :=
  { kind := w.kind, index := w.index + 1, findings := w.findings.set w.index r, stage := .due }

section
variable {s : State} {w : Sweep} (hw : s.diag.sweep.map Sweep.place = some w.place) (r : Option TestFinding)
include hw

theorem State.advanceSweep_eq : s.advanceSweep r =
    if w.index < 16 then { s with diag := { s.diag with sweep := some (w.next r) } } else s.endSweep (w.next r) := by
  obtain ⟨x, hx, hplace⟩ := Option.map_eq_some_iff.1 hw
  simp only [Sweep.place, Prod.mk.injEq] at hplace
  obtain ⟨hkind, hindex, hfindings⟩ := hplace
  unfold State.advanceSweep
  rw [hx]
  simp only [hkind, hindex, hfindings]
  exact ite_congr (propext (by omega)) (fun _ => rfl) fun _ => rfl

theorem State.advanceSweep_passes : Passes s (s.advanceSweep r) := by
  rw [State.advanceSweep_eq hw r]
  split
  · exact .same rfl
  · unfold State.endSweep
    cases (w.next r).kind with
    | selfCheck =>
      dsimp only
      split <;> exact .same rfl
    | status => exact .same rfl
    | idle => exact .same rfl

end

/-- `t` is `s` with the sweep `w` gone on to its next channel, or ended (R197, R198, R202). -/
structure GoneOn (s : State) (w : Sweep) (r : Option TestFinding) (t : State) : Prop where
  next : w.index < 16 → ∃ w', t.diag.sweep = some w' ∧ w'.kind = w.kind ∧ w'.index = w.index + 1 ∧
    w'.findings = w.findings.set w.index r
  status : w.index = 16 → w.kind = .status → t.diag.sweep = none ∧ t.diag.request = .pending ∧
    t.diag.findings = w.findings.set 16 r ∧ t.store.requests = s.store.requests ++ [.status]
  idle : w.index = 16 → w.kind = .idle → t.diag.sweep = none ∧ t.diag.request = s.diag.request
  selfCheck : w.index = 16 → w.kind = .selfCheck → t.driversHeld = false ∧
    (s.keys.seeding = 16 → t.diag.starting = false) ∧
    (s.diag.request = .sweeping → ∃ w', t.diag.sweep = some w' ∧ w'.kind = .status ∧ w'.index = 0 ∧
      w'.findings = List.replicate 17 none) ∧
    (s.diag.request ≠ .sweeping → t.diag.sweep = none)

/-- What the follow-ups before and after leave of that: from `s` to `u`, where the sweep goes on, and from there to `z`,
where STARTING may end. -/
theorem GoneOn.of_steps {s u z : State} {w : Sweep} {r : Option TestFinding} (hw : s.diag.sweep = some w)
    (hu : FollowUp s u) (hru : Runs s u) (hz : FollowUp (u.advanceSweep r) z) (hrz : Runs (u.advanceSweep r) z) :
    GoneOn s w r z.checkStarting.settle := by
  have hplace : u.diag.sweep.map Sweep.place = some w.place := by rw [hru.place, hw]; rfl
  obtain ⟨sender, starting, hcheck, hstarting⟩ := z.checkStarting_frame
  have hf := z.checkStarting.settle_followUp
  have hr := z.checkStarting.settle_runs
  have hsweep : z.checkStarting.diag.sweep = z.diag.sweep := by rw [hcheck]
  have hrequest : z.checkStarting.settle.diag.request = (u.advanceSweep r).diag.request :=
    hf.request.trans (by rw [hcheck]; exact hz.request)
  obtain ⟨x, hx⟩ : ∃ x, x = u.advanceSweep r := ⟨_, rfl⟩
  have hgo := hx.trans (State.advanceSweep_eq hplace r)
  rw [← hx] at hz hrz hrequest
  have some_of : ∀ w', x.diag.sweep = some w' → ∃ w'', z.checkStarting.settle.diag.sweep = some w'' ∧
      w''.kind = w'.kind ∧ w''.index = w'.index ∧ w''.findings = w'.findings := fun w' h' => by
    obtain ⟨y, hy, hkind, hindex, hfindings⟩ := hrz.sweep h'
    obtain ⟨y', hy', hkind', hindex', hfindings'⟩ := hr.sweep (hsweep.trans hy)
    exact ⟨y', hy', hkind'.trans hkind, hindex'.trans hindex, hfindings'.trans hfindings⟩
  have none_of : x.diag.sweep = none → z.checkStarting.settle.diag.sweep = none := fun h' =>
    hr.sweep_none (hsweep.trans (hrz.sweep_none h'))
  constructor
  case next =>
    intro hi
    rw [if_pos hi] at hgo
    exact some_of (w.next r) (by rw [hgo])
  all_goals
    intro hi hk
    rw [if_neg (by omega)] at hgo
    unfold State.endSweep Sweep.next at hgo
    simp only [hk] at hgo
  case status =>
    refine ⟨none_of (by rw [hgo]; rfl), hrequest.trans (by rw [hgo]; rfl), ?_, ?_⟩
    · rw [hf.findings, hcheck]
      exact hz.findings.trans (by rw [hgo, ← hi]; rfl)
    · rw [hf.requests, hcheck]
      refine hz.requests.trans ?_
      rw [hgo, ← hu.requests]
      rfl
  case idle => exact ⟨none_of (by rw [hgo]), hrequest.trans (by rw [hgo]; exact hu.request)⟩
  case selfCheck =>
    have hkeys : z.keys = s.keys := by
      rw [hz.keys, hgo]
      split <;> exact hu.keys
    have hheld : x.driversHeld = false := by
      rw [hgo]
      split <;> rfl
    have hzheld : z.driversHeld = false := hrz.driversHeld.trans hheld
    refine ⟨?_, fun hseed => ?_, fun hs => ?_, fun hs => none_of ?_⟩
    · rw [hr.driversHeld, hcheck]
      exact hzheld
    · rw [hf.starting, hcheck]
      exact hstarting hzheld (by rw [hkeys, hseed])
    · refine some_of { kind := .status, index := 0, findings := List.replicate 17 none, stage := .due } ?_
      rw [hgo, if_pos (by rw [hu.request, hs]; rfl)]
      rfl
    · rw [hgo, if_neg (by rw [hu.request]; simpa using hs)]

end Sys2Proof.Machine
end

section
/-! # The ends of grants, tests and sweeps -/
namespace Sys2Proof.Machine

theorem GoneOn.congr {s s' t : State} {w : Sweep} {r : Option TestFinding} (h : GoneOn s' w r t)
    (hrequests : s'.store.requests = s.store.requests) (hseeding : s'.keys.seeding = s.keys.seeding)
    (hrequest : s'.diag.request = s.diag.request) : GoneOn s w r t :=
  ⟨h.next, hrequests ▸ h.status, hrequest ▸ h.idle, hseeding ▸ hrequest ▸ h.selfCheck⟩

/-! ### The end of a TEST grant -/

/-- The supply and the test given up (R162, R195). -/
def State.testGivenUp (v : State) : State :=
  { v with arb := { v.arb with holder := none }, diag := { v.diag with testing := none } }

/-- The supply granted to a party that waits, and what had waited for the test taken up (log 19). -/
def State.afterTest (u : State) : State := u.grantIfFree.printerRun.punchRun

theorem State.afterTest_followUp (u : State) : FollowUp u u.afterTest :=
  (u.grantIfFree_followUp.trans (State.printerRun_followUp _)).trans (State.punchRun_followUp _)

theorem State.afterTest_runs (u : State) : Runs u u.afterTest :=
  (u.grantIfFree_runs.trans (State.printerRun_walks _).runs).trans (State.punchRun_runs _)

theorem State.afterTest_passes (u : State) : Passes u.grantIfFree u.afterTest :=
  (State.printerRun_passes _).trans (State.punchRun_passes _)

theorem exec_grantEnd_test {s : State} (hp : s.powered = true) (f : TestFinding) {i : Nat} {b : Bool}
    (hh : s.arb.holder = some .test) (hx : s.diag.testing = some { index := i, counts := b }) {u : State}
    (hu : u = ((s.reach s.arb.until').offStateFinding (channelAt i) f).testGivenUp.afterTest) :
    exec (.grantEnd f) s = .next (State.settle (State.checkStarting (if b = true then u.advanceSweep (some f) else u))) := by
  show execGrantEnd f s = _
  rw [execGrantEnd, whenPowered_of_powered hp, hu]
  simp only [hh]
  unfold State.endTestGrant
  simp only [State.reach, hx]
  rfl

/-- What the end of a test leaves of its finding: the rest of it stands through the hand-back and what follows (R195,
R196). -/
structure TestEnded (s : State) (i : Nat) (f : TestFinding) (t : State) : Prop where
  now : t.now = max s.now s.arb.until'
  codes : t.diag.codes = s.diag.codes.modify i (mergeCode (findingCode f))
  latched : f ≠ .passed → Event.selfCheck ∈ t.diag.latched
  passed : f = .passed → t.printer.excluded = s.printer.excluded
  needle : f ≠ .passed → i < 7 → i ∈ t.printer.excluded
  third : f ≠ .passed → i < 7 → i ∉ s.printer.excluded → s.printer.excluded.length = 2 →
    s.printer.state = .ready → s.printer.motion = .none → t.printer.state = .fault
  punch : f ≠ .passed → 7 ≤ i → i ≤ 15 → (∀ r, s.punch.row = some r → r.stage ≠ .firing) → t.punch.state = .fault
  motion : f ≠ .passed → i = 16 → t.printer.state = .fault ∧ t.printer.column = none ∧ t.printer.motion = .none

theorem TestEnded.of_merged {s v t : State} {i : Nat} {f : TestFinding} (h : Merged (s.reach s.arb.until') i f v)
    (k : Passes v.testGivenUp.grantIfFree t) : TestEnded s i f t := by
  have hpasses := (State.grantIfFree_passes v.testGivenUp).trans k
  refine ⟨hpasses.now.trans (congrArg State.now h.frame :), hpasses.codes.trans h.codes, fun hf => ?_,
    fun hf => hpasses.excluded.trans (h.passed hf).1, fun hf hi => ?_,
    fun hf hi hn hl hs hm => (hpasses.printerFault (h.third hf hi hn hl hs hm)).1,
    fun hf h7 h15 hr => hpasses.punchFault (h.punch hf h7 h15 hr), fun hf hi => ?_⟩
  · rw [hpasses.latched]
    exact h.latched hf
  · rw [hpasses.excluded]
    exact h.needle hf hi
  · obtain ⟨hs, hc, hm⟩ := h.motion hf hi
    obtain ⟨ks, km⟩ := hpasses.printerFault hs
    exact ⟨ks, hpasses.column.trans hc, km.trans hm⟩

/-- The end of a test in turn (R195, R197). -/
theorem State.testEnds {s v t : State} {f : TestFinding} {w : Sweep} (hv : Merged (s.reach s.arb.until') w.index f v)
    (hw : s.diag.sweep = some w) (ht : (v.testGivenUp.afterTest.advanceSweep (some f)).checkStarting.settle = t) :
    TestEnded s w.index f t ∧ GoneOn s w (some f) t ∧ v.testGivenUp.grantIfFree.GrantStands t := by
  have hsweep : v.testGivenUp.diag.sweep = some w := ((congrArg (fun x => x.diag.sweep) hv.frame :)).trans hw
  have hplace : v.testGivenUp.afterTest.diag.sweep.map Sweep.place = some w.place := by
    rw [v.testGivenUp.afterTest_runs.place, hsweep]
    rfl
  have hpasses : Passes v.testGivenUp.grantIfFree t := ht ▸
    ((v.testGivenUp.afterTest_passes.trans (State.advanceSweep_passes hplace _)).trans (State.checkStarting_passes _)).trans
      (State.settle_passes _)
  refine ⟨.of_merged hv hpasses, ?_, hpasses.grant⟩
  have hgo := GoneOn.of_steps (r := some f) hsweep v.testGivenUp.afterTest_followUp v.testGivenUp.afterTest_runs
    (.refl _) (.refl _)
  exact (ht ▸ hgo).congr (congrArg (fun x : State => x.store.requests) hv.frame :)
    (congrArg (fun x : State => x.keys.seeding) hv.frame :) (congrArg (fun x : State => x.diag.request) hv.frame :)

/-- The end of a test that an abandoned idle sweep left running moves no sweep on (R197). -/
theorem State.abandonedTestEnds {s v t : State} {f : TestFinding} {i : Nat} (hv : Merged (s.reach s.arb.until') i f v)
    (ht : v.testGivenUp.afterTest.checkStarting.settle = t) : TestEnded s i f t ∧
      t.diag.request = s.diag.request ∧ t.diag.findings = s.diag.findings ∧
      t.diag.sweep.map Sweep.place = s.diag.sweep.map Sweep.place := by
  subst ht
  obtain ⟨r, b, e, -⟩ := v.testGivenUp.afterTest.checkStarting_frame
  have hu := v.testGivenUp.afterTest_followUp
  have hru := v.testGivenUp.afterTest_runs
  have hf := v.testGivenUp.afterTest.checkStarting.settle_followUp
  have hr := v.testGivenUp.afterTest.checkStarting.settle_runs
  refine ⟨.of_merged hv ((v.testGivenUp.afterTest_passes.trans (State.checkStarting_passes _)).trans (State.settle_passes _)),
    ?_, ?_, ?_⟩
  · rw [hf.request, e]
    exact hu.request.trans (congrArg (fun x => x.diag.request) hv.frame :)
  · rw [hf.findings, e]
    exact hu.findings.trans (congrArg (fun x => x.diag.findings) hv.frame :)
  · rw [hr.place, e]
    exact hru.place.trans (congrArg (fun x => x.diag.sweep.map Sweep.place) hv.frame :)

/-! ### A test not granted, and the idle sweep -/

section
variable {s : State} (hp : s.powered = true)
include hp

theorem exec_testRequestTimeout {w : Sweep} {since : Nat} (hw : s.diag.sweep = some w) (hs : w.stage = .waiting since) {u : State}
    (hu : u = (s.reach (since + ms 200)).withdraw .test) : exec .testRequestTimeout s = .next (State.settle (State.checkStarting
      ((if w.kind = .selfCheck then u.latch .selfCheck else u).advanceSweep none).printerRun.punchRun)) := by
  show execTestRequestTimeout s = _
  rw [execTestRequestTimeout, whenPowered_of_powered hp, hu]
  simp only [hw, hs, beq_iff_eq]

theorem exec_idleSweep {since : Nat} (hi : s.diag.idleSince = some since) (hs : s.printer.state = .ready) {u : State}
    (hu : u = { s.reach (since + ms 60000) with
      diag := { s.diag with idleSince := some (max s.now (since + ms 60000)) } }) :
    exec .idleSweep s = .next (if s.diag.sweep.isSome = true then u else (u.beginSweep .idle).settle) := by
  show execIdleSweep s = _
  rw [execIdleSweep, whenPowered_of_powered hp, hu]
  simp only [hi]
  exact congrArg _ (if_pos (beq_iff_eq.2 hs))

end

/-- A test request not granted leaves its channel untested, and the sweep goes on (R195, R198). -/
theorem State.testRequestEnds {u t : State} {w : Sweep} (hw : u.diag.sweep = some w)
    (ht : (u.advanceSweep none).printerRun.punchRun.checkStarting.settle = t) :
    Passes u t ∧ GoneOn u w none t := by
  have hplace : u.diag.sweep.map Sweep.place = some w.place := by rw [hw]; rfl
  subst ht
  exact ⟨((((State.advanceSweep_passes hplace _).trans (State.printerRun_passes _)).trans (State.punchRun_passes _)).trans
      (State.checkStarting_passes _)).trans (State.settle_passes _),
    .of_steps hw (.refl _) (.refl _) ((State.printerRun_followUp _).trans (State.punchRun_followUp _))
      ((State.printerRun_walks _).runs.trans (State.punchRun_runs _))⟩

/-- Settles O54. -/
theorem grantsAndTestsEnd : Obligations.GrantsAndTestsEnd := by
  refine fun s hp => ⟨fun f k hh hw hk hs => ?_, fun f r hh hw hr => ?_, fun f w hh hx hw hi => ?_, fun f i hh hx hi => ?_,
    fun w since hw hs => ?_, fun since hi hs => ⟨fun w hw => ?_, fun hw => ?_⟩⟩
  · refine ⟨_, exec_grantEnd_print hp f hh hk hs, ?_⟩
    obtain ⟨b, hb⟩ : ∃ b : State, b = { s.reach s.arb.until' with
      arb := { s.arb with holder := none }
      printer := { s.printer with hand := some { k with stage := .stepDue } } } := ⟨_, rfl⟩
    rw [← hb]
    obtain ⟨t, ht⟩ : ∃ t, b.grantIfFree.settle = t := ⟨_, rfl⟩
    rw [ht]
    obtain ⟨hf, hruns, hgrant, k', hk', hcases, hstep⟩ := State.printGrantEnded ht (by rw [hb]; exact hw) (by rw [hb]) rfl
    subst hb
    obtain ⟨hwait, hholder, -⟩ := hruns.print hw
    refine ⟨hf.now, hf.pacer, hf.codes, hholder nofun, hwait, fun hl hn => (State.granted_test hgrant hf.now rfl hl hn :),
      fun hl hn hq => State.granted_punch hgrant hf.now rfl hl hn hq (.inl hw), fun hl => hruns.low hl rfl,
      k', hk', ?_, ?_, ?_, hstep⟩
    all_goals obtain rfl | rfl := hcases
    · rfl
    · rfl
    · rfl
    · rfl
    · exact .inl rfl
    · exact .inr rfl
  · obtain ⟨b, hexec, hnow, harb, hfault, hdue, hrow⟩ : ∃ b : State, exec (.grantEnd f) s = .next b.grantIfFree.settle ∧
        b.now = max s.now s.arb.until' ∧ b.arb = { s.arb with holder := none } ∧
        (s.punch.faultPending = true → b.punch.row = none ∧ b.punch.state = .fault) ∧
        (s.punch.faultPending = false → ∃ r', b.punch.row = some r' ∧ r'.content = r.content ∧ r'.stage = .advanceDue) ∧
        ((b.punch.row = none ∧ b.punch.state = .fault) ∨ ∃ r', b.punch.row = some r' ∧ r'.stage = .advanceDue) := by
      obtain ⟨hyes, hno⟩ := exec_grantEnd_punch hp f hh
      cases hf : s.punch.faultPending with
      | true => exact ⟨_, hyes hf, rfl, rfl, fun _ => ⟨rfl, rfl⟩, nofun, .inl ⟨rfl, rfl⟩⟩
      | false => exact ⟨_, hno r hf hr, rfl, rfl, nofun, fun _ => ⟨_, rfl, rfl, rfl⟩, .inr ⟨_, rfl, rfl⟩⟩
    obtain ⟨t, ht⟩ : ∃ t, b.grantIfFree.settle = t := ⟨_, rfl⟩
    obtain ⟨hf, hruns, hgrant, hholder, hwait, hnone, hsome⟩ :=
      State.punchGrantEnded ht (by rw [harb]) (by rw [harb]; exact hw) hrow
    have hfree : b.arb.holder = none := by rw [harb]
    refine ⟨t, ht ▸ hexec, hf.now.trans hnow, hholder, hwait, fun hl hn => ?_, fun hl hn hq => ?_,
      fun hl => hruns.low (by rw [harb]; exact hl) hfree, fun hp => ?_, fun hp => ?_⟩
    · have h := State.granted_test hgrant hf.now hfree (by rw [harb]; exact hl) (by rw [harb]; exact hn)
      rwa [harb] at h
    · exact State.granted_print hgrant hf.now hfree (by rw [harb]; exact hl) (by rw [harb]; exact hn)
        (by rw [harb]; exact hq) (.inl (by rw [harb]; exact hw))
    · obtain ⟨hrow, hstate⟩ := hfault hp
      rw [hnone hrow]
      exact ⟨hstate, hrow⟩
    · obtain ⟨r', hr', hc, -⟩ := hdue hp
      obtain ⟨r'', hr'', hc', hstage⟩ := hsome r' hr'
      exact ⟨r'', hr'', hc'.trans hc, hstage⟩
  · have hv := (s.reach s.arb.until').offStateFinding_merged hi f
    refine ⟨_, (exec_grantEnd_test hp f hh hx rfl).trans (by rw [if_pos rfl]), ?_⟩
    obtain ⟨hended, hgo, hgrant⟩ := State.testEnds hv hw rfl
    refine ⟨hended.now, hended.codes, hended.latched, hended.passed, hended.needle, hended.third, hended.punch, hended.motion,
      fun hf hn hl => ?_, hgo.next, hgo.status, fun h h' => (hgo.idle h h').1, hgo.selfCheck⟩
    have harb := (hv.passed hf).2
    generalize (s.reach s.arb.until').offStateFinding (channelAt w.index) f = v at hv harb hgrant hended ⊢
    have harb' : v.testGivenUp.arb = { s.arb with holder := none } := by
      show ({ v.arb with holder := none } : Arbiter) = _
      rw [harb]
      rfl
    have hnow := hended.now.trans (congrArg State.now hv.frame :).symm
    exact ⟨fun hq hr => State.granted_print hgrant hnow rfl (by rw [harb']; exact hl) (by rw [harb']; exact hn)
        (by rw [harb']; exact hq) (by rw [harb']; exact hr),
      fun hq hr => State.granted_punch hgrant hnow rfl (by rw [harb']; exact hl) (by rw [harb']; exact hn)
        (by rw [harb']; exact hq) (by rw [harb']; exact hr)⟩
  · have hv := (s.reach s.arb.until').offStateFinding_merged hi f
    refine ⟨_, (exec_grantEnd_test hp f hh hx rfl).trans (by rw [if_neg nofun]), ?_⟩
    obtain ⟨hended, hrequest, hfindings, hplace⟩ := State.abandonedTestEnds hv rfl
    refine ⟨hended.now, hended.codes, hended.latched, hended.passed, hended.needle, hended.punch, hended.motion, hrequest,
      hfindings, fun hn => ?_, fun w hw => ?_⟩
    · rwa [hn, Option.map_none, Option.map_eq_none_iff] at hplace
    · rw [hw, Option.map_some, Option.map_eq_some_iff] at hplace
      obtain ⟨w', hw', he⟩ := hplace
      simp only [Sweep.place, Prod.mk.injEq] at he
      exact ⟨w', hw', he⟩
  · refine ⟨_, exec_testRequestTimeout hp hw hs rfl, ?_⟩
    by_cases hk : w.kind = .selfCheck
    · rw [if_pos hk]
      obtain ⟨hpasses, hgo⟩ := State.testRequestEnds
        (u := ((s.reach (since + ms 200)).withdraw .test).latch .selfCheck) (w := w) hw rfl
      refine ⟨hpasses.now, hpasses.codes, fun _ => ?_, hgo.next, hgo.status, hgo.idle, hgo.selfCheck⟩
      rw [hpasses.latched]
      exact (State.mem_latch _ .selfCheck .selfCheck).2 (.inl rfl)
    · rw [if_neg hk]
      obtain ⟨hpasses, hgo⟩ := State.testRequestEnds
        (u := (s.reach (since + ms 200)).withdraw .test) (w := w) hw rfl
      exact ⟨hpasses.now, hpasses.codes, fun h => absurd h hk, hgo.next, hgo.status, hgo.idle, hgo.selfCheck⟩
  · exact (exec_idleSweep hp hi hs rfl).trans (by rw [if_pos (by rw [hw]; rfl)])
  · refine ⟨_, (exec_idleSweep hp hi hs rfl).trans (by rw [if_neg (by rw [hw]; nofun)]), ?_⟩
    have hf := State.settle_followUp (State.beginSweep { s.reach (since + ms 60000) with
      diag := { s.diag with idleSince := some (max s.now (since + ms 60000)) } } .idle)
    have hr := State.settle_runs (State.beginSweep { s.reach (since + ms 60000) with
      diag := { s.diag with idleSince := some (max s.now (since + ms 60000)) } } .idle)
    obtain ⟨w', hw', hkind, hindex, -⟩ := hr.sweep rfl
    exact ⟨hf.now, w', hw', hkind, hindex, hf.latched⟩

end Sys2Proof.Machine
end
